-- ==== Sys2Proof/Word.lean ====
section
/-! DEFINITION. The words the NM212 manual treats as bits: octets, node time, run numbers, sequence numbers and
check sequences ("Conventions", 00_scope.md). Everything else of the model is a natural number, an integer or an
enumeration. -/

namespace Sys2Proof

/-- One octet of a frame, of the profile image or of a service answer. -/
abbrev Byte := BitVec 8

/-- Node time: a 32-bit count of milliseconds that wraps (R1). -/
abbrev Time := BitVec 32

/-- A run number, compared modulo 65,536 (R124). -/
abbrev RunNo := BitVec 16

/-- A frame's sequence number, compared modulo 256 (R86). -/
abbrev SeqNo := BitVec 8

/-- A check sequence, which is also the form of a profile fingerprint (R7, R68). -/
abbrev Check := BitVec 16

/-- A node id, 0 to 7 (R5). -/
abbrev NodeId := Fin 8

end Sys2Proof
end

