-- ==== Sys2Proof/Syntax.lean ====
section
/-! DEFINITION. The commands of the NM212: one constructor of `Instr` for each row of spec/opcode_table.json, with the
operands the rows' rules name. The table gives its rows no fields: what each operand stands for is said here and in
log entries 1, 2, 12 and 15. -/

namespace Sys2Proof

/-- The four roles the straps choose among (R5). -/
inductive Role where
  | drive | car | loop | terminal
  deriving DecidableEq, Repr

/-- Side A or B of a CAR, end LOW or UP of a TERMINAL: A and LOW are the value 0, B and UP the value 1 (R5, R67). -/
inductive Side where
  | a | b
  deriving DecidableEq, Repr

/-- The levels of the six strap pins, read once at every start (R5). -/
structure Straps where
  role : Role
  side : Side
  id : NodeId
  deriving DecidableEq, Repr

/-- The two ends of a loop track (R149). -/
inductive LoopEnd where
  | low | up
  deriving DecidableEq, Repr

/-- A loop detector: the track it belongs to and its end (R146). -/
structure Detector where
  track : Side
  atEnd : LoopEnd
  deriving DecidableEq, Repr

/-- The brake units: EB and SB at the DRIVE, TB at a CAR (R158). -/
inductive BrakeId where
  | eb | sb | tb
  deriving DecidableEq, Repr

/-- A direction of run that a dispatch press can ask for (R128). -/
inductive RunDir where
  | aUp | aDown
  deriving DecidableEq, Repr

/-- The levels of the discrete inputs as they are sampled at a 1 ms tick: the keys, the contacts, the loop detectors
and the brake feedbacks. Each field is true for asserted, pressed, shut, active or lifted. -/
structure Pins where
  estop : Bool
  ack : Bool
  dispatchUp : Bool
  dispatchDown : Bool
  standDown : Bool
  standUp : Bool
  doorShut : Bool
  gateShut : Bool
  aLow : Bool
  aUp : Bool
  bLow : Bool
  bUp : Bool
  ebLifted : Bool
  sbLifted : Bool
  tbLifted : Bool
  deriving DecidableEq, Repr

/-- The receiver's buffer at a frame end, with its two marks (R66). -/
structure RxFrame where
  octets : List Byte
  framingError : Bool
  overlong : Bool
  deriving DecidableEq, Repr

/-- The commands, one for each row of spec/opcode_table.json. -/
inductive Instr where
  /-- POWER_ON: the supply supervisor releases the part (R2). -/
  | powerOn (straps : Straps)
  /-- SUPPLY_LOW: the supply falls below the low threshold (R2). -/
  | supplyLow
  /-- SUPPLY_RECOVER: the supply recovers (R2). -/
  | supplyRecover (straps : Straps)
  /-- RESET_N_ASSERT (R2). -/
  | resetNAssert
  /-- RESET_N_RELEASE (R2). -/
  | resetNRelease (straps : Straps)
  /-- HEADER_READ: the four header octets clocked in (R6). -/
  | headerRead (format revision lengthHigh lengthLow : Byte)
  /-- PROFILE_READ_DONE: the octets clocked in from offset 4 on, and the code of the marker the reader rests over, if
  it reports one (R7, R14). -/
  | profileReadDone (octets : List Byte) (marker : Option (BitVec 5))
  /-- STARTING_EXIT (R15). -/
  | startingExit
  /-- MS_TICK: the 1 ms tick, with the levels the inputs show at it (R1). -/
  | msTick (pins : Pins)
  /-- SAMPLE_TICK (R37). -/
  | sampleTick
  /-- QUADRATURE_EDGE: the levels the two encoder channels show at a 1 µs tick (R17). -/
  | quadratureEdge (first second : Bool)
  /-- MARKER_READ: the code the marker reader reports (R23). -/
  | markerRead (code : BitVec 5)
  /-- WEIGHING_GATE_END (R30). -/
  | weighingGateEnd
  /-- ESTOP_ASSERT (R167). -/
  | estopAssert
  /-- ESTOP_RELEASE (R167). -/
  | estopRelease
  /-- ACK_PRESS (R170). -/
  | ackPress
  /-- DISPATCH_PRESS, dispatch-up asking for A_UP and dispatch-down for A_DOWN (R128). -/
  | dispatchPress (dir : RunDir)
  /-- STAND_DOWN_PRESS (R184). -/
  | standDownPress
  /-- STAND_UP_PRESS (R182). -/
  | standUpPress
  /-- DOOR_CONTACT_CHANGE (R142). -/
  | doorContactChange
  /-- GATE_CONTACT_CHANGE (R143). -/
  | gateContactChange
  /-- DETECTOR_RISE (R150). -/
  | detectorRise (detector : Detector)
  /-- DETECTOR_FALL (R151). -/
  | detectorFall (detector : Detector)
  /-- FEEDBACK_LIFTED (R160). -/
  | feedbackLifted (brake : BrakeId)
  /-- FEEDBACK_APPLIED (R162). -/
  | feedbackApplied (brake : BrakeId)
  /-- FIXED_LIFT_DONE (R160). -/
  | fixedLiftDone (brake : BrakeId)
  /-- LIFT_TIMEOUT (R160). -/
  | liftTimeout (brake : BrakeId)
  /-- HOLD_CHECK (R162). -/
  | holdCheck (brake : BrakeId)
  /-- RELEASE_CHECK (R162). -/
  | releaseCheck (brake : BrakeId)
  /-- BEACON_DUE (R74). -/
  | beaconDue
  /-- ATTEMPT_START (R71). -/
  | attemptStart
  /-- LINE_LOST (R72). -/
  | lineLost
  /-- ATTEMPT_COMPLETE (R73). -/
  | attemptComplete
  /-- RECEIVE_BAD_FRAME: the frame that the receiver has gathered ends, and is discarded (R77). -/
  | receiveBadFrame (frame : RxFrame)
  /-- RECEIVE_BEACON: the frame that the receiver has gathered ends, a well checked BEACON (R87). -/
  | receiveBeacon (frame : RxFrame)
  /-- RECEIVE_ANNOUNCE: the frame that the receiver has gathered ends, a well checked ANNOUNCE (R90). -/
  | receiveAnnounce (frame : RxFrame)
  /-- ENTRY_STALE of the entry of a node id (R84). -/
  | entryStale (id : NodeId)
  /-- ENTRY_LOST of the entry of a node id (R85). -/
  | entryLost (id : NodeId)
  /-- ARMING_DEADLINE (R132). -/
  | armingDeadline
  /-- REFUSAL_WINDOW_END (R145). -/
  | refusalWindowEnd
  /-- DOWNSHIFT (R178). -/
  | downshift
  /-- STAND_DOWN_DEADLINE (R188). -/
  | standDownDeadline
  /-- ALERT_PULSE_END (R176). -/
  | alertPulseEnd
  /-- CEILING_APPLY (R117). -/
  | ceilingApply
  /-- HIGH_PHASE_END (R116). -/
  | highPhaseEnd
  /-- PERIOD_END (R116). -/
  | periodEnd
  /-- SERVICE_SELECT (R190). -/
  | serviceSelect
  /-- SERVICE_DESELECT, with the strap levels that a RESTART begun there reads (R190, R193). -/
  | serviceDeselect (straps : Straps)
  /-- STATUS; its argument bits are ignored (R191). -/
  | status (arg : BitVec 5)
  /-- PEER k (R191). -/
  | peer (k : BitVec 5)
  /-- TRIP k (R191). -/
  | trip (k : BitVec 5)
  /-- PROFILE b (R191). -/
  | profile (b : BitVec 5)
  /-- RESTART; its argument bits are ignored (R191, R193). -/
  | restart (arg : BitVec 5)
  /-- CLEAR_HISTORY; its argument bits are ignored (R191, R193). -/
  | clearHistory (arg : BitVec 5)
  /-- UNKNOWN: a command octet of code 0, or of code 7 when `seven`; its argument bits are ignored (R191). -/
  | unknown (seven : Bool) (arg : BitVec 5)
  /-- WEIGHING_PULSE_EDGE (R29). -/
  | weighingPulseEdge
  deriving DecidableEq, Repr

end Sys2Proof
end

