-- ==== Sys2Proof/Decode.lean ====
section
/-! DEFINITION. The commands that words spell. spec/opcode_table.json gives none of its rows any bits (98_reader.md:
56 rows, none with fixed bits or fields), so no table word spells a command. The one encoding of commands that the
manual itself gives is the service port's command octet (R191): it is decoded and encoded here. -/

namespace Sys2Proof

/-- The command a table word spells: none, since the table gives no row any bits (log entry 26). -/
def decodeTableWord (_nbits _w : Nat) : Option Instr := none

/-- The command that a command octet asks the service port for: the code in the three most significant bits, the
argument in the five least significant bits (R191). -/
def decodeService (octet : Byte) : Instr :=
  let arg : BitVec 5 := octet.setWidth 5
  match octet.toNat / 32 with
  | 1 => .status arg
  | 2 => .peer arg
  | 3 => .trip arg
  | 4 => .profile arg
  | 5 => .restart arg
  | 6 => .clearHistory arg
  | 7 => .unknown true arg
  | _ => .unknown false arg

/-- The command octet of a code and an argument (R191). -/
def commandOctet (code : Nat) (arg : BitVec 5) : Byte := BitVec.ofNat 8 (code * 32 + arg.toNat)

/-- The command octet by which a maintenance controller asks for a service command (R191); none for a command that is
not asked for at the service port. -/
def encodeService : Instr → Option Byte
  | .status arg => some (commandOctet 1 arg)
  | .peer k => some (commandOctet 2 k)
  | .trip k => some (commandOctet 3 k)
  | .profile b => some (commandOctet 4 b)
  | .restart arg => some (commandOctet 5 arg)
  | .clearHistory arg => some (commandOctet 6 arg)
  | .unknown true arg => some (commandOctet 7 arg)
  | .unknown false arg => some (commandOctet 0 arg)
  | _ => none

end Sys2Proof
end

