-- ==== Sys2Proof/Config.lean ====
section
/-! DEFINITION. What the manual fixes as numbers of the part, and the two values it leaves open, which stand here as
constants with no body (free values). -/

namespace Sys2Proof

/-- FREE VALUE (log entry 6). R17 counts "plus or minus according to the phase order of the channels" and does not
say which phase order is plus: true when the first channel leading the second counts plus. -/
opaque Config.firstLeadsIsPlus : Bool

/-- FREE VALUE (log entry 7). The position in centimetres that a DRIVE or CAR reports for given position counts while
it is in STARTING and holds no profile, so that no CPM is known. R38 and R192 state it for FAULTED only. -/
opaque Config.positionWithoutProfile : Int → BitVec 24

/-- Octets the image store holds (R7). -/
def Config.storeOctets : Nat := 512

/-- The format code of a profile image (R6, R8). -/
def Config.formatCode : Byte := 0x2C#8

/-- The least image length the layout allows (R7). -/
def Config.minImage : Nat := 106

/-- Largest magnitude of a taken delta (R18). -/
def Config.takeLimit : Int := 2047

/-- The bounds of the signed 32-bit counts of R17 and R21. -/
def Config.countMax : Int := 2147483647

/-- The lower bound of the signed 32-bit counts of R17 and R21. -/
def Config.countMin : Int := -2147483648

/-- Highest speed a node states, cm/s (R19). -/
def Config.speedMax : Nat := 1400

/-- Records of the sample history (R19), which are also the samples of standstill (R20). -/
def Config.historySamples : Nat := 50

/-- Samples outside or inside at which DISAGREE moves (R33). -/
def Config.disagreeSamples : Nat := 10

/-- Saturation of an entry's age and of a weighing gate's count (R83, R29). -/
def Config.count16Max : Nat := 65535

/-- Records of the trip history (R175). -/
def Config.tripRecords : Nat := 8

/-- Saturation of the idle count (R66). -/
def Config.idleMax : Nat := 255

/-- The idle count at which a frame ends (R66). -/
def Config.frameEndIdle : Nat := 20

/-- Octets the receive buffer holds (R66). -/
def Config.rxOctets : Nat := 23

/-- Microseconds of a bit time of the signal line (R65). -/
def Config.bitMicros : Nat := 8

/-- The octets by which the loader begins a read of the profile memory: the read instruction and an offset of 0 (R6). -/
def Config.readInstruction : List Byte := [0x03#8, 0x00#8, 0x00#8]

/-- Attempts after which a frame is dropped (R72). -/
def Config.maxAttempts : Nat := 4

/-- Milliseconds after which a FEEDBACK lift times out (R160). -/
def Config.liftTimeoutMs : Nat := 2000

/-- Milliseconds a LIFTED unit may show applied (R162). -/
def Config.holdCheckMs : Nat := 100

/-- Milliseconds an APPLIED unit may show lifted after its drop (R162). -/
def Config.releaseCheckMs : Nat := 1000

/-- Length of the refusal window, ms (R128, R184). -/
def Config.refusalMs : Nat := 2000

/-- Length of a PULSE-mode ALERT, ms (R176). -/
def Config.alertMs : Nat := 10

/-- Samples over the intervention level that drop SB (R112). -/
def Config.overSamples : Nat := 3

/-- Samples within the ceiling that lift SB again (R113). -/
def Config.underSamples : Nat := 10

/-- Consecutive samples that change a loop detector's level and that release ESTOP (R148, R167). -/
def Config.debounceSamples : Nat := 3

/-- Beacons that carry WAKE after a wake event, and COMMIT beacons of a commit (R180, R185). -/
def Config.repeatBeacons : Nat := 3

/-- Microseconds of one cm/s of the ceiling output: 10 Hz for each cm/s (R116). -/
def Config.outputMicros : Nat := 100000

end Sys2Proof
end

