-- ==== Sys2Proof/Machine/State.lean ====
section
/-! DEFINITION. Everything the NM212 manual gives a node to hold, block by block, as plain data; the outcomes that stop
a step; and the state after reset. INVENTORY.md lists each field with its rule and its value at reset. -/

namespace Sys2Proof.Machine

/-! ## Enumerations -/

/-- The nine node states (R120), with the codes of R67. -/
inductive NodeState where
  | starting | dwell | hold | armed | running | stopping | tripped | night | faulted
  deriving DecidableEq, Repr

/-- Beacon classes (R74). -/
inductive BeaconClass where
  | run | still | deepStill | dormant
  deriving DecidableEq, Repr

/-- Position quality (R22). -/
inductive Quality where
  | none | reckoned | marked
  deriving DecidableEq, Repr

/-- Measured motion (R19). -/
inductive Motion where
  | stopped | up | down
  deriving DecidableEq, Repr

/-- A direction along the track (R25, R41). -/
inductive Travel where
  | up | down
  deriving DecidableEq, Repr

/-- Run direction (R41, R120). -/
inductive Direction where
  | none | aUp | aDown
  deriving DecidableEq, Repr

/-- Occupancy of a loop track (R149). -/
inductive Occupancy where
  | clear | entering | occupied | leaving
  deriving DecidableEq, Repr

/-- Freshness of a peer entry (R84). -/
inductive Freshness where
  | empty | fresh | stale | lost
  deriving DecidableEq, Repr

/-- Verification of a peer entry (R91). -/
inductive Verification where
  | unverified | matched | mismatched
  deriving DecidableEq, Repr

/-- Reset cause (R2). -/
inductive ResetCause where
  | coldPower | coldSupply | warmLine | warmService
  deriving DecidableEq, Repr

/-- Stand-down code of a beacon (R67, R183). -/
inductive StandDownCode where
  | none | request | ack | commit
  deriving DecidableEq, Repr

/-- Lift mode of a brake unit (R8, R158). -/
inductive LiftMode where
  | feedback | fixed250 | fixed500 | fixed1000
  deriving DecidableEq, Repr

/-- ALERT mode of the profile (R8, R176). -/
inductive AlertMode where
  | level | pulse
  deriving DecidableEq, Repr

/-- Outcome of the profile load (R3, R6, R7, R9, R13). -/
inductive LoadOutcome where
  | none | loaded | profileAbsent | profileCheck | profileContent | roleMismatch
  deriving DecidableEq, Repr

/-- How far the loader's read of the image has come (R6, R7): before the header, reading on, or ended. -/
inductive LoadStage where
  | header | body | ended
  deriving DecidableEq, Repr

/-- Trip causes and fault causes (R164). -/
inductive Cause where
  | overspeed | overrun | uncommandedMotion | positionConflict | markerLost | wrongTrack | loopSequence | brakeFault
  | peerTrip | stopInput | doorOpen | speedSensor
  | profileAbsent | profileCheck | profileContent | roleMismatch | idClash
  deriving DecidableEq, Repr

/-- Transmit state (R71). -/
inductive TxState where
  | idle | deferring | sending
  deriving DecidableEq, Repr

/-- The two frame kinds (R67). -/
inductive FrameKind where
  | beacon | announce
  deriving DecidableEq, Repr

/-- State of a brake unit (R158). -/
inductive UnitState where
  | applied | lifting | lifted
  deriving DecidableEq, Repr

/-- Start stage of the DRIVE (R134). -/
inductive StartStage where
  | idle | eb | sb
  deriving DecidableEq, Repr

/-- Stand-down role (R177). -/
inductive StandDownRole where
  | none | initiating | acking
  deriving DecidableEq, Repr

/-- Last outcome of a stand-down (R177). -/
inductive StandDownOutcome where
  | none | committed | expired | cancelled | yielded
  deriving DecidableEq, Repr

/-- Transaction state of the service port (R190). -/
inductive PortState where
  | idle | command | answer | mute
  deriving DecidableEq, Repr

/-- The two levels of the signal line (R65). -/
inductive LineLevel where
  | dominant | recessive
  deriving DecidableEq, Repr

/-- Phase of the ceiling output (R116). -/
inductive Phase where
  | high | low
  deriving DecidableEq, Repr

/-- A car's choice in the stop-mark record: UNDECIDED, LEG or END (R39, R42). -/
inductive StopChoice where
  | undecided | leg | trackEnd
  deriving DecidableEq, Repr

/-! ## The profile (R8) -/

/-- A listed-node table entry. -/
structure ListedNode where
  id : Nat
  role : Role
  side : Side
  dispatchEnabled : Bool
  standDownKeyEnabled : Bool
  deriving DecidableEq, Repr

/-- A segment table entry. -/
structure Segment where
  start : Nat
  limit : Nat
  k : Nat
  deriving DecidableEq, Repr

/-- A stop table entry; `loopFlag` is the stored octet. -/
structure Stop where
  position : Nat
  loopFlag : Nat
  deriving DecidableEq, Repr

/-- A marker table entry. -/
structure Marker where
  code : Nat
  position : Nat
  deriving DecidableEq, Repr

/-- The parameters and tables every block takes from the image at the hand-off (R8, R14). -/
structure Profile where
  revision : Byte
  length : Nat
  vLineMax : Nat
  vCrawl : Nat
  vCreep : Nat
  vStaleCap : Nat
  bRate : Nat
  bFloor : Nat
  dMargin : Nat
  wStop : Nat
  wMark : Nat
  wDet : Nat
  dAgree : Nat
  sStretch : Nat
  dStill : Nat
  rRope : Nat
  wMax : Nat
  tInt : Nat
  tTrip : Nat
  cpmSheave : Nat
  cpmOdo : Nat
  invertSheave : Bool
  invertOdoA : Bool
  invertOdoB : Bool
  loadOffset : Nat
  loadScale : Nat
  liftSB : LiftMode
  liftEB : LiftMode
  liftTB : LiftMode
  tArm : Nat
  tStill : Nat
  tDeep : Nat
  tSd : Nat
  alert : AlertMode
  nodes : List ListedNode
  segments : List Segment
  stopsA : List Stop
  stopsB : List Stop
  markersA : List Marker
  markersB : List Marker
  detALow : Nat
  detAUp : Nat
  detBLow : Nat
  detBUp : Nat
  deriving DecidableEq, Repr

/-! ## Power, Time Base and inputs -/

/-- The hold between a causing event and the beginning of a start (R2). -/
structure Power where
  /-- The supply is below the low threshold. -/
  supplyLow : Bool
  /-- RESET_N is asserted. -/
  resetLow : Bool
  /-- The cause of the start that will begin when the hold ends; none while the part is not held. -/
  hold : Option ResetCause
  deriving DecidableEq, Repr

/-- The Time Base (R1). -/
structure TimeBase where
  now : Time
  /-- Microseconds of the present millisecond that have passed, 0 to 999. -/
  micros : Nat
  /-- The present millisecond is a sample tick whose sample work has not been done (the model's own field). -/
  sampleDue : Bool
  deriving DecidableEq, Repr

/-- The discrete inputs: the last two samples, and what has been taken of them. -/
structure Inputs where
  pins : Pins
  previous : Pins
  /-- Consecutive samples, up to 3, that showed ESTOP released (R167). -/
  estopReleased : Nat
  /-- Door contact level of which the last change was taken (R142). -/
  doorTaken : Bool
  /-- Gate contact level of which the last change was taken (R143). -/
  gateTaken : Bool
  /-- The level that the other nodes give the signal line in each bit time to come that the receiver will sample, the
  nearest first; RECESSIVE beyond its end. The outside fills it (the model's own field, log entry 11). -/
  line : List LineLevel
  /-- The bits that the maintenance controller will clock into the selected service port, the nearest first. The outside
  fills it (the model's own field, log entry 16). -/
  service : List Bool
  deriving DecidableEq, Repr

/-! ## Profile Loader (R2 to R14) -/

/-- The Profile Loader. -/
structure Loader where
  straps : Straps
  resetCause : ResetCause
  outcome : LoadOutcome
  stage : LoadStage
  /-- Bit times of the read that have passed since the memory was selected, of 1 µs each (R6). -/
  bits : Nat
  /-- Image length of an accepted header (R7). -/
  imageLength : Nat
  /-- The image store: octets by offset, in the canonical form of `Store.wf`. -/
  store : List Host.Cell
  heldLength : Nat
  fingerprint : Check
  revision : Byte
  /-- The profile handed off, held exactly while the load outcome is LOADED (R14). -/
  profile : Option Profile
  deriving DecidableEq, Repr

/-! ## Line Access Unit (R66 to R76) -/

/-- The Line Access Unit. -/
structure LineAccess where
  tx : TxState
  inHand : Option FrameKind
  pendingBeacon : Bool
  pendingAnnounce : Bool
  attempts : Nat
  ownSeq : SeqNo
  beaconDue : Option Time
  lastAttempt : Option Time
  lastHonoured : Option Time
  /-- A bit boundary of DEFERRING has found the idle count at the deferral gap or above it: an attempt begins (R71). -/
  gapReached : Bool
  idleCount : Nat
  /-- The data bits taken of the octet in progress, least significant first; none between octets (R66). -/
  rxBits : Option (List Bool)
  rxBuffer : List Byte
  rxFramingError : Bool
  rxOverlong : Bool
  /-- The octets of the attempt in progress, as sampled at its start (R69). -/
  txFrame : List Byte
  /-- The bit times of the attempt in progress that are still to be driven (R65, R72). -/
  txBits : List LineLevel
  /-- The attempt in progress has lost the line (R72). -/
  lost : Bool
  /-- The octets of the last attempt that completed, until the frame end that follows it (R73, R79). -/
  sent : List Byte
  deriving DecidableEq, Repr

/-! ## Peer View (R81, R82) -/

/-- The beacon fields, octets 2 to 20 of a BEACON (R67), after the clamping of R78. -/
structure BeaconRec where
  state : NodeState
  cls : BeaconClass
  wake : Bool
  annReq : Bool
  run : RunNo
  dir : Direction
  leg : Option (Fin 5)
  dispatch : Bool
  consent : Bool
  recovery : Bool
  sdCode : StandDownCode
  sdId : Fin 16
  position : Option Nat
  quality : Quality
  motion : Motion
  occA : Occupancy
  occB : Occupancy
  speed : Option Nat
  vperm : Nat
  load : Option Nat
  cause : Option Cause
  overhaul : Bool
  atMark : Bool
  misaligned : Bool
  disagree : Bool
  doorsShut : Bool
  brakesLifted : Bool
  gateOpen : Bool
  commsStop : Bool
  origin : Option (NodeId × Cause)
  deriving DecidableEq, Repr

/-- The announce fields an entry holds (R82). -/
structure AnnounceRec where
  fingerprint : Check
  revision : Byte
  count : Nat
  resetCause : ResetCause
  deriving DecidableEq, Repr

/-- One entry of the peer table (R82). -/
structure Entry where
  id : NodeId
  role : Role
  side : Side
  fresh : Freshness
  verif : Verification
  age : Nat
  cls : Option BeaconClass
  lastSeq : Option SeqNo
  beacon : Option BeaconRec
  announce : Option AnnounceRec
  owed : Bool
  deriving DecidableEq, Repr

/-! ## Position Tracker (R17 to R36) -/

/-- One record of the sample history (R19). -/
structure Sample where
  delta : Int
  speed : Nat
  deriving DecidableEq, Repr

/-- The state of one agreement comparison (R33, R34). -/
structure Comparison where
  outside : Nat
  inside : Nat
  conflict : Bool
  deriving DecidableEq, Repr

/-- The Position Tracker. -/
structure Tracker where
  /-- Encoder channels at the previous 1 µs sample. -/
  first : Bool
  second : Bool
  delta : Int
  illegal : Bool
  history : List Sample
  speed : Nat
  motion : Motion
  /-- Position counts: the own car's at a CAR, the rope position at the DRIVE. -/
  counts : Int
  quality : Quality
  lastMatched : Option Marker
  nextExpected : Option (Marker × Travel)
  misses : Nat
  unexpected : Bool
  sensorLatch : Bool
  /-- The DRIVE's comparison with car A, or a CAR's comparison with the rope. -/
  cmpA : Comparison
  /-- The DRIVE's comparison with car B. -/
  cmpB : Comparison
  disagree : Bool
  stillRef : Option Int
  load : Option Nat
  gateRunning : Bool
  gateCount : Nat
  /-- The gate in progress ends at the present millisecond and has not been judged (the model's own field). -/
  gateDue : Bool
  deriving DecidableEq, Repr

/-! ## Envelope Calculator (R39) -/

/-- The Envelope Calculator. -/
structure Envelope where
  bEff : Option Nat
  overhaul : Bool
  vperm : Nat
  atMark : Bool
  gateOpen : Bool
  stopRun : Option RunNo
  choiceA : StopChoice
  choiceB : StopChoice
  distA : Option Int
  distB : Option Int
  deriving DecidableEq, Repr

/-! ## Ceiling and Supervision Unit (R103) and Ceiling Output Generator (R116) -/

/-- A ramp: the comms-stop record (v0, b0, t0) or the release record (vr, br, tr). -/
structure Ramp where
  v : Nat
  b : Nat
  t : Time
  deriving DecidableEq, Repr

/-- The Ceiling and Supervision Unit. -/
structure Ceiling where
  line : Nat
  comms : Option Ramp
  limit : Nat
  release : Option Ramp
  overCount : Nat
  underCount : Nat
  intervention : Bool
  barred : Bool
  deriving DecidableEq, Repr

/-- The Ceiling Output Generator. DRIVE_EN and the output level follow from these fields (R118). -/
structure Generator where
  current : Option Nat
  next : Option Nat
  phase : Phase
  /-- Microseconds spent in the phase. -/
  micros : Nat
  deriving DecidableEq, Repr

/-! ## Run Sequencer (R120) -/

/-- The Run Sequencer. -/
structure Sequencer where
  state : NodeState
  /-- Origin state of ARMED: DWELL or HOLD. -/
  origin : Option NodeState
  run : RunNo
  dir : Direction
  leg : Option (Fin 5)
  recovery : Bool
  dispatch : Bool
  consent : Bool
  dispatchOrigin : Option NodeId
  deadline : Option Time
  stage : StartStage
  refusal : Option Time
  misaligned : Bool
  doorRelease : Bool
  gateRelease : Bool
  faultCause : Option Cause
  deriving DecidableEq, Repr

/-! ## Loop Monitor (R148, R149) -/

/-- A loop track. -/
structure Track where
  occ : Occupancy
  last : Option LoopEnd
  unconfirmed : Bool
  deriving DecidableEq, Repr

/-- A loop detector input: the level held, and the consecutive samples, up to 3, that showed the other level (R148). -/
structure DetectorInput where
  level : Bool
  differing : Nat
  deriving DecidableEq, Repr

/-- The Loop Monitor. -/
structure LoopMonitor where
  trackA : Track
  trackB : Track
  aLow : DetectorInput
  aUp : DetectorInput
  bLow : DetectorInput
  bUp : DetectorInput
  deriving DecidableEq, Repr

/-! ## Brake Controller (R158) -/

/-- A brake unit record. -/
structure BrakeUnit where
  state : UnitState
  mode : Option LiftMode
  liftTime : Option Time
  dropTime : Time
  liftFail : Bool
  holdLatch : Bool
  releaseLatch : Bool
  /-- Node time of the first of the consecutive samples that showed the LIFTED unit applied (R162). -/
  appliedSince : Option Time
  deriving DecidableEq, Repr

/-- The Brake Controller. The units that a role does not have stay as a start leaves them. -/
structure Brakes where
  eb : BrakeUnit
  sb : BrakeUnit
  tb : BrakeUnit
  deriving DecidableEq, Repr

/-! ## Trip Unit (R164, R174) -/

/-- One record of the trip history. -/
structure TripRecord where
  serial : Nat
  time : Time
  cause : Cause
  secondary : Bool
  origin : Option (NodeId × Cause)
  state : NodeState
  run : RunNo
  position : Option Nat
  quality : Quality
  speed : Option Nat
  motion : Motion
  ceiling : Nat
  vperm : Nat
  deriving DecidableEq, Repr

/-- The Trip Unit. -/
structure TripUnit where
  own : List Cause
  primary : Option Cause
  origin : Option (NodeId × Cause)
  /-- Oldest first. -/
  history : List TripRecord
  nextSerial : Nat
  /-- The ESTOP level is ASSERTED. -/
  estop : Bool
  /-- End of a PULSE-mode ALERT in progress. -/
  alertEnd : Option Time
  deriving DecidableEq, Repr

/-! ## Class Controller (R177) and Service Port (R190) -/

/-- The Class Controller. -/
structure ClassUnit where
  cls : BeaconClass
  clock : Option Time
  wake : Nat
  sdRole : StandDownRole
  sdId : Option NodeId
  sdDeadline : Option Time
  commit : Nat
  outcome : StandDownOutcome
  deriving DecidableEq, Repr

/-- The Service Port. -/
structure Port where
  /-- The select input is active. -/
  selected : Bool
  state : PortState
  /-- The bits of the octet in progress that have been shifted in, most significant first. -/
  shift : List Bool
  answer : List Byte
  /-- Answer octets sent. -/
  sent : Nat
  /-- A RESTART has been answered OK in the transaction in hand (R193). -/
  restart : Bool
  deriving DecidableEq, Repr

/-! ## The node -/

/-- A node: the state of its fourteen blocks, its inputs, and the queue of commands waiting. -/
structure State where
  power : Power
  time : TimeBase
  inputs : Inputs
  loader : Loader
  access : LineAccess
  peers : List Entry
  tracker : Tracker
  envelope : Envelope
  ceiling : Ceiling
  generator : Generator
  seq : Sequencer
  loop : LoopMonitor
  brakes : Brakes
  trips : TripUnit
  cls : ClassUnit
  port : Port
  pending : List Instr
  deriving DecidableEq, Repr

/-- Faults: none. The manual describes no command after which the part stops, and every address a command can name is
an offset of the image store: nothing raises a fault (safe). -/
inductive Fault where
  deriving DecidableEq, Repr

/-- Refusals. -/
inductive Refusal where
  /-- Raised by `exec` for a command that has no meaning yet, with its mnemonic; safe. No arm raises it now. -/
  | notModelled (mnemonic : String)
  deriving DecidableEq, Repr

/-! ## Reset -/

/-- All input levels inactive (DESIGN CHOICE, log entry 5). -/
def Pins.inactive : Pins where
  estop := false
  ack := false
  dispatchUp := false
  dispatchDown := false
  standDown := false
  standUp := false
  doorShut := false
  gateShut := false
  aLow := false
  aUp := false
  bLow := false
  bUp := false
  ebLifted := false
  sbLifted := false
  tbLifted := false

/-- A comparison after a start (R33, R34). -/
def Comparison.start : Comparison where
  outside := 0
  inside := 0
  conflict := false

/-- A loop track after a start (R149). -/
def Track.start : Track where
  occ := .clear
  last := none
  unconfirmed := true

/-- A detector input after a start (R148). -/
def DetectorInput.start : DetectorInput where
  level := false
  differing := 0

/-- A brake unit at the beginning of a start at node time `now` (R158). -/
def BrakeUnit.start (now : Time) : BrakeUnit where
  state := .applied
  mode := none
  liftTime := none
  dropTime := now
  liftFail := false
  holdLatch := false
  releaseLatch := false
  appliedSince := none

/-- The machine right after reset: the beginning of the cold start that follows power-on, with the straps read as DRIVE,
side A, id 0, and no command waiting (log entries 4 and 5). -/
def State.reset : State where
  power := { supplyLow := false, resetLow := false, hold := none }
  time := { now := 0, micros := 0, sampleDue := false }
  inputs :=
    { pins := Pins.inactive, previous := Pins.inactive, estopReleased := 0, doorTaken := false, gateTaken := false
      line := [], service := [] }
  loader :=
    { straps := { role := .drive, side := .a, id := 0 }, resetCause := .coldPower, outcome := .none, stage := .header
      bits := 0, imageLength := 0, store := [], heldLength := 0, fingerprint := 0, revision := 0, profile := none }
  access :=
    { tx := .idle, inHand := none, pendingBeacon := false, pendingAnnounce := false, attempts := 0, ownSeq := 0
      beaconDue := none, lastAttempt := none, lastHonoured := none, gapReached := false, idleCount := 0
      rxBits := none, rxBuffer := [], rxFramingError := false, rxOverlong := false, txFrame := [], txBits := []
      lost := false, sent := [] }
  peers := []
  tracker :=
    { first := false, second := false, delta := 0, illegal := false, history := [], speed := 0, motion := .stopped
      counts := 0, quality := .none, lastMatched := none, nextExpected := none, misses := 0, unexpected := false
      sensorLatch := false, cmpA := Comparison.start, cmpB := Comparison.start, disagree := false, stillRef := none
      load := none, gateRunning := false, gateCount := 0, gateDue := false }
  envelope :=
    { bEff := none, overhaul := false, vperm := 0, atMark := false, gateOpen := false, stopRun := none
      choiceA := .undecided, choiceB := .undecided, distA := none, distB := none }
  ceiling :=
    { line := 0, comms := none, limit := 0, release := none, overCount := 0, underCount := 0, intervention := false
      barred := false }
  generator := { current := none, next := none, phase := .low, micros := 0 }
  seq :=
    { state := .starting, origin := none, run := 0, dir := .none, leg := none, recovery := false, dispatch := false
      consent := false, dispatchOrigin := none, deadline := none, stage := .idle, refusal := none, misaligned := false
      doorRelease := false, gateRelease := false, faultCause := none }
  loop :=
    { trackA := Track.start, trackB := Track.start, aLow := DetectorInput.start, aUp := DetectorInput.start
      bLow := DetectorInput.start, bUp := DetectorInput.start }
  brakes := { eb := BrakeUnit.start 0, sb := BrakeUnit.start 0, tb := BrakeUnit.start 0 }
  trips := { own := [], primary := none, origin := none, history := [], nextSerial := 1, estop := false, alertEnd := none }
  cls :=
    { cls := .run, clock := none, wake := 0, sdRole := .none, sdId := none, sdDeadline := none, commit := 0
      outcome := .none }
  port := { selected := false, state := .idle, shift := [], answer := [], sent := 0, restart := false }
  pending := []

end Sys2Proof.Machine
end

