-- ==== Sys2Proof/Machine/Operands.lean ====
section
/-! DEFINITION. The forms in which values cross the node's edge: big-endian octets, the check sequence, the codes of the
layouts, and the frames of the signal line (R65 to R70, R77, R78). -/

namespace Sys2Proof.Machine

/-! ## Octets -/

/-- One octet from a number. -/
def octet (n : Nat) : Byte := BitVec.ofNat 8 n

/-- Two octets, high octet first. -/
def be16 (n : Nat) : List Byte := [octet (n / 256), octet n]

/-- Three octets, high octet first. -/
def be24 (n : Nat) : List Byte := [octet (n / 65536), octet (n / 256), octet n]

/-- Four octets, high octet first. -/
def be32 (n : Nat) : List Byte := [octet (n / 16777216), octet (n / 65536), octet (n / 256), octet n]

/-- The number of an octet of a list; 0 beyond its end. -/
def octetAt (l : List Byte) (i : Nat) : Nat := (l.getD i 0).toNat

/-- A big-endian number of `n` octets at an offset. -/
def beAt (l : List Byte) (off n : Nat) : Nat := ((l.drop off).take n).foldl (fun a b => a * 256 + b.toNat) 0

/-! ## The check sequence ("Octets and check sequence", R7, R68) -/

/-- One bit of the CRC with generator x^16 + x^12 + x^5 + 1, most-significant bit first. -/
def crcBit (c : Check) : Check := if c.msb then (c <<< 1) ^^^ 0x1021#16 else c <<< 1

/-- One octet of the check sequence. -/
def crcOctet (c : Check) (b : Byte) : Check :=
  crcBit (crcBit (crcBit (crcBit (crcBit (crcBit (crcBit (crcBit (c ^^^ (b.setWidth 16 <<< 8)))))))))

/-- The check sequence of a run of octets, from 0xFFFF with no final inversion. -/
def crc16 (l : List Byte) : Check := l.foldl crcOctet 0xFFFF#16

/-- Octets with their check sequence appended, high octet first. -/
def withCheck (l : List Byte) : List Byte := l ++ be16 (crc16 l).toNat

/-! ## The signal line's bits (R65) -/

/-- The level that stands for a bit: RECESSIVE for 1. -/
def bitLevel (b : Bool) : LineLevel := if b then .recessive else .dominant

/-- The ten bit times of an octet: a start bit (DOMINANT), the data least significant first, a stop bit (RECESSIVE). -/
def octetLevels (b : Byte) : List LineLevel :=
  .dominant :: (List.range 8).map (fun i => bitLevel (b.getLsbD i)) ++ [.recessive]

/-- The bit times of a frame, sent back to back. -/
def frameLevels (l : List Byte) : List LineLevel := (l.map octetLevels).flatten

/-- The octet of eight bits, least significant first. -/
def octetLow (bits : List Bool) : Byte := octet (bits.foldr (fun b n => b.toNat + 2 * n) 0)

/-- The octet of eight bits, most significant first (R190). -/
def octetHigh (bits : List Bool) : Byte := octet (bits.foldl (fun n b => 2 * n + b.toNat) 0)

/-- Bit `i` of octets sent most significant bit first, one after another; none beyond them. -/
def serialBit (l : List Byte) (i : Nat) : Option Bool := (l[i / 8]?).map fun b => b.getMsbD (i % 8)

/-! ## Codes (R67, R164, R191, R194) -/

/-- Code of a role. -/
def roleCode : Role → Nat
  | .drive => 0 | .car => 1 | .loop => 2 | .terminal => 3

/-- Role of a two-bit code. -/
def roleOfCode (n : Nat) : Role := match n with
  | 0 => .drive | 1 => .car | 2 => .loop | _ => .terminal

/-- Code of a side or end. -/
def sideCode : Side → Nat
  | .a => 0 | .b => 1

/-- Side or end of a one-bit code. -/
def sideOfCode (n : Nat) : Side := if n = 0 then .a else .b

/-- The side or end a node of a role holds: A for DRIVE and LOOP (R5). -/
def heldSide (r : Role) (s : Side) : Side := match r with
  | .drive => .a | .loop => .a | .car => s | .terminal => s

/-- Code of a node state. -/
def stateCode : NodeState → Nat
  | .starting => 0 | .dwell => 1 | .hold => 2 | .armed => 3 | .running => 4 | .stopping => 5 | .tripped => 6
  | .night => 7 | .faulted => 8

/-- Node state of a code; none for 9 to 15. -/
def stateOfCode (n : Nat) : Option NodeState := match n with
  | 0 => some .starting | 1 => some .dwell | 2 => some .hold | 3 => some .armed | 4 => some .running
  | 5 => some .stopping | 6 => some .tripped | 7 => some .night | 8 => some .faulted | _ => none

/-- Code of a class. -/
def classCode : BeaconClass → Nat
  | .run => 0 | .still => 1 | .deepStill => 2 | .dormant => 3

/-- Class of a two-bit code. -/
def classOfCode (n : Nat) : BeaconClass := match n with
  | 0 => .run | 1 => .still | 2 => .deepStill | _ => .dormant

/-- Code of a direction. -/
def directionCode : Direction → Nat
  | .none => 0 | .aUp => 1 | .aDown => 2

/-- Direction of a code; none for 3. -/
def directionOfCode (n : Nat) : Option Direction := match n with
  | 0 => some .none | 1 => some .aUp | 2 => some .aDown | _ => none

/-- Code of a leg target: 7 for none. -/
def legCode : Option (Fin 5) → Nat
  | none => 7 | some k => k.val

/-- Leg target of a code: defined for 0 to 4 and 7. -/
def legOfCode (n : Nat) : Option (Option (Fin 5)) :=
  if h : n < 5 then some (some ⟨n, h⟩) else if n = 7 then some none else none

/-- Code of a position quality. -/
def qualityCode : Quality → Nat
  | .none => 0 | .reckoned => 1 | .marked => 2

/-- Quality of a code; none for 3. -/
def qualityOfCode (n : Nat) : Option Quality := match n with
  | 0 => some .none | 1 => some .reckoned | 2 => some .marked | _ => none

/-- Code of a motion. -/
def motionCode : Motion → Nat
  | .stopped => 0 | .up => 1 | .down => 2

/-- Motion of a code; none for 3. -/
def motionOfCode (n : Nat) : Option Motion := match n with
  | 0 => some .stopped | 1 => some .up | 2 => some .down | _ => none

/-- Code of an occupancy. -/
def occupancyCode : Occupancy → Nat
  | .clear => 0 | .entering => 1 | .occupied => 2 | .leaving => 3

/-- Occupancy of a two-bit code. -/
def occupancyOfCode (n : Nat) : Occupancy := match n with
  | 0 => .clear | 1 => .entering | 2 => .occupied | _ => .leaving

/-- Code of a stand-down code. -/
def sdCodeCode : StandDownCode → Nat
  | .none => 0 | .request => 1 | .ack => 2 | .commit => 3

/-- Stand-down code of a two-bit code. -/
def sdCodeOfCode (n : Nat) : StandDownCode := match n with
  | 0 => .none | 1 => .request | 2 => .ack | _ => .commit

/-- Code of a reset cause. -/
def resetCauseCode : ResetCause → Nat
  | .coldPower => 0 | .coldSupply => 1 | .warmLine => 2 | .warmService => 3

/-- Reset cause of a two-bit code. -/
def resetCauseOfCode (n : Nat) : ResetCause := match n with
  | 0 => .coldPower | 1 => .coldSupply | 2 => .warmLine | _ => .warmService

/-- Code of a trip cause or fault cause (R164). -/
def causeCode : Cause → Nat
  | .overspeed => 1 | .overrun => 2 | .uncommandedMotion => 3 | .positionConflict => 4 | .markerLost => 5
  | .wrongTrack => 6 | .loopSequence => 7 | .brakeFault => 8 | .peerTrip => 9 | .stopInput => 10 | .doorOpen => 11
  | .speedSensor => 12 | .profileAbsent => 16 | .profileCheck => 17 | .profileContent => 18 | .roleMismatch => 19
  | .idClash => 20

/-- Cause of a code. -/
def causeOfCode (n : Nat) : Option Cause := match n with
  | 1 => some .overspeed | 2 => some .overrun | 3 => some .uncommandedMotion | 4 => some .positionConflict
  | 5 => some .markerLost | 6 => some .wrongTrack | 7 => some .loopSequence | 8 => some .brakeFault
  | 9 => some .peerTrip | 10 => some .stopInput | 11 => some .doorOpen | 12 => some .speedSensor
  | 16 => some .profileAbsent | 17 => some .profileCheck | 18 => some .profileContent | 19 => some .roleMismatch
  | 20 => some .idClash | _ => none

/-- The cause field: 0, or a cause's code. -/
def causeField : Option Cause → Nat
  | none => 0 | some c => causeCode c

/-- A received cause field; none where the layout does not define it (R78). -/
def causeOfField (n : Nat) : Option (Option Cause) := if n = 0 then some none else (causeOfCode n).map some

/-- A received peer-trip origin; none where the layout does not define it (R78). -/
def originOfFields (id cause : Nat) : Option (Option (NodeId × Cause)) :=
  if h : id < 8 then
    if cause ≤ 12 then (causeOfCode cause).map (fun c => some (⟨id, h⟩, c)) else none
  else if id = 15 ∧ cause = 0 then some none
  else none

/-- Origin id field: 15 for none. -/
def originIdField : Option (NodeId × Cause) → Nat
  | none => 15 | some (i, _) => i.val

/-- Origin cause field: 0 for none. -/
def originCauseField : Option (NodeId × Cause) → Nat
  | none => 0 | some (_, c) => causeCode c

/-- A field of 16 bits that may be absent, sent as 0xFFFF. -/
def field16 : Option Nat → Nat
  | none => 0xFFFF | some n => n

/-- A field of 24 bits that may be absent, sent as 0xFFFFFF. -/
def field24 : Option Nat → Nat
  | none => 0xFFFFFF | some n => n

/-- A received position (R78). -/
def positionOfField (trackLength n : Nat) : Option Nat :=
  if n = 0xFFFFFF then none else if 400000 < n then some trackLength else some n

/-- A received speed (R78). -/
def speedOfField (n : Nat) : Option Nat :=
  if n = 0xFFFF then none else some (min n Config.speedMax)

/-- A received load (R78). -/
def loadOfField (wMax n : Nat) : Option Nat :=
  if n = 0xFFFF then none else if 20000 < n then some wMax else some n

/-- Bit `i` of a number, as a flag. -/
def flag (n i : Nat) : Bool := n.testBit i

/-! ## BEACON (R67) -/

/-- The flags octet, from OVERHAUL in bit 7 to COMMS_STOP in bit 0. -/
def flagsOctet (r : BeaconRec) : Nat :=
  r.overhaul.toNat * 128 + r.atMark.toNat * 64 + r.misaligned.toNat * 32 + r.disagree.toNat * 16
    + r.doorsShut.toNat * 8 + r.brakesLifted.toNat * 4 + r.gateOpen.toNat * 2 + r.commsStop.toNat

/-- Octets 2 to 20 of a BEACON. -/
def beaconBody (r : BeaconRec) : List Byte :=
  [octet (stateCode r.state * 16 + classCode r.cls * 4 + r.wake.toNat * 2 + r.annReq.toNat)]
    ++ be16 r.run.toNat
    ++ [octet (directionCode r.dir * 64 + legCode r.leg * 8 + r.dispatch.toNat * 4 + r.consent.toNat * 2
          + r.recovery.toNat),
        octet (sdCodeCode r.sdCode * 64 + r.sdId.val)]
    ++ be24 (field24 r.position)
    ++ [octet (qualityCode r.quality * 64 + motionCode r.motion * 16 + occupancyCode r.occA * 4
          + occupancyCode r.occB)]
    ++ be16 (field16 r.speed) ++ be16 r.vperm ++ be16 (field16 r.load)
    ++ [octet (causeField r.cause), octet (flagsOctet r), octet (originIdField r.origin),
        octet (originCauseField r.origin)]

/-- A BEACON frame of 23 octets with its check sequence (R67, R68). -/
def beaconFrame (id : NodeId) (seq : SeqNo) (r : BeaconRec) : List Byte :=
  withCheck ([octet (16 + id.val), seq] ++ beaconBody r)

/-- The beacon fields of a well checked BEACON, with the code checks and the clamps of R78; none where a code is not
defined. -/
def parseBeacon (trackLength wMax : Nat) (f : List Byte) : Option BeaconRec :=
  match stateOfCode (octetAt f 2 / 16), directionOfCode (octetAt f 5 / 64), legOfCode (octetAt f 5 / 8 % 8),
    qualityOfCode (octetAt f 10 / 64), motionOfCode (octetAt f 10 / 16 % 4), causeOfField (octetAt f 17),
    originOfFields (octetAt f 19) (octetAt f 20) with
  | some st, some dir, some leg, some q, some m, some cause, some origin =>
    if octetAt f 6 / 64 ≠ 0 ∧ 7 < octetAt f 6 % 16 then none
    else some
      { state := st
        cls := classOfCode (octetAt f 2 / 4 % 4)
        wake := flag (octetAt f 2) 1
        annReq := flag (octetAt f 2) 0
        run := BitVec.ofNat 16 (beAt f 3 2)
        dir := dir
        leg := leg
        dispatch := flag (octetAt f 5) 2
        consent := flag (octetAt f 5) 1
        recovery := flag (octetAt f 5) 0
        sdCode := sdCodeOfCode (octetAt f 6 / 64)
        sdId := Fin.ofNat 16 (octetAt f 6)
        position := positionOfField trackLength (beAt f 7 3)
        quality := q
        motion := m
        occA := occupancyOfCode (octetAt f 10 / 4 % 4)
        occB := occupancyOfCode (octetAt f 10 % 4)
        speed := speedOfField (beAt f 11 2)
        vperm := min (beAt f 13 2) Config.speedMax
        load := loadOfField wMax (beAt f 15 2)
        cause := cause
        overhaul := flag (octetAt f 18) 7
        atMark := flag (octetAt f 18) 6
        misaligned := flag (octetAt f 18) 5
        disagree := flag (octetAt f 18) 4
        doorsShut := flag (octetAt f 18) 3
        brakesLifted := flag (octetAt f 18) 2
        gateOpen := flag (octetAt f 18) 1
        commsStop := flag (octetAt f 18) 0
        origin := origin }
  | _, _, _, _, _, _, _ => none

/-! ## ANNOUNCE (R67, R70) -/

/-- What an ANNOUNCE declares: the role and side or end that enter the verdict, and the fields an entry holds. -/
structure AnnounceFrame where
  role : Role
  side : Side
  held : AnnounceRec
  deriving DecidableEq, Repr

/-- An ANNOUNCE frame of 9 octets with its check sequence. -/
def announceFrame (id : NodeId) (seq : SeqNo) (a : AnnounceFrame) : List Byte :=
  withCheck ([octet (32 + id.val), seq,
      octet (roleCode a.role * 64 + sideCode a.side * 32 + resetCauseCode a.held.resetCause * 8)]
    ++ be16 a.held.fingerprint.toNat ++ [a.held.revision, octet a.held.count])

/-- The fields of a well checked ANNOUNCE; none of them causes a discard (R78). -/
def parseAnnounce (f : List Byte) : AnnounceFrame where
  role := roleOfCode (octetAt f 2 / 64)
  side := sideOfCode (octetAt f 2 / 32 % 2)
  held :=
    { fingerprint := BitVec.ofNat 16 (beAt f 3 2)
      revision := octet (octetAt f 5)
      count := octetAt f 6
      resetCause := resetCauseOfCode (octetAt f 2 / 8 % 4) }

/-! ## Reception checks (R77) -/

/-- The check sequence over every octet before the last two agrees with the last two (R68). -/
def checkAgrees (l : List Byte) : Bool := withCheck (l.take (l.length - 2)) == l

/-- The kind of a well checked frame; none where the frame is discarded (R77). -/
def wellChecked (f : RxFrame) : Option FrameKind :=
  if f.framingError || f.overlong then none
  else if octetAt f.octets 0 % 16 ≤ 7 ∧ checkAgrees f.octets then
    if octetAt f.octets 0 / 16 = 1 ∧ f.octets.length = 23 then some .beacon
    else if octetAt f.octets 0 / 16 = 2 ∧ f.octets.length = 9 then some .announce
    else none
  else none

/-- Source id of a frame. -/
def sourceId (l : List Byte) : NodeId := Fin.ofNat 8 (octetAt l 0)

/-- Sequence number of a frame. -/
def frameSeq (l : List Byte) : SeqNo := octet (octetAt l 1)

end Sys2Proof.Machine
end

