-- ==== Sys2Proof/Machine/Bits.lean ====
section
/-! DEFINITION. The signal line bit by bit: the level of the line, the receiver, the transmitter's bits and its readback,
and the deferral gap (R65, R66, R71 to R73; log entry 11). -/

namespace Sys2Proof.Machine

/-! ## The level of the line (R65) -/

/-- The line is DOMINANT where any node drives it, and RECESSIVE where none does (R65). -/
def lineLevel : LineLevel → LineLevel → LineLevel
  | .recessive, .recessive => .recessive
  | .recessive, .dominant => .dominant
  | .dominant, _ => .dominant

/-- The level that the node drives: the next bit of its attempt in SENDING; otherwise it releases the line (R65, R72). -/
def drivenLevel (a : LineAccess) : LineLevel := if a.tx == .sending then a.txBits.headD .recessive else .recessive

/-! ## The receiver (R66) -/

/-- The idle count after a sample (R66). -/
def idleAfter (level : LineLevel) (n : Nat) : Nat := match level with
  | .dominant => 0
  | .recessive => min (n + 1) Config.idleMax

/-- A completed octet joins the receive buffer; one that would be the 24th marks the frame as overlong and is not kept
(R66). -/
def keepOctet (o : Byte) (a : LineAccess) : LineAccess :=
  if a.rxBuffer.length < Config.rxOctets then { a with rxBuffer := a.rxBuffer ++ [o] } else { a with rxOverlong := true }

/-- The receiver takes the sample of a bit time: a start bit after a RECESSIVE one, a data bit, or the stop bit, which
marks a framing error where it is DOMINANT (R66; log entry 32). -/
def receiveBit (level : LineLevel) (a : LineAccess) : LineAccess :=
  let b : LineAccess := { a with idleCount := idleAfter level a.idleCount }
  match a.rxBits with
  | none => if level == .dominant && decide (0 < a.idleCount) then { b with rxBits := some [] } else b
  | some bits =>
    if bits.length < 8 then { b with rxBits := some (bits ++ [level == .recessive]) }
    else keepOctet (octetLow bits) { b with rxBits := none, rxFramingError := a.rxFramingError || level == .dominant }

/-- The frame that the receiver has gathered has ended: the idle count has reached 20 with an octet in the buffer (R66). -/
def frameHasEnded (a : LineAccess) : Bool := decide (Config.frameEndIdle ≤ a.idleCount) && !a.rxBuffer.isEmpty

/-! ## The transmitter (R71 to R73) -/

/-- The transmitter reads back the bit time that it has driven: the next bit follows, or, where it drove RECESSIVE and
the line shows DOMINANT, it has lost the line and stops driving (R72). -/
def transmitBit (level : LineLevel) (a : LineAccess) : LineAccess :=
  if a.tx == .sending then
    match a.txBits with
    | [] => a
    | .recessive :: rest => if level == .dominant then { a with txBits := [], lost := true } else { a with txBits := rest }
    | .dominant :: rest => { a with txBits := rest }
  else a

/-- The deferral gap of a node id, in bit times (R71). -/
def deferralGap (id : NodeId) : Nat := 30 + 12 * id.val

/-- In DEFERRING the gap is judged at each bit boundary (R71). -/
def judgeGap (gap : Nat) (a : LineAccess) : LineAccess :=
  { a with gapReached := a.tx == .deferring && decide (gap ≤ a.idleCount) }

/-- One bit time passes, in which the other nodes give the line a level: it is sampled by the transmitter and by the
receiver (R65, R66). -/
def bitTime (gap : Nat) (others : LineLevel) (a : LineAccess) : LineAccess :=
  let level := lineLevel (drivenLevel a) others
  judgeGap gap (receiveBit level (transmitBit level a))

/-- Bit times pass, with the levels of the other nodes, the nearest first. -/
def bitTimes (gap : Nat) : Nat → List LineLevel → LineAccess → LineAccess
  | 0, _, a => a
  | n + 1, levels, a => bitTimes gap n levels.tail (bitTime gap (levels.headD .recessive) a)

/-- The whole frame of the attempt has been driven and read back without a loss (R73). -/
def attemptDriven (a : LineAccess) : Bool := a.tx == .sending && a.txBits.isEmpty && !a.lost

/-- The attempt has lost the line (R72). -/
def attemptLost (a : LineAccess) : Bool := a.tx == .sending && a.lost

end Sys2Proof.Machine
end

