-- ==== Sys2Proof/Machine/Image.lean ====
section
/-! DEFINITION. The profile image: its layout (R8) and its validation (R9 to R12). -/

namespace Sys2Proof.Machine

/-- Lift mode of a code (R8). -/
def liftModeOfCode (n : Nat) : Option LiftMode := match n with
  | 0 => some .feedback | 1 => some .fixed250 | 2 => some .fixed500 | 3 => some .fixed1000 | _ => none

/-- ALERT mode of a code (R8). -/
def alertModeOfCode (n : Nat) : Option AlertMode := match n with
  | 0 => some .level | 1 => some .pulse | _ => none

/-- A counted table of `n` entries of `width` octets, the entries standing from `off` on. -/
def tableAt {α : Type} (entry : List Byte → Nat → α) (img : List Byte) (off width n : Nat) : List α :=
  (List.range n).map fun i => entry img (off + width * i)

/-- A listed-node entry (R8); for DRIVE and LOOP the side is A whatever is stored. -/
def nodeAt (img : List Byte) (off : Nat) : ListedNode :=
  let b := octetAt img (off + 1)
  let role := roleOfCode (b % 4)
  { id := octetAt img off
    role := role
    side := heldSide role (sideOfCode (b / 4 % 2))
    dispatchEnabled := flag b 3
    standDownKeyEnabled := flag b 4 }

/-- A segment entry (R8). -/
def segmentAt (img : List Byte) (off : Nat) : Segment :=
  { start := beAt img off 3, limit := beAt img (off + 3) 2, k := octetAt img (off + 5) }

/-- A stop entry (R8). -/
def stopAt (img : List Byte) (off : Nat) : Stop :=
  { position := beAt img off 3, loopFlag := octetAt img (off + 3) }

/-- A marker entry (R8). -/
def markerAt (img : List Byte) (off : Nat) : Marker :=
  { code := octetAt img off, position := beAt img (off + 1) 3 }

/-- A number lies within a closed range. -/
def within (lo hi n : Nat) : Bool := decide (lo ≤ n) && decide (n ≤ hi)

/-- Offset of each table's count octet, and of the loop detectors, from the counts before it (R8). -/
def segmentsOffset (img : List Byte) : Nat := 49 + 2 * octetAt img 48

/-- Offset of the count of car A's stops. -/
def stopsAOffset (img : List Byte) : Nat := segmentsOffset img + 1 + 6 * octetAt img (segmentsOffset img)

/-- Offset of the count of car B's stops. -/
def stopsBOffset (img : List Byte) : Nat := stopsAOffset img + 1 + 4 * octetAt img (stopsAOffset img)

/-- Offset of the count of car A's markers. -/
def markersAOffset (img : List Byte) : Nat := stopsBOffset img + 1 + 4 * octetAt img (stopsBOffset img)

/-- Offset of the count of car B's markers. -/
def markersBOffset (img : List Byte) : Nat := markersAOffset img + 1 + 4 * octetAt img (markersAOffset img)

/-- Offset of the loop detector positions. -/
def detectorsOffset (img : List Byte) : Nat := markersBOffset img + 1 + 4 * octetAt img (markersBOffset img)

/-- R9: each count in its range, read in layout order; the length the counts imply is the image's; the revision is
not 0. -/
def structureHolds (img : List Byte) : Bool :=
  within 4 6 (octetAt img 48)
    && within 1 16 (octetAt img (segmentsOffset img))
    && within 2 5 (octetAt img (stopsAOffset img))
    && within 2 5 (octetAt img (stopsBOffset img))
    && within 1 32 (octetAt img (markersAOffset img))
    && within 1 32 (octetAt img (markersBOffset img))
    && decide (detectorsOffset img + 12 + 2 = img.length)
    && decide (octetAt img 1 ≠ 0)

/-- The profile an image lays out (R8); none where a mode code is not one of those listed (R10). -/
def readProfile (img : List Byte) : Option Profile :=
  match liftModeOfCode (octetAt img 40), liftModeOfCode (octetAt img 41), liftModeOfCode (octetAt img 42),
    alertModeOfCode (octetAt img 47) with
  | some sb, some eb, some tb, some alert =>
    some
      { revision := octet (octetAt img 1)
        length := beAt img 4 3
        vLineMax := beAt img 7 2
        vCrawl := beAt img 9 2
        vCreep := octetAt img 11
        vStaleCap := beAt img 12 2
        bRate := octetAt img 14
        bFloor := octetAt img 15
        dMargin := beAt img 16 2
        wStop := octetAt img 18
        wMark := octetAt img 19
        wDet := beAt img 20 2
        dAgree := beAt img 22 2
        sStretch := octetAt img 24
        dStill := octetAt img 25
        rRope := beAt img 26 2
        wMax := beAt img 28 2
        tInt := octetAt img 30
        tTrip := octetAt img 31
        cpmSheave := beAt img 32 2
        cpmOdo := beAt img 34 2
        invertSheave := flag (octetAt img 36) 0
        invertOdoA := flag (octetAt img 36) 1
        invertOdoB := flag (octetAt img 36) 2
        loadOffset := beAt img 37 2
        loadScale := octetAt img 39
        liftSB := sb
        liftEB := eb
        liftTB := tb
        tArm := octetAt img 43
        tStill := octetAt img 44
        tDeep := octetAt img 45
        tSd := octetAt img 46
        alert := alert
        nodes := tableAt nodeAt img 49 2 (octetAt img 48)
        segments := tableAt segmentAt img (segmentsOffset img + 1) 6 (octetAt img (segmentsOffset img))
        stopsA := tableAt stopAt img (stopsAOffset img + 1) 4 (octetAt img (stopsAOffset img))
        stopsB := tableAt stopAt img (stopsBOffset img + 1) 4 (octetAt img (stopsBOffset img))
        markersA := tableAt markerAt img (markersAOffset img + 1) 4 (octetAt img (markersAOffset img))
        markersB := tableAt markerAt img (markersBOffset img + 1) 4 (octetAt img (markersBOffset img))
        detALow := beAt img (detectorsOffset img) 3
        detAUp := beAt img (detectorsOffset img + 3) 3
        detBLow := beAt img (detectorsOffset img + 6) 3
        detBUp := beAt img (detectorsOffset img + 9) 3 }
  | _, _, _, _ => none

/-- R10: every parameter within its range. -/
def rangesHold (p : Profile) : Bool :=
  within 10000 400000 p.length && within 100 1400 p.vLineMax && within 10 300 p.vCrawl && within 10 100 p.vCreep
    && within 0 1400 p.vStaleCap && within 20 250 p.bRate && within 10 p.bRate p.bFloor && within 0 5000 p.dMargin
    && within 2 50 p.wStop && within 10 250 p.wMark && within 50 2000 p.wDet && within 20 1000 p.dAgree
    && within 10 120 p.tSd && within 0 200 p.sStretch && within 10 200 p.dStill && within 0 2000 p.rRope
    && within 500 20000 p.wMax && within 5 100 p.tInt && within (p.tInt + 5) 200 p.tTrip
    && within 100 10000 p.cpmSheave && within 100 10000 p.cpmOdo && within 10 2000 p.loadOffset
    && within 1 50 p.loadScale && within 5 60 p.tArm && within 5 255 p.tStill && within 1 255 p.tDeep
    && p.segments.all (fun g => within 10 1400 g.limit && within 0 255 g.k)
    && (p.markersA ++ p.markersB).all (fun m => within 0 31 m.code)
    && (p.stopsA ++ p.stopsB).all (fun t => within 0 1 t.loopFlag)

/-- Strictly ascending, each more than `gap` above the one before. -/
def ascendingBy (gap : Nat) : List Nat → Bool
  | [] => true
  | [_] => true
  | a :: b :: l => decide (a + gap < b) && ascendingBy gap (b :: l)

/-- Index of the stop whose loop flag is set. -/
def loopIndex (stops : List Stop) : Option Nat := stops.findIdx? (fun t => t.loopFlag == 1)

/-- R11, segments: the first start is 0, starts are strictly ascending and below L. -/
def segmentsHold (p : Profile) : Bool :=
  decide ((p.segments.map Segment.start).head? = some 0) && ascendingBy 0 (p.segments.map Segment.start)
    && p.segments.all (fun g => decide (g.start < p.length))

/-- R11, stops of one car: strictly ascending within 0..L, exactly one with the loop flag set. -/
def stopsHold (p : Profile) (stops : List Stop) : Bool :=
  ascendingBy 0 (stops.map Stop.position) && stops.all (fun t => decide (t.position ≤ p.length))
    && decide (stops.countP (fun t => t.loopFlag == 1) = 1)

/-- R11, loop stops and stop pairing: P equals P′, the loop stops pair, and every pair adds up to within 2,000 of L. -/
def pairingHolds (p : Profile) : Bool :=
  decide (p.stopsA.length = p.stopsB.length)
    && (match loopIndex p.stopsA, loopIndex p.stopsB with
        | some a, some b => decide (a + b + 1 = p.stopsA.length)
        | _, _ => false)
    && (p.stopsA.zip p.stopsB.reverse).all
        (fun q => decide (((q.1.position : Int) + q.2.position - p.length).natAbs ≤ 2000))

/-- R11, markers of one car: within 0..L, codes unique, neighbours more than 2·W_mark apart. -/
def markersHold (p : Profile) (markers : List Marker) : Bool :=
  ascendingBy (2 * p.wMark) (markers.map Marker.position) && markers.all (fun m => decide (m.position ≤ p.length))
    && decide ((markers.map Marker.code).Nodup)

/-- R11, loop detectors. -/
def detectorsHold (p : Profile) : Bool :=
  decide (p.detALow < p.detAUp) && decide (p.detBLow < p.detBUp) && decide (p.detALow ≤ p.length)
    && decide (p.detAUp ≤ p.length) && decide (p.detBLow ≤ p.length) && decide (p.detBUp ≤ p.length)

/-- R11: every condition on the tables. -/
def tablesHold (p : Profile) : Bool :=
  segmentsHold p && stopsHold p p.stopsA && stopsHold p p.stopsB && pairingHolds p && markersHold p p.markersA
    && markersHold p p.markersB && detectorsHold p

/-- How many listed nodes have a role and side. -/
def countNodes (p : Profile) (r : Role) (s : Side) : Nat :=
  p.nodes.countP (fun n => n.role == r && n.side == s)

/-- R12: the node list. -/
def nodesHold (p : Profile) : Bool :=
  p.nodes.all (fun n => within 0 7 n.id) && decide ((p.nodes.map ListedNode.id).Nodup)
    && decide (countNodes p .drive .a = 1) && decide (countNodes p .car .a = 1) && decide (countNodes p .car .b = 1)
    && decide (countNodes p .loop .a = 1) && decide (countNodes p .terminal .a ≤ 1)
    && decide (countNodes p .terminal .b ≤ 1)

/-- The profile of an image that passes R9 to R12; none where any of them fails (PROFILE_CONTENT). -/
def validProfile (img : List Byte) : Option Profile :=
  if structureHolds img then
    (readProfile img).filter (fun p => rangesHold p && tablesHold p && nodesHold p)
  else none

/-- The stored check sequence is that of the octets before it (R7). -/
def imageChecks (img : List Byte) : Bool := checkAgrees img

/-- The stored check sequence: the last two octets (R7). -/
def storedCheck (img : List Byte) : Check := BitVec.ofNat 16 (beAt img (img.length - 2) 2)

/-- The own entry of the listed-node table, where the straps agree with it (R13). -/
def ownEntry (p : Profile) (s : Straps) : Option ListedNode :=
  p.nodes.find? (fun n => decide (n.id = s.id.val) && n.role == s.role && n.side == s.side)

end Sys2Proof.Machine
end

