-- ==== Sys2Proof/Machine/Store.lean ====
section
/-! DEFINITION. The image store (R3, R7, R14): 512 octets by offset, held as a list of (offset, octet) pairs in one
canonical form, offsets strictly rising and no octet of 0 listed, since an unlisted offset reads as 0 (log entry 15). -/

namespace Sys2Proof.Machine

/-- The octet at an offset of the store. -/
def Store.read : List Host.Cell → Nat → Byte
  | [], _ => 0
  | (k, v) :: m, a => if k = a then v else Store.read m a

/-- The canonical form: offsets below 512 and strictly rising, no listed octet 0. -/
def Store.wf : List Host.Cell → Bool
  | [] => true
  | (k, v) :: m =>
    decide (v ≠ 0) && decide (k < Config.storeOctets) && m.all (fun c => decide (k < c.1)) && Store.wf m

/-- The cells that hold consecutive octets from an offset on. -/
def Store.cellsFrom : Nat → List Byte → List Host.Cell
  | _, [] => []
  | a, b :: bs =>
    if b = 0 ∨ Config.storeOctets ≤ a then Store.cellsFrom (a + 1) bs else (a, b) :: Store.cellsFrom (a + 1) bs

/-- The store after the loader has written octets from offset 0 on; the octets beyond them stay in place (R3). -/
def Store.load (m : List Host.Cell) (octets : List Byte) : List Host.Cell :=
  Store.cellsFrom 0 octets ++ m.filter (fun c => decide (octets.length ≤ c.1))

/-- The first octets of the store. -/
def Store.take (m : List Host.Cell) (n : Nat) : List Byte := (List.range n).map (Store.read m)

/-- One block of a PROFILE record: 16 octets, those at or beyond the held length sent as 0x00 (R191). -/
def Store.block (m : List Host.Cell) (held b : Nat) : List Byte :=
  (List.range 16).map fun i => if 16 * b + i < held then Store.read m (16 * b + i) else 0

end Sys2Proof.Machine
end

