-- ==== Sys2Proof/Machine/Flags.lean ====
section
/-! DEFINITION. The conditions that the rules read: timers, standings of peer entries, what a node concerns, standing,
completeness, and the levels of the outputs. Nothing here changes the state. -/

namespace Sys2Proof.Machine

/-! ## Arithmetic and time ("Arithmetic", R1, R124) -/

/-- Quotient rounded toward plus infinity. -/
def ceilDiv (a b : Int) : Int := -((-a) / b)

/-- A count that saturates at the limits of a signed 32-bit value (R17, R21). -/
def sat32 (n : Int) : Int := max Config.countMin (min Config.countMax n)

/-- A value clamped to lo..hi. -/
def clampInt (lo hi n : Int) : Int := max lo (min hi n)

/-- Milliseconds from a stored node time to the present one: the wrapped difference (R1). -/
def elapsed (now t : Time) : Nat := (now - t).toNat

/-- Node time has reached a deadline, as a 32-bit count that wraps (R1; log entry 22). -/
def reached (now deadline : Time) : Bool := decide (elapsed now deadline < 2147483648)

/-- The node time a span after another. -/
def after (t : Time) (ms : Nat) : Time := t + BitVec.ofNat 32 ms

/-- A run number is newer than another (R124). -/
def newerRun (a b : RunNo) : Bool := decide (1 ≤ (a - b).toNat) && decide ((a - b).toNat ≤ 32767)

/-- A sequence number is newer than another (R86). -/
def newerSeq (a b : SeqNo) : Bool := decide (1 ≤ (a - b).toNat) && decide ((a - b).toNat ≤ 127)

/-- Beacon period of a class, ms (R74). -/
def beaconPeriod : BeaconClass → Nat
  | .run => 40 | .still => 250 | .deepStill => 1000 | .dormant => 4000

/-- Stale limit of a class, ms (R84). -/
def staleLimit : BeaconClass → Nat
  | .run => 100 | .still => 600 | .deepStill => 2400 | .dormant => 9000

/-- Lost limit of a class, ms (R84). -/
def lostLimit : BeaconClass → Nat
  | .run => 300 | .still => 1600 | .deepStill => 6000 | .dormant => 24000

/-! ## The node -/

/-- The part is held between a causing event and the beginning of a start (R2). -/
def held (s : State) : Bool := s.power.hold.isSome

/-- The hold ends in a cold start, whatever follows (R2). -/
def coldHold (s : State) : Bool := s.power.hold == some .coldPower || s.power.hold == some .coldSupply

/-- The strapped role. -/
def role (s : State) : Role := s.loader.straps.role

/-- The strapped side or end. -/
def side (s : State) : Side := s.loader.straps.side

/-- The strapped node id. -/
def ownId (s : State) : NodeId := s.loader.straps.id

/-- The node is a DRIVE. -/
def isDrive (s : State) : Bool := role s == .drive

/-- The node is a CAR. -/
def isCar (s : State) : Bool := role s == .car

/-- The node is a LOOP. -/
def isLoop (s : State) : Bool := role s == .loop

/-- The node is a TERMINAL. -/
def isTerminal (s : State) : Bool := role s == .terminal

/-- The node has an encoder: a DRIVE or a CAR. -/
def hasEncoder (s : State) : Bool := isDrive s || isCar s

/-- The node state is a given one. -/
def inState (s : State) (st : NodeState) : Bool := s.seq.state == st

/-- RUNNING or STOPPING. -/
def moving (s : State) : Bool := inState s .running || inState s .stopping

/-- DWELL or HOLD. -/
def resting (s : State) : Bool := inState s .dwell || inState s .hold

/-- Every node state after STARTING except FAULTED. -/
def inService (s : State) : Bool := !(inState s .starting || inState s .faulted)

/-- The own entry of the listed-node table (R13). -/
def ownNode (s : State) (p : Profile) : Option ListedNode := ownEntry p s.loader.straps

/-! ## Peer entries (R95, R96) -/

/-- FRESH or STALE. -/
def heard (e : Entry) : Bool := e.fresh == .fresh || e.fresh == .stale

/-- FRESH. -/
def isFresh (e : Entry) : Bool := e.fresh == .fresh

/-- The entry of a node id. -/
def entryOf (s : State) (id : NodeId) : Option Entry := s.peers.find? (fun e => e.id == id)

/-- The DRIVE's entry. -/
def driveEntry (s : State) : Option Entry := s.peers.find? (fun e => e.role == .drive)

/-- A car's entry. -/
def carEntry (s : State) (x : Side) : Option Entry := s.peers.find? (fun e => e.role == .car && e.side == x)

/-- The LOOP's entry. -/
def loopEntry (s : State) : Option Entry := s.peers.find? (fun e => e.role == .loop)

/-- What the peer's record shows satisfies a test; an entry with no record shows nothing (R96). -/
def recordShows (e : Entry) (test : BeaconRec → Bool) : Bool := e.beacon.any test

/-- An entry that is FRESH or STALE and whose record satisfies a test. -/
def heardShows (e : Option Entry) (test : BeaconRec → Bool) : Bool := e.any fun e => heard e && recordShows e test

/-- An entry that is FRESH and whose record satisfies a test. -/
def freshShows (e : Option Entry) (test : BeaconRec → Bool) : Bool := e.any fun e => isFresh e && recordShows e test

/-- Every entry is FRESH or STALE and MATCHED, and the table is not empty (R95). -/
def complete (s : State) : Bool := !s.peers.isEmpty && s.peers.all (fun e => heard e && e.verif == .matched)

/-- Every entry is FRESH and MATCHED, and the table is not empty (R95). -/
def fullyFresh (s : State) : Bool := !s.peers.isEmpty && s.peers.all (fun e => isFresh e && e.verif == .matched)

/-- The unverified-presence condition (R92). -/
def unverifiedPresence (s : State) : Bool := s.peers.any (fun e => heard e && e.verif == .unverified)

/-- The extrapolated position of an entry (R31). -/
def extrapolated (p : Profile) (e : Entry) : Option Nat :=
  match e.beacon with
  | none => none
  | some r =>
    match r.position with
    | none => none
    | some pAdv =>
      let step : Int := ((r.speed.getD 0 * e.age / 1000 : Nat) : Int)
      let x : Int := match r.motion with
        | .up => (pAdv : Int) + step
        | .down => (pAdv : Int) - step
        | .stopped => (pAdv : Int)
      some (clampInt 0 p.length x).toNat

/-- The record shows a position present with quality not NONE. -/
def showsPosition (e : Entry) : Bool := recordShows e (fun r => r.position.isSome && r.quality != .none)

/-- The extrapolated position of an entry that is FRESH or STALE and shows a position with quality not NONE (R62, R125,
R147). -/
def usablePosition (p : Profile) (e : Option Entry) : Option Nat :=
  match e with
  | none => none
  | some e => if heard e && showsPosition e then extrapolated p e else none

/-! ## Own position, speed and load (R19 to R22, R27, R38) -/

/-- Counts per metre of the node's encoder. -/
def cpm (s : State) (p : Profile) : Nat := if isDrive s then p.cpmSheave else p.cpmOdo

/-- The invert flag of the node's encoder (R17). -/
def inverted (s : State) (p : Profile) : Bool :=
  if isDrive s then p.invertSheave else if side s == .a then p.invertOdoA else p.invertOdoB

/-- A raw count after the invert flag. -/
def invertBy (flag : Bool) (n : Int) : Int := if flag then -n else n

/-- The content of the delta counter after the invert flag. -/
def invertedDelta (s : State) (p : Profile) : Int := invertBy (inverted s p) s.tracker.delta

/-- The present position in counts: the position counts plus the inverted content of the delta counter (R21). -/
def presentCounts (s : State) (p : Profile) : Int := s.tracker.counts + invertedDelta s p

/-- Centimetres of a number of counts, rounded toward minus infinity (R21). -/
def centimetres (cpm : Nat) (counts : Int) : Int := counts * 100 / (cpm : Int)

/-- Counts of a position in centimetres, rounded toward minus infinity (R23, R28). -/
def countsAt (cpm : Nat) (position : Nat) : Int := (position * cpm / 100 : Nat)

/-- The position in centimetres (R21). -/
def positionCm (s : State) (p : Profile) : Int := centimetres (cpm s p) s.tracker.counts

/-- The reported position: the position clamped to 0..L (R21). -/
def reported (s : State) (p : Profile) : Nat := (clampInt 0 p.length (positionCm s p)).toNat

/-- The own or rope quality is not NONE. -/
def located (s : State) : Bool := s.tracker.quality != .none

/-- Standstill: 50 records, each of speed 0 (R20). -/
def standstillOf (h : List Sample) : Bool := decide (h.length = Config.historySamples) && h.all (fun r => r.speed == 0)

/-- The node's own standstill (R20). -/
def standstill (s : State) : Bool := standstillOf s.tracker.history

/-- The DRIVE's entry is FRESH or STALE and its record shows motion STOPPED. -/
def driveStopped (s : State) : Bool := heardShows (driveEntry s) (fun r => r.motion == .stopped)

/-- The node stands (R164). -/
def stands (s : State) : Bool := if hasEncoder s then standstill s else driveStopped s

/-- The position a beacon, a status snapshot or a trip record shows (R38); log entry 7 for STARTING with no profile. -/
def shownPosition (s : State) : Option Nat :=
  if hasEncoder s then
    match s.loader.profile with
    | some p => some (reported s p)
    | none => if inState s .faulted then some 0 else some (Config.positionWithoutProfile s.tracker.counts).toNat
  else none

/-- The quality shown (R38). -/
def shownQuality (s : State) : Quality :=
  if hasEncoder s then
    if inState s .faulted && s.loader.profile.isNone then .none else s.tracker.quality
  else .none

/-- The speed shown (R38). -/
def shownSpeed (s : State) : Option Nat := if hasEncoder s then some s.tracker.speed else none

/-- The motion shown (R38). -/
def shownMotion (s : State) : Motion := if hasEncoder s then s.tracker.motion else .stopped

/-- The load shown: absent at every role but a CAR, and while INVALID (R38). -/
def shownLoad (s : State) : Option Nat := if isCar s then s.tracker.load else none

/-- The DISAGREE flag shown (R38). -/
def shownDisagree (s : State) : Bool := hasEncoder s && s.tracker.disagree

/-! ## Contacts, detectors and brake feedback -/

/-- The door-shut contact as last sampled. -/
def doorShut (s : State) : Bool := s.inputs.pins.doorShut

/-- The platform gate contact as last sampled. -/
def gateShut (s : State) : Bool := s.inputs.pins.gateShut

/-- The level a detector's input shows. -/
def detectorPin (i : Pins) (d : Detector) : Bool := match d.track, d.atEnd with
  | .a, .low => i.aLow | .a, .up => i.aUp | .b, .low => i.bLow | .b, .up => i.bUp

/-- The input record of a detector. -/
def detectorInput (m : LoopMonitor) (d : Detector) : DetectorInput := match d.track, d.atEnd with
  | .a, .low => m.aLow | .a, .up => m.aUp | .b, .low => m.bLow | .b, .up => m.bUp

/-- A loop track. -/
def track (m : LoopMonitor) (x : Side) : Track := match x with
  | .a => m.trackA | .b => m.trackB

/-- The other end of a loop track. -/
def otherEnd : LoopEnd → LoopEnd
  | .low => .up | .up => .low

/-- The other side. -/
def otherSide : Side → Side
  | .a => .b | .b => .a

/-- A brake feedback as last sampled: true for lifted. -/
def feedbackPin (i : Pins) (b : BrakeId) : Bool := match b with
  | .eb => i.ebLifted | .sb => i.sbLifted | .tb => i.tbLifted

/-- A brake unit record. -/
def brakeUnit (k : Brakes) (b : BrakeId) : BrakeUnit := match b with
  | .eb => k.eb | .sb => k.sb | .tb => k.tb

/-- The units of a role: EB and SB at the DRIVE, TB at a CAR, none elsewhere (R158). -/
def hasBrake (r : Role) (b : BrakeId) : Bool := match r, b with
  | .drive, .eb => true | .drive, .sb => true | .drive, .tb => false
  | .car, .tb => true | .car, .eb => false | .car, .sb => false
  | .loop, _ => false | .terminal, _ => false

/-- Every unit is APPLIED. -/
def allApplied (k : Brakes) : Bool := k.eb.state == .applied && k.sb.state == .applied && k.tb.state == .applied

/-- A release latch of any unit of the node is set (R162). -/
def releaseLatched (k : Brakes) : Bool := k.eb.releaseLatch || k.sb.releaseLatch || k.tb.releaseLatch

/-- BRAKES_LIFTED: TB is LIFTED, at a CAR (R160). -/
def brakesLifted (s : State) : Bool := isCar s && s.brakes.tb.state == .lifted

/-- A fixed lift time in milliseconds (R160). -/
def fixedLiftMs : LiftMode → Option Nat
  | .feedback => none | .fixed250 => some 250 | .fixed500 => some 500 | .fixed1000 => some 1000

/-- A unit is in FEEDBACK mode. -/
def inFeedbackMode (u : BrakeUnit) : Bool := u.mode == some .feedback

/-! ## Stand-down field and cause field (R69, R183) -/

/-- The stand-down code and node id of a beacon (R183). -/
def standDownField (s : State) : StandDownCode × Fin 16 :=
  let own : Fin 16 := Fin.ofNat 16 (ownId s).val
  if 0 < s.cls.commit then (.commit, own)
  else match s.cls.sdRole with
    | .initiating => (.request, own)
    | .acking => (.ack, match s.cls.sdId with
        | some i => Fin.ofNat 16 i.val
        | none => 15)
    | .none => (.none, 15)

/-- The cause field: the primary cause in TRIPPED, the fault cause in FAULTED, otherwise none (R69). -/
def shownCause (s : State) : Option Cause :=
  match s.seq.state with
  | .tripped => s.trips.primary
  | .faulted => s.seq.faultCause
  | _ => none

/-! ## Outputs (R2, R3, R6, R65, R116, R118, R123, R141, R143, R145, R158, R176, R190) -/

/-- The modes of a lamp (R145). -/
inductive LampMode where
  | off | on | blink
  deriving DecidableEq, Repr

/-- Mode of the GO lamp (R145); OFF while the part is held (R2). -/
def goLamp (s : State) : LampMode :=
  if held s then .off
  else match s.seq.state with
    | .armed => .on
    | .running => .blink
    | .stopping => .blink
    | _ => .off

/-- Mode of the STOP lamp (R145); OFF while the part is held (R2). -/
def stopLamp (s : State) : LampMode :=
  if held s then .off
  else match s.seq.state with
    | .night => .off
    | .starting => .off
    | .tripped => .on
    | .faulted => .on
    | .hold => .blink
    | _ => if s.seq.refusal.isSome then .blink else .off

/-- A lamp of a given mode is lit at a node time (R145). -/
def lampLit (m : LampMode) (now : Time) : Bool := match m with
  | .off => false
  | .on => true
  | .blink => decide (now.toNat % 1000 < 500)

/-- DRIVE_EN (R118). -/
def driveEn (s : State) : Bool := !held s && s.generator.current.isSome

/-- The ceiling output is high (R116). -/
def ceilingOut (s : State) : Bool := driveEn s && s.generator.phase == .high

/-- A brake lift output is energised (R158). -/
def liftOutput (s : State) (b : BrakeId) : Bool := !held s && (brakeUnit s.brakes b).state != .applied

/-- The door-lock release output (R123, R141). -/
def doorReleaseOut (s : State) : Bool := !held s && s.seq.doorRelease

/-- The gate-lock release output (R143). -/
def gateReleaseOut (s : State) : Bool := !held s && s.seq.gateRelease

/-- The level that the node gives the signal line: RECESSIVE while the part is held (R2, R65, R66). -/
def lineOut (s : State) : LineLevel := if held s then .recessive else drivenLevel s.access

/-- The select output of the profile memory: active from the beginning of a read to its end (R6, R7, R16). -/
def memorySelect (s : State) : Bool := !held s && inState s .starting && s.loader.stage != .ended

/-- The bit that the loader sends the profile memory: the read instruction and the offset, most significant bit first; none
while it clocks octets in, for which the manual gives no level (R6). -/
def memoryOut (s : State) : Option Bool :=
  if memorySelect s then serialBit Config.readInstruction s.loader.bits else none

/-- The octet that the service port shifts out: that of the answer which is next, in ANSWER, and 0x00 otherwise and after
its end (R190). -/
def outgoing (q : Port) : Byte := match q.state with
  | .answer => q.answer.getD q.sent 0
  | _ => 0

/-- The service port's data output, most significant bit first; none stands for high-impedance, where the port is not
selected (R190) or the part is held (log entry 16). -/
def serviceOut (s : State) : Option Bool :=
  if s.port.selected && !held s then some ((outgoing s.port).getMsbD s.port.shift.length) else none

/-- The ALERT output (R176). -/
def alertOut (s : State) : Bool :=
  !held s && match s.loader.profile with
    | none => inState s .faulted
    | some p => match p.alert with
      | .level => inState s .tripped || inState s .faulted
      | .pulse => s.trips.alertEnd.isSome

end Sys2Proof.Machine
end

