-- ==== Sys2Proof/Machine/Ops.lean ====
section
/-! DEFINITION. The operations that several blocks share: beacon requests, class changes, brake commands, forming the
line ceiling, moving the position counts, entering a node state with all its consequences, and raising a trip cause. -/

namespace Sys2Proof.Machine

/-! ## Line Access Unit requests (R71, R75, R76) -/

/-- In IDLE, after STARTING, the transmit state becomes DEFERRING when a mark is set or a frame is in hand (R71). -/
def wakeTransmitter (s : State) : State :=
  if s.access.tx == .idle && !inState s .starting
      && (s.access.pendingBeacon || s.access.pendingAnnounce || s.access.inHand.isSome) then
    { s with access.tx := .deferring }
  else s

/-- A request for an immediate beacon (R75): the mark is set, but in DEFERRING with a BEACON in hand it is cleared. -/
def requestBeacon (s : State) : State :=
  wakeTransmitter
    { s with access.pendingBeacon := !(s.access.tx == .deferring && s.access.inHand == some .beacon) }

/-- The pending-announce mark is set (R76). -/
def requestAnnounce (s : State) : State := wakeTransmitter { s with access.pendingAnnounce := true }

/-! ## Class Controller (R177 to R183, R188) -/

/-- A change of class: an immediate beacon, the due time moved to the new period, the downshift clock set (R74, R178,
R179). -/
def setClass (c : BeaconClass) (s : State) : State :=
  if s.cls.cls == c then s
  else requestBeacon
    { s with
      cls.cls := c
      cls.clock := some s.time.now
      access.beaconDue := s.access.lastAttempt.map (fun t => after t (beaconPeriod c)) }

/-- A stand-down role that stands ends with an outcome, and an immediate beacon shows it (R183, R188). -/
def endStandDown (o : StandDownOutcome) (s : State) : State :=
  if s.cls.sdRole == .none then s
  else requestBeacon { s with cls.sdRole := .none, cls.sdId := none, cls.sdDeadline := none, cls.outcome := o }

/-- A quiet spell holds: DWELL or HOLD, and the node stands (R178). -/
def quietSpell (s : State) : Bool := resting s && stands s

/-- A quiet spell that holds begins afresh (R178). -/
def restartSpell (s : State) : State := if quietSpell s then { s with cls.clock := some s.time.now } else s

/-- The downshift clock after a step that led from one state to another: set where a quiet spell has begun, none where one
has ended, unless the class has changed with it (R178; log entry 33). -/
def settleSpell (before after : State) : State :=
  if quietSpell after then
    if quietSpell before then after else { after with cls.clock := some after.time.now }
  else if quietSpell before && before.cls.cls == after.cls.cls then { after with cls.clock := none }
  else after

/-- A wake event in a state where it is taken: class RUN, WAKE count 3, the quiet spell begun afresh, a stand-down part
ended, and an immediate beacon where the class was RUN and the count rises (R180). In STARTING, NIGHT and FAULTED it is
not taken. -/
def wakeEvent (s : State) : State :=
  if inState s .starting || inState s .night || inState s .faulted then s
  else
    let rises := s.cls.cls == .run && decide (s.cls.wake < Config.repeatBeacons)
    let t := restartSpell (endStandDown .cancelled (setClass .run s))
    let u : State := { t with cls.wake := Config.repeatBeacons }
    if rises then requestBeacon u else u

/-! ## Brake commands (R159, R161) -/

/-- A unit after a drop command (R161, R162). -/
def dropUnit (now : Time) (u : BrakeUnit) : BrakeUnit :=
  if u.state == .applied then { u with liftTime := none }
  else { u with state := .applied, liftTime := none, dropTime := now, holdLatch := false, appliedSince := none }

/-- A unit after a lift command taken in ARMED or RUNNING (R159, R162). -/
def liftUnit (now : Time) (u : BrakeUnit) : BrakeUnit :=
  if u.state == .applied && !u.liftFail then
    { u with state := .lifting, liftTime := some now, holdLatch := false, releaseLatch := false, appliedSince := none }
  else u

/-- One unit record replaced. -/
def setUnit (b : BrakeId) (u : BrakeUnit) (s : State) : State := match b with
  | .eb => { s with brakes.eb := u }
  | .sb => { s with brakes.sb := u }
  | .tb => { s with brakes.tb := u }

/-- A drop command to one unit. -/
def dropBrake (b : BrakeId) (s : State) : State := setUnit b (dropUnit s.time.now (brakeUnit s.brakes b)) s

/-- A drop command to every unit of the node. -/
def dropAll (s : State) : State := dropBrake .tb (dropBrake .sb (dropBrake .eb s))

/-- A lift command to one unit: ignored outside ARMED and RUNNING, and where the role has no such unit (R158, R159). -/
def liftBrake (b : BrakeId) (s : State) : State :=
  if (inState s .armed || inState s .running) && hasBrake (role s) b then
    setUnit b (liftUnit s.time.now (brakeUnit s.brakes b)) s
  else s

/-- LIFT_FAIL cleared at every unit (R170, R171). -/
def clearLiftFail (s : State) : State :=
  { s with brakes.eb.liftFail := false, brakes.sb.liftFail := false, brakes.tb.liftFail := false }

/-! ## The line ceiling (R104 to R111) -/

/-- The value of a ramp at a node time (R109, R111). -/
def rampValue (now : Time) (r : Ramp) : Nat := r.v - r.b * elapsed now r.t / 1000

/-- The term of a peer entry in the line ceiling (R105); none where the entry gives no term. -/
def peerTerm (cap : Nat) (e : Entry) : Option Nat :=
  if e.verif == .matched then
    match e.fresh, e.beacon with
    | .fresh, some r => some r.vperm
    | .stale, some r => some (min r.vperm cap)
    | _, _ => none
  else none

/-- The terms of R105: V_line_max, the own vperm, the peers' terms and the recovery cap; the least of them. -/
def leastTerm (s : State) (p : Profile) : Nat :=
  let own := min p.vLineMax s.envelope.vperm
  let capped := if s.seq.recovery then min own p.vCrawl else own
  (s.peers.filterMap (peerTerm p.vStaleCap)).foldl min capped

/-- The line ceiling as formed now: R105 and R109 in RUNNING, 0 in every other state (R106). -/
def formedCeiling (s : State) : Nat :=
  if inState s .running then
    match s.loader.profile with
    | none => 0
    | some p => match s.ceiling.comms with
      | none => leastTerm s p
      | some r => min (rampValue s.time.now r) (leastTerm s p)
  else 0

/-- The supervision limit follows the ceiling and the release record (R111). -/
def followLimit (s : State) : State :=
  match s.ceiling.release with
  | none => { s with ceiling.limit := s.ceiling.line }
  | some r =>
    if rampValue s.time.now r ≤ s.ceiling.line then
      { s with ceiling.limit := s.ceiling.line, ceiling.release := none }
    else { s with ceiling.limit := rampValue s.time.now r }

/-- The ceiling output with no period: low, DRIVE_EN inactive (R116, R118). -/
def Generator.stopped : Generator where
  current := none
  next := none
  phase := .low
  micros := 0

/-- A line ceiling of 0 stops the ceiling output at once (R118; log entry 10). -/
def silence (s : State) : State := if s.ceiling.line = 0 then { s with generator := Generator.stopped } else s

/-- The line ceiling takes a value; at a DRIVE or CAR in RUNNING or STOPPING a change of it moves the supervision limit,
and a change to a value below the limit begins a release record where none is held (R111). -/
def setLine (v : Nat) (s : State) : State :=
  if s.ceiling.line == v then s
  else
    let t : State := silence { s with ceiling.line := v }
    if hasEncoder s && moving s then
      if decide (v < s.ceiling.limit) && s.ceiling.release.isNone then
        followLimit
          { t with ceiling.release := some { v := s.ceiling.limit, b := s.envelope.bEff.getD 0, t := s.time.now } }
      else followLimit t
    else t

/-- The line ceiling is formed afresh (R104). -/
def formCeiling (s : State) : State := setLine (formedCeiling s) s

/-- A comms stop starts with the ceiling that stood before its event, in RUNNING with none in progress (R108, R109). -/
def startCommsStop (v0 : Nat) (s : State) : State :=
  if inState s .running && s.ceiling.comms.isNone then
    formCeiling { s with ceiling.comms := some { v := v0, b := s.envelope.bEff.getD 0, t := s.time.now } }
  else s

/-! ## Position counts (R21, R23, R28) -/

/-- The present position is set to a number of counts, within the 32 bits of the position counts, and a still-entry
reference held moves with it (R21, R23, R28). -/
def setPresent (target : Int) (p : Profile) (s : State) : State :=
  let counts := sat32 (target - invertedDelta s p)
  let shift := counts - s.tracker.counts
  { s with tracker.counts := counts, tracker.stillRef := s.tracker.stillRef.map (· + shift) }

/-- Car A's extrapolated position, where its entry is FRESH and its record shows a position with quality MARKED
(R28). -/
def referencePosition (s : State) (p : Profile) : Option Nat :=
  match carEntry s .a with
  | none => none
  | some e =>
    if isFresh e && recordShows e (fun r => r.position.isSome && r.quality == .marked) then extrapolated p e else none

/-- The DRIVE re-references its rope position to car A where the conditions hold (R28). -/
def reReference (p : Profile) (s : State) : State :=
  match referencePosition s p with
  | none => s
  | some x =>
    let t := setPresent (countsAt (cpm s p) x) p s
    { t with tracker.quality := .marked }

/-! ## Where a node comes to rest (R15, R121) -/

/-- The stop table a node's position is held against: its own car's at a CAR, car A's at the DRIVE. -/
def ownStops (s : State) (p : Profile) : List Stop :=
  if isCar s && side s == .b then p.stopsB else p.stopsA

/-- The first stop of a table within W_stop of a position. -/
def stopNear (p : Profile) (stops : List Stop) (x : Int) : Option Stop :=
  stops.find? fun t => decide (((t.position : Int) - x).natAbs ≤ p.wStop)

/-- The stop within W_stop of the reported position (R121, R141). -/
def stopHere (s : State) (p : Profile) : Option Stop := stopNear p (ownStops s p) (reported s p)

/-- The position is known and lies within W_stop of a stop. -/
def atStop (s : State) (p : Profile) : Bool := located s && (stopHere s p).isSome

/-- The standing test (R121). -/
def standingTest (s : State) : NodeState :=
  if hasEncoder s then
    match s.loader.profile with
    | some p => if atStop s p then .dwell else .hold
    | none => .hold
  else if heardShows (driveEntry s) (fun r => r.state == .hold) then .hold else .dwell

/-! ## Entering a node state -/

/-- Fields of the Run Sequencer at an entry (R120, R122, R123, R143). -/
def enterSequencer (new : NodeState) (s : State) : State :=
  let q := s.seq
  let gate := isTerminal s && (new == .dwell || new == .hold || new == .tripped || new == .night)
  let base : Sequencer :=
    { q with state := new, stage := .idle, misaligned := false, doorRelease := false, gateRelease := gate }
  let cleared : Sequencer :=
    { base with dispatch := false, consent := false, origin := none, dispatchOrigin := none, deadline := none }
  match new with
  | .armed => { s with seq := base }
  | .running => { s with seq := cleared }
  | .stopping => { s with seq := cleared }
  | _ => { s with seq := { cleared with dir := .none, leg := none, recovery := false } }

/-- The Envelope Calculator at an entry (R55, R56, R61). -/
def enterEnvelope (new : NodeState) (s : State) : State :=
  { s with
    envelope.vperm := if new == .running then s.envelope.vperm else 0
    envelope.atMark := (new == .running || new == .stopping) && s.envelope.atMark
    envelope.gateOpen := (new == .armed || new == .running || new == .stopping) && s.envelope.gateOpen }

/-- Brake commands at an entry (R123). -/
def enterBrakes (new : NodeState) (s : State) : State :=
  match new with
  | .armed => if isCar s then liftBrake .tb s else s
  | .running => s
  | .stopping => if isDrive s then dropBrake .sb s else s
  | _ => dropAll s

/-- The Ceiling and Supervision Unit at an entry (R106, R110 to R113). -/
def enterCeiling (new : NodeState) (s : State) : State :=
  match new with
  | .running =>
    let c := formedCeiling s
    silence
      { s with
        ceiling.line := c
        ceiling.limit := if hasEncoder s then c else 0
        ceiling.release := none
        ceiling.overCount := 0
        ceiling.underCount := 0 }
  | .stopping =>
    let t := silence (setLine 0 s)
    { t with
      ceiling.overCount := 0
      ceiling.underCount := 0
      ceiling.intervention := false
      ceiling.barred := false }
  | _ =>
    silence
      { s with
        ceiling.line := 0
        ceiling.limit := 0
        ceiling.release := none
        ceiling.overCount := 0
        ceiling.underCount := 0
        ceiling.intervention := false
        ceiling.barred := false
        ceiling.comms := if new == .dwell || new == .hold || new == .faulted then none else s.ceiling.comms }

/-- The still-entry reference at an entry (R35), and the DRIVE's re-reference at an entry to DWELL (R28). -/
def enterTracker (new : NodeState) (s : State) : State :=
  match new with
  | .armed => s
  | .running => { s with tracker.stillRef := none }
  | .stopping => { s with tracker.stillRef := none }
  | .tripped => { s with tracker.stillRef := none }
  | .starting => { s with tracker.stillRef := none }
  | .faulted => { s with tracker.stillRef := none }
  | _ =>
    match s.loader.profile with
    | none => s
    | some p =>
      if hasEncoder s then
        let t : State := { s with tracker.stillRef := some (presentCounts s p) }
        if isDrive s && new == .dwell && standstill s then reReference p t else t
      else s

/-- The Class Controller at an entry (R179, R185, R188). -/
def enterClass (prior new : NodeState) (s : State) : State :=
  let t := if prior == .dwell && new != .night then endStandDown .cancelled s else s
  let u : State := if prior == .night then { t with cls.commit := 0 } else t
  match new with
  | .dwell => u
  | .hold => u
  | .night => setClass .dormant u
  | _ => setClass .run u

/-- The distance to stop of the node's own car (R43, R64). -/
def ownDistance (s : State) : Option Int := if side s == .a then s.envelope.distA else s.envelope.distB

/-- MISALIGNED at a CAR's entry to DWELL (R141). -/
def misalignedAt (prior : NodeState) (p : Profile) (s : State) : Bool :=
  match prior with
  | .stopping => match ownDistance s with
    | none => true
    | some d => decide (p.wStop < d.natAbs)
  | .armed => !atStop s p
  | _ => false

/-- The LOOP's entry is FRESH and shows the car's own loop track OCCUPIED (R141). -/
def loopShowsOccupied (s : State) : Bool :=
  freshShows (loopEntry s) (fun r => (if side s == .a then r.occA else r.occB) == .occupied)

/-- MISALIGNED and the door-lock release at an entry to DWELL (R141). -/
def enterDoor (prior new : NodeState) (s : State) : State :=
  if isCar s && new == .dwell then
    match s.loader.profile with
    | none => s
    | some p =>
      let m := misalignedAt prior p s
      let release := !m && match stopHere s p with
        | none => false
        | some t => t.loopFlag != 1 || loopShowsOccupied s
      { s with seq.misaligned := m, seq.doorRelease := release }
  else s

/-- Entry to a node state, with what every block does at it. The caller has set the run fields of a run joined. -/
def enterState (new : NodeState) (s : State) : State :=
  let prior := s.seq.state
  let t := enterDoor prior new <| enterClass prior new <| enterTracker new <| enterCeiling new <| enterBrakes new <|
    enterEnvelope new <| enterSequencer new s
  let u := if new == .faulted then requestAnnounce t else t
  requestBeacon u

/-! ## Trips (R165 to R174) -/

/-- The record of a trip or fault, from the owners as they stand (R174). -/
def tripRecord (s : State) (c : Cause) (secondary : Bool) (origin : Option (NodeId × Cause)) (before : NodeState) :
    TripRecord where
  serial := s.trips.nextSerial
  time := s.time.now
  cause := c
  secondary := secondary
  origin := origin
  state := before
  run := s.seq.run
  position := shownPosition s
  quality := shownQuality s
  speed := shownSpeed s
  motion := shownMotion s
  ceiling := if secondary then 0 else s.ceiling.line
  vperm := if secondary then 0 else s.envelope.vperm

/-- The serial that follows another (R175). -/
def nextSerialAfter (n : Nat) : Nat := if 65535 ≤ n then 1 else n + 1

/-- The profile's ALERT mode is PULSE (R176). -/
def pulseMode (s : State) : Bool := s.loader.profile.any (fun p => p.alert == .pulse)

/-- One record joins the newest end of the history; the oldest of 8 is removed; a PULSE-mode ALERT runs to 10 ms after
it (R174 to R176). -/
def appendRecord (r : TripRecord) (s : State) : State :=
  let kept := if Config.tripRecords ≤ s.trips.history.length then s.trips.history.drop 1 else s.trips.history
  { s with
    trips.history := kept ++ [r]
    trips.nextSerial := nextSerialAfter s.trips.nextSerial
    trips.alertEnd := if pulseMode s then some (after s.time.now Config.alertMs) else s.trips.alertEnd }

/-- A cause joins the active own causes, without duplicates (R166). -/
def addCause (c : Cause) (l : List Cause) : List Cause := if l.contains c then l else l ++ [c]

/-- An own trip cause is raised (R165, R166): nothing in STARTING and FAULTED, a secondary record in TRIPPED, a trip
elsewhere. -/
def raiseCause (c : Cause) (s : State) : State :=
  match s.seq.state with
  | .starting => s
  | .faulted => s
  | .tripped =>
    let t := appendRecord (tripRecord s c true none .tripped) s
    { t with trips.own := addCause c t.trips.own }
  | before =>
    let t := appendRecord (tripRecord s c false none before) s
    enterState .tripped { t with trips.own := addCause c t.trips.own, trips.primary := some c }

/-- PEER_TRIP is raised (R168). The caller has found the node outside STARTING and FAULTED with no origin held. -/
def raisePeerTrip (id : NodeId) (c : Cause) (s : State) : State :=
  if inState s .tripped then
    let t := appendRecord (tripRecord s .peerTrip true (some (id, c)) .tripped) s
    { t with trips.origin := some (id, c) }
  else
    let t := appendRecord (tripRecord s .peerTrip false (some (id, c)) s.seq.state) s
    enterState .tripped { t with trips.origin := some (id, c), trips.primary := some .peerTrip }

/-- The node leaves TRIPPED by the standing test; the primary cause becomes none (R172). -/
def leaveTripped (s : State) : State :=
  let t : State := { s with trips.primary := none }
  enterState (standingTest t) t

/-- Entry to FAULTED with a fault cause (R173): a record, the trip state emptied, every unit dropped. -/
def enterFaulted (c : Cause) (s : State) : State :=
  let shown : State := { s with seq.state := .faulted }
  let t := appendRecord (tripRecord shown c (inState s .tripped) none s.seq.state) s
  enterState .faulted
    { t with trips.own := [], trips.primary := none, trips.origin := none, seq.faultCause := some c }

/-! ## Commands and the hold (R2) -/

/-- A command that a block takes: while the part is held no block acts (R2). This form is for commands that can change
neither the node state nor whether the node stands. -/
def live (f : State → State) (s : State) : Host.Outcome State Fault Refusal := .next (if held s then s else f s)

/-- A command that a block takes: while the part is held no block acts (R2). After it the downshift clock follows the
quiet spell (R178). -/
def act (f : State → State) (s : State) : Host.Outcome State Fault Refusal :=
  .next (if held s then s else settleSpell s (f s))

end Sys2Proof.Machine
end

