-- ==== Sys2Proof/Machine/Line.lean ====
section
/-! DEFINITION. The Line Access Unit's sending: what the node's own frames carry (R69, R70), and the due time, the start,
the loss and the completion of an attempt (R71 to R76, R181, R185). -/

namespace Sys2Proof.Machine

/-! ## Own frames (R69, R70) -/

/-- The fields of the node's own BEACON as they stand (R69); a FAULTED node sends vperm 0, DISPATCH and CONSENT clear
(R16). -/
def ownBeacon (s : State) : BeaconRec where
  state := s.seq.state
  cls := s.cls.cls
  wake := decide (0 < s.cls.wake)
  annReq := unverifiedPresence s
  run := s.seq.run
  dir := s.seq.dir
  leg := s.seq.leg
  dispatch := s.seq.dispatch && !inState s .faulted
  consent := s.seq.consent && !inState s .faulted
  recovery := s.seq.recovery
  sdCode := (standDownField s).1
  sdId := (standDownField s).2
  position := shownPosition s
  quality := shownQuality s
  motion := shownMotion s
  occA := if isLoop s then s.loop.trackA.occ else .clear
  occB := if isLoop s then s.loop.trackB.occ else .clear
  speed := shownSpeed s
  vperm := if inState s .faulted then 0 else s.envelope.vperm
  load := shownLoad s
  cause := shownCause s
  overhaul := s.envelope.overhaul
  atMark := s.envelope.atMark
  misaligned := isCar s && s.seq.misaligned
  disagree := shownDisagree s
  doorsShut := isCar s && doorShut s
  brakesLifted := brakesLifted s
  gateOpen := s.envelope.gateOpen
  commsStop := s.ceiling.comms.isSome
  origin := s.trips.origin

/-- The fields of the node's own ANNOUNCE as they stand (R70). -/
def ownAnnounce (s : State) : AnnounceFrame where
  role := role s
  side := side s
  held :=
    { fingerprint := if inState s .faulted then 0 else s.loader.fingerprint
      revision := if inState s .faulted then 0 else s.loader.revision
      count := s.loader.profile.elim 0 (fun p => p.nodes.length)
      resetCause := s.loader.resetCause }

/-- The octets of an own frame of a kind, with a sequence number. -/
def ownFrame (k : FrameKind) (n : SeqNo) (s : State) : List Byte := match k with
  | .beacon => beaconFrame (ownId s) n (ownBeacon s)
  | .announce => announceFrame (ownId s) n (ownAnnounce s)

/-! ## Due (R74, R76) -/

/-- Node time has reached the beacon due time: as long has passed since the last attempt's start as lies between the
two (R1, R74). -/
def beaconIsDue (s : State) : Bool :=
  match s.access.lastAttempt, s.access.beaconDue with
  | some t, some d => decide (elapsed d t ≤ elapsed s.time.now t)
  | _, _ => false

/-- The pending-beacon mark is set at the due time; a node FAULTED by its load announces as well (R74, R76). -/
def takeDue (s : State) : State :=
  if inState s .starting || !beaconIsDue s || s.access.pendingBeacon || s.access.inHand == some .beacon then s
  else
    let t := wakeTransmitter { s with access.pendingBeacon := true }
    if inState t .faulted && t.loader.profile.isNone then requestAnnounce t else t

/-- BEACON_DUE (R74). -/
def execBeaconDue (s : State) : Host.Outcome State Fault Refusal := live takeDue s

/-! ## The start of an attempt (R71) -/

/-- The frame an attempt sends: the one in hand, else an ANNOUNCE, else a BEACON (R71). -/
def chosenFrame (a : LineAccess) : Option FrameKind :=
  a.inHand.or (if a.pendingAnnounce then some .announce else if a.pendingBeacon then some .beacon else none)

/-- The frame becomes the one in hand, and its mark is cleared where it was not in hand before (R71). -/
def takeInHand (k : FrameKind) (a : LineAccess) : LineAccess :=
  if a.inHand.isSome then a
  else match k with
    | .announce => { a with inHand := some k, pendingAnnounce := false }
    | .beacon => { a with inHand := some k, pendingBeacon := false }

/-- The attempt begins: the counters advance, the contents are sampled, and a BEACON attempt sets the due time (R69, R71,
R74). -/
def beginAttempt (k : FrameKind) (s : State) : State :=
  let a := takeInHand k s.access
  let n := a.ownSeq + 1
  let frame := ownFrame k n s
  let b : LineAccess :=
    { a with
      tx := .sending
      ownSeq := n
      attempts := a.attempts + 1
      gapReached := false
      txFrame := frame
      txBits := frameLevels frame
      lost := false
      sent := [] }
  match k with
  | .announce => { s with access := b }
  | .beacon =>
    { s with
      access :=
        { b with
          lastAttempt := some s.time.now
          beaconDue := some (after s.time.now (beaconPeriod s.cls.cls)) } }

/-- The deferral gap is reached in DEFERRING (R71; log entry 11). -/
def startAttempt (s : State) : State :=
  if s.access.tx == .deferring && s.access.gapReached && !inState s .starting then
    match chosenFrame s.access with
    | none => s
    | some k => beginAttempt k s
  else s

/-- ATTEMPT_START (R71). -/
def execAttemptStart (s : State) : Host.Outcome State Fault Refusal := live startAttempt s

/-! ## Loss and completion (R72, R73, R181, R185) -/

/-- The transmit state with no attempt in progress and no frame in hand: DEFERRING if a mark is set, IDLE otherwise. -/
def restingTx (a : LineAccess) : TxState := if a.pendingBeacon || a.pendingAnnounce then .deferring else .idle

/-- The attempt in progress is over, with nothing left to drive. -/
def endAttempt (tx : TxState) (a : LineAccess) : LineAccess := { a with tx := tx, txFrame := [], txBits := [], lost := false }

/-- The frame in hand is released (R72, R73). -/
def releaseFrame (a : LineAccess) : LineAccess := { endAttempt (restingTx a) a with inHand := none, attempts := 0 }

/-- While COMMIT beacons remain, each completion or drop of a BEACON asks for another (R185). -/
def repeatCommit (s : State) : State := if 0 < s.cls.commit then requestBeacon s else s

/-- The line has been lost in SENDING (R72, R185). -/
def loseLine (s : State) : State :=
  if attemptLost s.access then
    if s.access.attempts < Config.maxAttempts then { s with access := endAttempt .deferring s.access }
    else
      let t : State := { s with access := releaseFrame s.access }
      if s.access.inHand == some .beacon then repeatCommit t else t
  else s

/-- LINE_LOST (R72). -/
def execLineLost (s : State) : Host.Outcome State Fault Refusal := live loseLine s

/-- The attempt on the line carried WAKE (R181). -/
def carriedWake (l : List Byte) : Bool := flag (octetAt l 2) 1

/-- The attempt on the line carried COMMIT (R185). -/
def carriedCommit (l : List Byte) : Bool := decide (octetAt l 6 / 64 = 3)

/-- The counts after a completed BEACON (R181, R185). -/
def countDown (l : List Byte) (s : State) : State :=
  let t : State :=
    { s with
      cls.wake := if carriedWake l then s.cls.wake - 1 else s.cls.wake
      cls.commit := if carriedCommit l then s.cls.commit - 1 else s.cls.commit }
  repeatCommit t

/-- Every ANNOUNCE-owed mark is cleared (R93). -/
def clearOwed (s : State) : State := { s with peers := s.peers.map fun e => { e with owed := false } }

/-- An attempt completes in SENDING: the frame is released, and what was sent is kept for the test of R79; the receiver
has gathered it as the bit times passed (R73). -/
def completeAttempt (s : State) : State :=
  if attemptDriven s.access then
    let l := s.access.txFrame
    let t : State := { s with access := { releaseFrame s.access with sent := l } }
    match s.access.inHand with
    | some .beacon => countDown l t
    | some .announce => clearOwed t
    | none => t
  else s

/-- ATTEMPT_COMPLETE (R73). -/
def execAttemptComplete (s : State) : Host.Outcome State Fault Refusal := live completeAttempt s

end Sys2Proof.Machine
end

