-- ==== Sys2Proof/Machine/Envelope.lean ====
section
/-! DEFINITION. The Envelope Calculator: stop marks, distances, imbalance, effective deceleration, curves, vperm, and the
judgement of arrival, for every role (R40 to R62, R155, R156). -/

namespace Sys2Proof.Machine

/-! ## isqrt ("Arithmetic") -/

/-- The square root built from its most significant bit down. -/
def isqrtBits (n : Nat) : Nat → Nat → Nat
  | 0, r => r
  | k + 1, r => if (r + 2 ^ k) * (r + 2 ^ k) ≤ n then isqrtBits n k (r + 2 ^ k) else isqrtBits n k r

/-- The floor of the square root. -/
def isqrt (n : Nat) : Nat := isqrtBits n (n.log2 / 2 + 1) 0

/-! ## Travel and the stop mark (R41 to R43) -/

/-- A car's direction of travel in a run direction (R41). -/
def travelIn (dir : Direction) (x : Side) : Option Travel :=
  match dir, x with
  | .none, _ => none
  | .aUp, .a => some .up
  | .aUp, .b => some .down
  | .aDown, .a => some .down
  | .aDown, .b => some .up

/-- A stop table entry by index. -/
def stopAtIndex (stops : List Stop) (k : Nat) : Option Nat := (stops[k]?).map Stop.position

/-- A car's leg stop: entry t of car A's table, entry n − 1 − t of car B's (R42). -/
def legStop (p : Profile) (x : Side) (leg : Option (Fin 5)) : Option Nat :=
  match leg with
  | none => none
  | some t =>
    if t.val < p.stopsA.length then
      match x with
      | .a => stopAtIndex p.stopsA t.val
      | .b => stopAtIndex p.stopsB (p.stopsA.length - 1 - t.val)
    else none

/-- The leg target is an index from 0 to n − 1 (R42, R127). -/
def legIndexed (p : Profile) (leg : Option (Fin 5)) : Bool := leg.any (fun t => decide (t.val < p.stopsA.length))

/-- The track end in a direction of travel (R42). -/
def trackEnd (p : Profile) : Travel → Nat
  | .up => p.length
  | .down => 0

/-- The stop mark of a decided car (R42). -/
def stopMark (p : Profile) (x : Side) (d : Travel) (c : StopChoice) (leg : Option (Fin 5)) : Option Nat :=
  match c with
  | .undecided => none
  | .leg => legStop p x leg
  | .trackEnd => some (trackEnd p d)

/-- The distance to a mark from a position (R43). -/
def distanceTo (d : Travel) (mark position : Nat) : Int :=
  match d with
  | .up => (mark : Int) - position
  | .down => (position : Int) - mark

/-- A car concerned by a node: its own car at a CAR, both at the DRIVE and the LOOP (R39, R155). -/
def concerns (s : State) (x : Side) : Bool := isDrive s || isLoop s || (isCar s && side s == x)

/-- A concerned car's position as the node knows it; none where the quality is NONE or the position not usable (R43,
R147). -/
def carPosition (s : State) (p : Profile) (x : Side) : Option Nat :=
  if isLoop s then usablePosition p (carEntry s x)
  else if concerns s x && located s then
    if isDrive s && x == .b then some (p.length - reported s p) else some (reported s p)
  else none

/-- The choice of an undecided car at a position (R42). -/
def chooseMark (p : Profile) (x : Side) (d : Travel) (recovery : Bool) (leg : Option (Fin 5)) (position : Nat) :
    StopChoice :=
  if legIndexed p leg then
    match legStop p x leg with
    | none => .trackEnd
    | some m => if recovery && decide (distanceTo d m position < -(p.wStop : Int)) then .trackEnd else .leg
  else .trackEnd

/-- The choice of one car after step 1: a choice once made stands (R42). -/
def decideCar (s : State) (p : Profile) (x : Side) (c : StopChoice) : StopChoice :=
  if c == .undecided then
    match carPosition s p x, travelIn s.seq.dir x with
    | some q, some d => chooseMark p x d s.seq.recovery s.seq.leg q
    | _, _ => .undecided
  else c

/-- ARMED, RUNNING or STOPPING. -/
def inRun (s : State) : Bool := inState s .armed || inState s .running || inState s .stopping

/-- Step 1: the stop-mark record is brought to the present run and each undecided car decided (R42, R155). -/
def stopMarkStep (p : Profile) (s : State) : State :=
  if inRun s then
    let same := s.envelope.stopRun == some s.seq.run
    let a : StopChoice := if same then s.envelope.choiceA else .undecided
    let b : StopChoice := if same then s.envelope.choiceB else .undecided
    { s with
      envelope.stopRun := some s.seq.run
      envelope.choiceA := decideCar s p .a a
      envelope.choiceB := decideCar s p .b b }
  else s

/-- A car's choice in the stop-mark record. -/
def choiceOf (s : State) (x : Side) : StopChoice := match x with
  | .a => s.envelope.choiceA | .b => s.envelope.choiceB

/-- The stop mark of a concerned car, with its direction of travel and its position, where all three are known. Where a
car's choice is LEG and R130 has then replaced the leg target of the same run by none or an index beyond the table, which a
LOOP's consent does not shut out, no rule gives the car a stop mark: the model gives it none, so that its distance is
absent and its value min(V_crawl, V_line_max) (DESIGN CHOICE, log entry 47). -/
def aim (s : State) (p : Profile) (x : Side) : Option (Travel × Nat × Nat) :=
  match travelIn s.seq.dir x, carPosition s p x with
  | some d, some q => (stopMark p x d (choiceOf s x) s.seq.leg).map fun m => (d, m, q)
  | _, _ => none

/-- A car's distance to stop (R43). -/
def distanceOf (s : State) (p : Profile) (x : Side) : Option Int :=
  (aim s p x).map fun (d, m, q) => distanceTo d m q

/-- A distance that a LOOP keeps at a sample tick outside ARMED, RUNNING and STOPPING: absent while the choice is UNDECIDED
or the car's position is not usable (R155), otherwise as the tick before left it (R43; DEDUCED, log entry 46). A distance so
made absent stays absent when the position is usable again, until a tick of a run computes one: R43, which keeps the value of
the last tick that computed one, could also bring that value back (DESIGN CHOICE, log entry 50). -/
def keptDistance (s : State) (p : Profile) (x : Side) (d : Option Int) : Option Int :=
  if choiceOf s x == .undecided || (carPosition s p x).isNone then none else d

/-- Step 2: the distances to stop, computed in ARMED, RUNNING and STOPPING and kept elsewhere (R43), at a LOOP while R155
lets them stand. -/
def distanceStep (p : Profile) (s : State) : State :=
  if inRun s then
    { s with envelope.distA := distanceOf s p .a, envelope.distB := distanceOf s p .b }
  else if isLoop s then
    { s with
      envelope.distA := keptDistance s p .a s.envelope.distA
      envelope.distB := keptDistance s p .b s.envelope.distB }
  else s

/-! ## Segments and curves (R44 to R46, R53) -/

/-- The entry with the greatest start not above a position (R44). -/
def presentSegment (segments : List Segment) (x : Nat) : Option Segment :=
  segments.reverse.find? (fun g => decide (g.start ≤ x))

/-- A target: its speed and its distance. -/
structure Target where
  speed : Nat
  distance : Int
  deriving DecidableEq, Repr

/-- The target, if any, at the boundary between two neighbouring segments (R45). -/
def boundaryTarget (d : Travel) (mark x : Nat) (low high : Segment) : Option Target :=
  match d with
  | .up =>
    if high.limit < low.limit ∧ x < high.start ∧ high.start ≤ mark then
      some { speed := high.limit, distance := (high.start : Int) - x }
    else none
  | .down =>
    if low.limit < high.limit ∧ mark ≤ high.start ∧ high.start ≤ x then
      some { speed := low.limit, distance := (x : Int) - high.start }
    else none

/-- Every target of a car: the boundaries and the stop mark (R45). -/
def targets (p : Profile) (d : Travel) (mark x : Nat) : List Target :=
  ((p.segments.zip p.segments.tail).filterMap fun (g, h) => boundaryTarget d mark x g h)
    ++ [{ speed := p.vCreep, distance := distanceTo d mark x }]

/-- The curve to one target (R46). -/
def curve (p : Profile) (bEff : Nat) (t : Target) : Nat :=
  isqrt (t.speed * t.speed + 2 * bEff * (t.distance - p.dMargin).toNat)

/-- The curve limit of a car: its segment's limit, its targets' curves, V_line_max (R53). -/
def curveLimit (p : Profile) (bEff : Nat) (d : Travel) (mark x : Nat) : Nat :=
  let segment := (presentSegment p.segments x).elim p.vLineMax Segment.limit
  ((targets p d mark x).map (curve p bEff)).foldl min (min p.vLineMax segment)

/-! ## Imbalance and effective deceleration (R47 to R52, R62) -/

/-- A car's load as the node takes it; none where it is unknown (R48). -/
def loadOf (s : State) (p : Profile) (x : Side) : Option Nat :=
  if isCar s && side s == x then s.tracker.load
  else match carEntry s x with
    | none => none
    | some e => if heard e then (e.beacon.bind BeaconRec.load).map (min · p.wMax) else none

/-- The ascending car's position from the peer entries, at a LOOP or TERMINAL, in the order of R62. -/
def peerAscending (s : State) (p : Profile) (asc : Side) : Option Nat :=
  match usablePosition p (driveEntry s) with
  | some x => some (if asc == .a then x else p.length - x)
  | none => match usablePosition p (carEntry s asc) with
    | some x => some x
    | none => (usablePosition p (carEntry s (otherSide asc))).map (p.length - ·)

/-- The ascending car's position; none where it is unknown (R47, R62). -/
def ascending (s : State) (p : Profile) (asc : Side) : Option Nat :=
  if hasEncoder s then
    if located s then
      let own : Side := if isDrive s then .a else side s
      some (if own == asc then reported s p else p.length - reported s p)
    else none
  else peerAscending s p asc

/-- The rope term at p_asc, or at its largest where p_asc is unknown (R47, R49). -/
def ropeTerm (p : Profile) (pAsc : Option Nat) : Int :=
  match pAsc with
  | some x => ceilDiv (p.rRope * (2 * (x : Int) - p.length)) 10000
  | none => ceilDiv (p.rRope * (p.length : Int)) 10000

/-- The K of the segment at a position. -/
def kAt (p : Profile) (x : Nat) : Nat := (presentSegment p.segments x).elim 0 Segment.k

/-- K: the larger of the two under the cars, or the largest in the table where p_asc is unknown (R47, R50). -/
def kOf (p : Profile) (pAsc : Option Nat) : Nat :=
  match pAsc with
  | some x => max (kAt p x) (kAt p (p.length - x))
  | none => (p.segments.map Segment.k).foldl max 0

/-- The imbalance mass with one car ascending, unknown loads taken at the worst (R48, R49). -/
def imbalance (s : State) (p : Profile) (asc : Side) : Int :=
  ((loadOf s p (otherSide asc)).getD p.wMax : Int) - ((loadOf s p asc).getD 0 : Int)
    + ropeTerm p (ascending s p asc)

/-- b_raw with one car ascending (R51). -/
def rawDeceleration (s : State) (p : Profile) (asc : Side) : Int :=
  (p.bRate : Int) - ceilDiv (max 0 (imbalance s p asc) * (kOf p (ascending s p asc) : Int)) 1000

/-- The values of b_raw that the run direction asks for: one, or both with direction NONE (R47, R52). -/
def rawDecelerations (s : State) (p : Profile) : List Int :=
  match s.seq.dir with
  | .aUp => [rawDeceleration s p .a]
  | .aDown => [rawDeceleration s p .b]
  | .none => [rawDeceleration s p .a, rawDeceleration s p .b]

/-- The effective deceleration: the lowest b_raw, clamped to B_floor (R51, R52). -/
def effective (s : State) (p : Profile) : Nat :=
  ((rawDecelerations s p).map (fun b => (max (p.bFloor : Int) b).toNat)).foldl min p.bRate

/-- OVERHAUL: a b_raw below B_floor (R51, R52). -/
def overhauls (s : State) (p : Profile) : Bool := (rawDecelerations s p).any (fun b => decide (b < (p.bFloor : Int)))

/-- Step 3: b_eff and OVERHAUL. -/
def decelerationStep (p : Profile) (s : State) : State :=
  { s with envelope.bEff := some (effective s p), envelope.overhaul := overhauls s p }

/-! ## vperm (R53 to R55, R59, R61, R156) -/

/-- A condition of R54 that caps the curve limit at V_crawl. -/
def cappedAtCrawl (s : State) : Bool :=
  s.envelope.overhaul || s.tracker.disagree || s.seq.recovery
    || (isCar s && (s.tracker.unexpected || decide (s.tracker.misses = 1)))

/-- A concerned car's value before the state gating: its curve limit, or min(V_crawl, V_line_max) for a car that is not
located or not decided (R53, R54, R156). For a located car of a CAR or DRIVE whose run has direction NONE, R41, R53 and R54
give no value: the model takes min(V_crawl, V_line_max) and an absent distance there too (DESIGN CHOICE, log entry 42). -/
def carValue (s : State) (p : Profile) (x : Side) : Nat :=
  match aim s p x with
  | none => min p.vCrawl p.vLineMax
  | some (d, m, q) =>
    let v := curveLimit p (s.envelope.bEff.getD 0) d m q
    if hasEncoder s && cappedAtCrawl s then min v p.vCrawl else v

/-- vperm in ARMED and RUNNING, before a judgement of AT_MARK. -/
def permitted (s : State) (p : Profile) : Nat :=
  if isCar s then carValue s p (side s) else min (carValue s p .a) (carValue s p .b)

/-- Steps 4 and 5: vperm under the state gating of R55. -/
def vpermStep (p : Profile) (s : State) : State :=
  { s with envelope.vperm := if inState s .armed || inState s .running then permitted s p else 0 }

/-! ## Arrival (R56, R57, R60) -/

/-- The distances judged: the own car's at a CAR, both at the DRIVE. -/
def judgedDistances (s : State) : List Int :=
  if isCar s then (ownDistance s).toList else s.envelope.distA.toList ++ s.envelope.distB.toList

/-- Step 6: AT_MARK, and vperm 0 with it in RUNNING; then OVERRUN, raised once (R56, R57, R60). -/
def arrivalStep (p : Profile) (s : State) : State :=
  if moving s then
    let ds := judgedDistances s
    let arrived := ds.any (fun d => decide (d.natAbs ≤ p.wStop)) && decide (s.tracker.speed ≤ p.vCreep)
    let t : State := { s with envelope.atMark := arrived, envelope.vperm := if arrived then 0 else s.envelope.vperm }
    if ds.any (fun d => decide (d < -(p.wStop : Int))) then raiseCause .overrun t else t
  else s

/-! ## The sample work by role -/

/-- A DRIVE's or CAR's sample work (R40). -/
def envelopeEncoder (p : Profile) (s : State) : State :=
  arrivalStep p (vpermStep p (decelerationStep p (distanceStep p (stopMarkStep p s))))

/-- A LOOP's sample work: no AT_MARK, no OVERRUN, no caps (R155, R156). -/
def envelopeLoop (p : Profile) (s : State) : State :=
  vpermStep p (decelerationStep p (distanceStep p (stopMarkStep p s)))

/-- A TERMINAL's sample work: GATE_OPEN, b_eff and OVERHAUL, vperm from the gate alone (R61, R62). -/
def envelopeTerminal (p : Profile) (s : State) : State :=
  let g := inRun s && !gateShut s
  decelerationStep p
    { s with
      envelope.gateOpen := g
      envelope.vperm := if (inState s .armed || inState s .running) && !g then p.vLineMax else 0 }

/-- The Envelope Calculator's work at a sample tick: in every node state after STARTING except FAULTED (R40). -/
def envelopeWork (s : State) : State :=
  match s.loader.profile with
  | none => s
  | some p =>
    if inService s then
      match role s with
      | .drive => envelopeEncoder p s
      | .car => envelopeEncoder p s
      | .loop => envelopeLoop p s
      | .terminal => envelopeTerminal p s
    else s

end Sys2Proof.Machine
end

