-- ==== Sys2Proof/Machine/Loop.lean ====
section
/-! DEFINITION. The Loop Monitor: loop geometry (R146), the occupancy machine (R150, R151), the judgement of rises
(R152), confirmation at rest (R153) and the LOOP's consent (R157). -/

namespace Sys2Proof.Machine

/-! ## Geometry (R146) -/

/-- A car's stop table. -/
def stopsOf (p : Profile) (x : Side) : List Stop := match x with
  | .a => p.stopsA | .b => p.stopsB

/-- A car's loop stop. -/
def loopStop (p : Profile) (x : Side) : Nat := (((stopsOf p x).find? (fun t => t.loopFlag == 1)).map Stop.position).getD 0

/-- The lower bound of the loop section: the start of the segment containing the lower of the two loop stops. -/
def loopLower (p : Profile) : Nat :=
  ((p.segments.reverse.find? (fun g => decide (g.start ≤ min (loopStop p .a) (loopStop p .b)))).map Segment.start).getD 0

/-- The upper bound: the start of the segment after the one containing the higher of the two, or L. -/
def loopUpper (p : Profile) : Nat :=
  ((p.segments.find? (fun g => decide (max (loopStop p .a) (loopStop p .b) < g.start))).map Segment.start).getD p.length

/-- A position is inside the loop section. -/
def insideLoop (p : Profile) (x : Nat) : Bool := decide (loopLower p ≤ x) && decide (x < loopUpper p)

/-- The position of a detector. -/
def detectorAt (p : Profile) (d : Detector) : Nat := match d.track, d.atEnd with
  | .a, .low => p.detALow | .a, .up => p.detAUp | .b, .low => p.detBLow | .b, .up => p.detBUp

/-- A position lies on the inner side of a detector. -/
def innerSide (p : Profile) (d : Detector) (x : Nat) : Bool := match d.atEnd with
  | .low => decide (detectorAt p d ≤ x)
  | .up => decide (x ≤ detectorAt p d)

/-- A car's position as the LOOP holds it; none where it is not usable (R147). -/
def loopCarPosition (s : State) (p : Profile) (x : Side) : Option Nat := usablePosition p (carEntry s x)

/-! ## Track and detector records -/

/-- A loop track replaced; a change of its occupancy asks for an immediate beacon (R154). -/
def setTrack (x : Side) (t : Track) (s : State) : State :=
  let u : State := match x with
    | .a => { s with loop.trackA := t }
    | .b => { s with loop.trackB := t }
  if (track s.loop x).occ == t.occ then u else requestBeacon u

/-- A detector's input record replaced. -/
def setDetector (d : Detector) (i : DetectorInput) (m : LoopMonitor) : LoopMonitor := match d.track, d.atEnd with
  | .a, .low => { m with aLow := i }
  | .a, .up => { m with aUp := i }
  | .b, .low => { m with bLow := i }
  | .b, .up => { m with bUp := i }

/-- A detector is active. -/
def active (s : State) (x : Side) (e : LoopEnd) : Bool := (detectorInput s.loop { track := x, atEnd := e }).level

/-- A track as a sequence fault sets it from its detectors; `later` is the end whose rise was taken later (R151). -/
def trackFromDetectors (s : State) (x : Side) (later : LoopEnd) : Track :=
  match active s x .low, active s x .up with
  | true, true => { occ := .entering, last := some later, unconfirmed := true }
  | true, false => { occ := .entering, last := some .low, unconfirmed := true }
  | false, true => { occ := .entering, last := some .up, unconfirmed := true }
  | false, false => { occ := .occupied, last := none, unconfirmed := true }

/-! ## Rises (R150, R152) -/

/-- A rise is out of sequence (R150). -/
def riseOutOfSequence (t : Track) : Bool := t.occ == .entering || t.occ == .leaving

/-- A usable position lies within W_det of a point (R152). -/
def nearDetector (p : Profile) (x : Option Nat) (point : Nat) : Bool :=
  x.any (fun q => decide (((q : Int) - point).natAbs ≤ p.wDet))

/-- The cause, if any, that the cars' positions give a rise (R152). -/
def judgeRise (s : State) (p : Profile) (d : Detector) : Option Cause :=
  let own := loopCarPosition s p d.track
  let other := loopCarPosition s p (otherSide d.track)
  if nearDetector p own (detectorAt p d) then none
  else if nearDetector p other (detectorAt p d) then some .wrongTrack
  else if own.isSome then some .loopSequence
  else none

/-- The track after a rise (R150, R151). -/
def riseTrack (s : State) (d : Detector) (t : Track) : Track :=
  match t.occ with
  | .clear => { t with occ := .entering, last := some d.atEnd }
  | .occupied => { t with occ := .leaving, last := some d.atEnd }
  | _ => trackFromDetectors s d.track d.atEnd

/-- A rise is taken: one cause raised at most, then the track moves (R150 to R152). The detector's level has been
set. In ARMED an edge that raises a cause and changes the occupancy or the UNCONFIRMED mark calls for the trip of R165 and for
the consent judgement of R154, which may leave ARMED, and no rule orders them: the model raises the cause first, so that the
trip record shows ARMED (DESIGN CHOICE, log entry 49). -/
def takeRise (p : Profile) (d : Detector) (s : State) : State :=
  let t := track s.loop d.track
  let cause := (judgeRise s p d).or (if riseOutOfSequence t then some .loopSequence else none)
  let raised := match cause with
    | none => s
    | some c => raiseCause c s
  setTrack d.track (riseTrack s d t) raised

/-! ## Falls (R151) -/

/-- The track after a fall in its sequence; none for a sequence fault (R151). -/
def fallTrack (p : Profile) (d : Detector) (x : Option Nat) (t : Track) : Option Track :=
  if t.last == some d.atEnd then
    match t.occ, x with
    | .entering, some q =>
      some { occ := if innerSide p d q then .occupied else .clear, last := none, unconfirmed := false }
    | .entering, none => some { occ := .occupied, last := none, unconfirmed := true }
    | .leaving, some q =>
      some { occ := if innerSide p d q then .occupied else .clear, last := none, unconfirmed := false }
    | .leaving, none => some { occ := .clear, last := none, unconfirmed := true }
    | _, _ => none
  else none

/-- A fall is taken (R151). The detector's level has been set. As at a rise, a cause is raised before the consent judgement
(DESIGN CHOICE, log entry 49). -/
def takeFall (p : Profile) (d : Detector) (s : State) : State :=
  match fallTrack p d (loopCarPosition s p d.track) (track s.loop d.track) with
  | some t => setTrack d.track t s
  | none => setTrack d.track (trackFromDetectors s d.track d.atEnd) (raiseCause .loopSequence s)

/-! ## Confirmation (R153) -/

/-- The track of a car whose FRESH record shows it standing at a usable position. -/
def confirmedTrack (p : Profile) (x : Side) (q : Nat) : Track :=
  let low := detectorAt p { track := x, atEnd := .low }
  let up := detectorAt p { track := x, atEnd := .up }
  { occ := if low < q ∧ q < up then .occupied else .clear, last := none, unconfirmed := false }

/-- One track is confirmed where the conditions hold (R153). -/
def confirmTrack (p : Profile) (x : Side) (s : State) : State :=
  if (track s.loop x).unconfirmed && !active s x .low && !active s x .up
      && freshShows (carEntry s x) (fun r => r.motion == .stopped) then
    match loopCarPosition s p x with
    | none => s
    | some q => setTrack x (confirmedTrack p x q) s
  else s

/-- The Loop Monitor's work at a sample tick: in every node state after STARTING except FAULTED (R153). -/
def loopWork (s : State) : State :=
  match s.loader.profile with
  | none => s
  | some p => if isLoop s && inService s then confirmTrack p .b (confirmTrack p .a s) else s

/-! ## The LOOP's consent (R157) -/

/-- Both tracks hold one occupancy, confirmed. -/
def bothConfirmed (m : LoopMonitor) (o : Occupancy) : Bool :=
  m.trackA.occ == o && m.trackB.occ == o && !m.trackA.unconfirmed && !m.trackB.unconfirmed

/-- A car's position is usable and lies within W_stop of its loop stop. -/
def atLoopStop (s : State) (p : Profile) (x : Side) : Bool :=
  (loopCarPosition s p x).any (fun q => decide (((q : Int) - loopStop p x).natAbs ≤ p.wStop))

/-- A car's position is usable and outside the loop section. -/
def awayFromLoop (s : State) (p : Profile) (x : Side) : Bool := (loopCarPosition s p x).any (fun q => !insideLoop p q)

/-- A car passes in a recovery run: its track is not CLEAR exactly when the car is inside the loop section. -/
def recoveryPasses (s : State) (p : Profile) (x : Side) : Bool :=
  (loopCarPosition s p x).all (fun q => (((track s.loop x).occ != .clear) == insideLoop p q))

/-- The LOOP's consent conditions: one of the three cases (R157). -/
def loopConsents (s : State) (p : Profile) (recovery : Bool) : Bool :=
  (bothConfirmed s.loop .clear && awayFromLoop s p .a && awayFromLoop s p .b)
    || (bothConfirmed s.loop .occupied && atLoopStop s p .a && atLoopStop s p .b)
    || (recovery && recoveryPasses s p .a && recoveryPasses s p .b)

end Sys2Proof.Machine
end

