-- ==== Sys2Proof/Machine/Sequencer.lean ====
section
/-! DEFINITION. The Run Sequencer: proposing and joining runs, consent, the DRIVE's line start, arrival, rest, doors, and
its judgements at beacons, change signals and sample ticks (R121 to R143). -/

namespace Sys2Proof.Machine

/-! ## Run numbers (R124) -/

/-- The run number shown by a current peer becomes the candidate where it is newer. -/
def candidateStep (c : RunNo) (e : Entry) : RunNo :=
  match e.beacon with
  | none => c
  | some r => if heard e && newerRun r.run c then r.run else c

/-- The number of a new run: the candidate plus 1, with 0 replaced by 1 (R124). -/
def newRunNumber (s : State) : RunNo :=
  let n := s.peers.foldl candidateStep s.seq.run + 1
  if n = 0 then 1 else n

/-! ## Proposing a run (R125, R126) -/

/-- A run direction asked for by a press. -/
def directionOf : RunDir → Direction
  | .aUp => .aUp
  | .aDown => .aDown

/-- Car A's position by the node's own encoder (R125, the first three sources). -/
def ownCarA (s : State) (p : Profile) : Option Nat :=
  if hasEncoder s && located s then
    if isCar s && side s == .b then some (p.length - reported s p) else some (reported s p)
  else none

/-- Car A's position as the dispatching node knows it: the first usable source of R125. -/
def carAPosition (s : State) (p : Profile) : Option Nat :=
  (ownCarA s p).or <| (usablePosition p (carEntry s .a)).or <| (usablePosition p (driveEntry s)).or <|
    (usablePosition p (carEntry s .b)).map (p.length - ·)

/-- An index as a leg target. -/
def legOfIndex (k : Nat) : Option (Fin 5) := if h : k < 5 then some ⟨k, h⟩ else none

/-- The lowest stop of car A above p + W_stop, or the highest below p − W_stop (R125). -/
def legFrom (p : Profile) (dir : RunDir) (x : Nat) : Option (Fin 5) :=
  match dir with
  | .aUp => (p.stopsA.findIdx? (fun t => decide (x + p.wStop < t.position))).bind legOfIndex
  | .aDown =>
    let below := p.stopsA.countP (fun t => decide (t.position + p.wStop < x))
    if below = 0 then none else legOfIndex (below - 1)

/-- The leg target of a new run (R125). -/
def legTarget (s : State) (p : Profile) (dir : RunDir) : Option (Fin 5) :=
  match carAPosition s p with
  | some x => legFrom p dir x
  | none => match dir with
    | .aUp => legOfIndex (p.stopsA.length - 1)
    | .aDown => legOfIndex 0

/-- RECOVERY for a new run: the node itself, the DRIVE, car A or car B stands in HOLD (R126). -/
def recoveryFor (s : State) : Bool :=
  let shows := fun (e : Option Entry) => heardShows e (fun r => r.state == .hold)
  inState s .hold || shows (driveEntry s) || shows (carEntry s .a) || shows (carEntry s .b)

/-! ## Consent (R127, R132) -/

/-- The role's own consent conditions for a run (R127). -/
def roleConsents (s : State) (p : Profile) (leg : Option (Fin 5)) (recovery : Bool) : Bool :=
  match role s with
  | .drive =>
    legIndexed p leg && (located s || recovery) && !s.brakes.eb.liftFail && !s.brakes.sb.liftFail
  | .car => doorShut s && legIndexed p leg && (located s || recovery) && !s.brakes.tb.liftFail
  | .terminal => gateShut s
  | .loop => loopConsents s p recovery

/-- The consent conditions together with the completeness of the peer table (R127). -/
def consents (s : State) (leg : Option (Fin 5)) (recovery : Bool) : Bool :=
  complete s && s.loader.profile.any (fun p => roleConsents s p leg recovery)

/-- The node leaves ARMED for its origin state (R132). -/
def leaveArmed (s : State) : State := enterState (s.seq.origin.getD .hold) s

/-- In ARMED the consent conditions are judged again (R127, R132). -/
def judgeConsent (s : State) : State :=
  if inState s .armed && !consents s s.seq.leg s.seq.recovery then leaveArmed s else s

/-! ## Line start at the DRIVE (R134, R135) -/

/-- A peer's record shows ARMED with CONSENT for the node's own run. -/
def consentsWith (s : State) (r : BeaconRec) : Bool :=
  r.state == .armed && r.consent && r.run == s.seq.run && r.dir == s.seq.dir && r.leg == s.seq.leg
    && r.recovery == s.seq.recovery

/-- The line-start condition (R134). -/
def lineStartHolds (s : State) : Bool :=
  fullyFresh s && s.peers.all (fun e => recordShows e (consentsWith s))
    && (carEntry s .a).any (fun e => recordShows e BeaconRec.brakesLifted)
    && (carEntry s .b).any (fun e => recordShows e BeaconRec.brakesLifted)

/-- The line start is judged: EB lifted from IDLE, or the start aborted (R134, R135). -/
def judgeLineStart (s : State) : State :=
  if isDrive s && inState s .armed && s.seq.consent then
    if s.seq.stage == .idle then
      if lineStartHolds s then
        let t := liftBrake .eb s
        { t with seq.stage := .eb }
      else s
    else if lineStartHolds s then s
    else
      let t := dropBrake .sb (dropBrake .eb s)
      { t with seq.stage := .idle }
  else s

/-- The start stage moves on when a unit becomes LIFTED (R134). -/
def stageLifted (b : BrakeId) (s : State) : State :=
  let t := judgeLineStart s
  if isDrive t && inState t .armed then
    match t.seq.stage, b with
    | .eb, .eb =>
      let u := liftBrake .sb t
      { u with seq.stage := .sb }
    | .sb, .sb => enterState .running t
    | _, _ => t
  else t

/-! ## Dispatch (R128) -/

/-- The deadline of an arming that begins now (R128). -/
def armingDeadline (s : State) (p : Profile) : Time := after s.time.now (p.tArm * 1000)

/-- A refused press: the refusal window runs to 2,000 ms from now (R128, R184). -/
def refusePress (s : State) : State := { s with seq.refusal := some (after s.time.now Config.refusalMs) }

/-- The run fields of a run that the node dispatches, adopts or takes in place of its own (R128, R129). -/
def takeRun (run : RunNo) (dir : Direction) (leg : Option (Fin 5)) (recovery dispatcher : Bool) (source : NodeId)
    (p : Profile) (s : State) : State :=
  { s with
    seq.run := run
    seq.dir := dir
    seq.leg := leg
    seq.recovery := recovery
    seq.dispatch := dispatcher
    seq.consent := true
    seq.dispatchOrigin := some source
    seq.deadline := some (armingDeadline s p) }

/-- Entry to ARMED from DWELL or HOLD with a run taken. -/
def arm (s : State) : State := enterState .armed { s with seq.origin := some s.seq.state }

/-- The node's own entry is dispatch-enabled (R128). -/
def dispatchEnabled (s : State) (p : Profile) : Bool := (ownNode s p).any ListedNode.dispatchEnabled

/-- A press is accepted (R128). -/
def pressAccepted (s : State) (p : Profile) (dir : RunDir) : Bool :=
  dispatchEnabled s p && resting s && (legTarget s p dir).isSome && consents s (legTarget s p dir) (recoveryFor s)

/-- A dispatch press at the Run Sequencer (R128). -/
def dispatch (dir : RunDir) (s : State) : State :=
  match s.loader.profile with
  | none => refusePress s
  | some p =>
    if pressAccepted s p dir then
      arm (takeRun (newRunNumber s) (directionOf dir) (legTarget s p dir) (recoveryFor s) true (ownId s) p s)
    else refusePress s

/-! ## Joining a run (R129 to R131, R136) -/

/-- Adoption from DWELL or HOLD (R129). -/
def adopt (src : NodeId) (r : BeaconRec) (p : Profile) (s : State) : State :=
  if newerRun r.run s.seq.run && consents s r.leg r.recovery then
    arm (takeRun r.run r.dir r.leg r.recovery false src p s)
  else s

/-- The run fields a beacon carries (R122). -/
def runFields (s : State) : RunNo × Direction × Option (Fin 5) × Bool × Bool × Bool :=
  (s.seq.run, s.seq.dir, s.seq.leg, s.seq.recovery, s.seq.dispatch, s.seq.consent)

/-- A proposal of the same run from a lower id replaces the node's own, or takes it out of ARMED (R130). -/
def replaceProposal (src : NodeId) (r : BeaconRec) (p : Profile) (s : State) : State :=
  let t := takeRun s.seq.run r.dir r.leg r.recovery false src p s
  if consents t r.leg r.recovery then
    if runFields t == runFields s then t else requestBeacon t
  else leaveArmed t

/-- A newer run heard in ARMED (R131). -/
def moveToNewer (src : NodeId) (r : BeaconRec) (p : Profile) (s : State) : State :=
  if consents s r.leg r.recovery then requestBeacon (takeRun r.run r.dir r.leg r.recovery false src p s)
  else leaveArmed s

/-- A DISPATCH beacon in ARMED (R130, R131). -/
def dispatchInArmed (src : NodeId) (r : BeaconRec) (p : Profile) (s : State) : State :=
  if r.run == s.seq.run then
    if s.seq.dispatchOrigin.any (fun o => decide (src < o)) then replaceProposal src r p s else s
  else if newerRun r.run s.seq.run then moveToNewer src r p s
  else s

/-- The DRIVE shows RUNNING for the node's own run (R136). -/
def followRunning (r : BeaconRec) (s : State) : State :=
  if r.dir == s.seq.dir && r.leg == s.seq.leg && r.recovery == s.seq.recovery then enterState .running s
  else if consents s r.leg r.recovery then
    enterState .running { s with seq.dir := r.dir, seq.leg := r.leg, seq.recovery := r.recovery }
  else leaveArmed s

/-! ## Arrival and rest (R137 to R140) -/

/-- Entry to STOPPING; at the DRIVE the drop of SB is a change at which R138 is judged. Where SB was APPLIED already, and at a
CAR, the event that brings the entry judges neither R138 nor R139 (DESIGN CHOICE, log entry 51). -/
def enterStopping (s : State) : State :=
  let t := enterState .stopping s
  if isDrive t && s.brakes.sb.state != .applied && standstill t then enterState .dwell t else t

/-- The DRIVE's entry to DWELL from STOPPING (R138). -/
def driveDwell (s : State) : State :=
  if isDrive s && inState s .stopping && standstill s && s.brakes.sb.state == .applied then enterState .dwell s else s

/-- The DRIVE's record shows DWELL for the node's own run (R139). -/
def driveShowsDwell (s : State) (r : BeaconRec) : Bool := r.state == .dwell && r.run == s.seq.run

/-- A CAR in STOPPING at a sample tick (R139). -/
def carDwell (s : State) : State :=
  let unheard := !(driveEntry s).any heard
  if isCar s && inState s .stopping && standstill s
      && (unheard || heardShows (driveEntry s) (driveShowsDwell s)) then enterState .dwell s
  else s

/-- Some FRESH peer shows DWELL, HOLD or NIGHT (R140). -/
def strandingPeer (s : State) : Bool :=
  s.peers.any fun e => isFresh e && recordShows e (fun r => r.state == .dwell || r.state == .hold || r.state == .night)

/-! ## Doors (R141, R142) -/

/-- The loop condition of the door-lock release, judged in DWELL with the release not yet given (R141). -/
def judgeDoor (s : State) : State :=
  match s.loader.profile with
  | none => s
  | some p =>
    if isCar s && inState s .dwell && !s.seq.misaligned && !s.seq.doorRelease
        && (stopHere s p).any (fun t => t.loopFlag == 1) && loopShowsOccupied s then
      { s with seq.doorRelease := true }
    else s

/-! ## Judgements of the Run Sequencer -/

/-- At a sample tick: an open door, then what the present state judges (R127, R134, R137 to R140, R142; log entry 9). Where
own AT_MARK and the stranded-run exit of R140 both stand in RUNNING, which the manual does not order, AT_MARK is judged first
and the node enters STOPPING (DESIGN CHOICE, log entry 36). Whether the tick at which own AT_MARK takes the node into
STOPPING is itself a judgement of R138 or R139 the manual does not say: the model judges them from the next sample tick on,
but for the change of SB's state at the entry, which `enterStopping` judges (DESIGN CHOICE, log entry 51). -/
def sequencerTick (s : State) : State :=
  let t := if isCar s && moving s && !doorShut s then raiseCause .doorOpen s else s
  match t.seq.state with
  | .armed => judgeLineStart (judgeConsent t)
  | .running =>
    if t.envelope.atMark then enterStopping t
    else if stands t && strandingPeer t then enterState (standingTest t) t
    else t
  | .stopping => carDwell (driveDwell t)
  | _ => t

/-- The Run Sequencer's work at a sample tick after STARTING: none in FAULTED. -/
def sequencerWork (s : State) : State := if inService s then sequencerTick s else s

/-- At a change signal of the Peer View (R132, R134, R135, R141). -/
def sequencerSignal (changed : Entry) (s : State) : State :=
  let t := judgeLineStart (judgeConsent s)
  if changed.role == .loop then judgeDoor t else t

/-- An accepted beacon in ARMED (R130, R131, R134, R136). A DRIVE's beacon that shows both DISPATCH and state RUNNING, which
no DRIVE that follows R122 sends and reception does not discard, comes under R130 or R131 and under R136, and no rule orders
them: the model takes DISPATCH first, and where that leaves the node in ARMED with the run number shown it then follows the
same beacon into RUNNING (DESIGN CHOICE, log entry 48). -/
def beaconInArmed (e : Entry) (r : BeaconRec) (p : Profile) (s : State) : State :=
  let t := if r.dispatch then dispatchInArmed e.id r p s else s
  if !isDrive t && e.role == .drive && inState t .armed && r.state == .running && r.run == t.seq.run then
    followRunning r t
  else judgeLineStart t

/-- An accepted beacon at the Run Sequencer (R129 to R131, R134, R136, R137, R139, R141). R134 judges the line-start condition
at every accepted beacon while the DRIVE is in ARMED, and leaves open whether the beacon at which it adopts is one of them:
the model judges the condition from the next event on (DESIGN CHOICE, log entry 44). A DRIVE's beacon that takes the node into
RUNNING and also shows AT_MARK, or into STOPPING and also shows DWELL, is not judged again by R137 or R139 in the state
entered: the next beacon or sample tick is (DESIGN CHOICE, log entry 51). -/
def sequencerBeacon (e : Entry) (r : BeaconRec) (s : State) : State :=
  match s.loader.profile with
  | none => s
  | some p =>
    match s.seq.state with
    | .dwell =>
      let t := if e.role == .loop then judgeDoor s else s
      if r.dispatch then adopt e.id r p t else t
    | .hold => if r.dispatch then adopt e.id r p s else s
    | .armed => beaconInArmed e r p s
    | .running => if r.atMark && r.run == s.seq.run then enterStopping s else s
    | .stopping =>
      if !isDrive s && e.role == .drive && driveShowsDwell s r && (!isCar s || standstill s) then enterState .dwell s
      else s
    | _ => s

end Sys2Proof.Machine
end

