-- ==== Sys2Proof/Machine/Trips.lean ====
section
/-! DEFINITION. The Trip Unit: conditions of causes, clearing a peer trip, acknowledgement, the ESTOP level and the end of
an ALERT pulse (R164 to R172, R176). -/

namespace Sys2Proof.Machine

/-! ## Clearing (R169) -/

/-- A heard peer whose record shows TRIPPED with a cause other than PEER_TRIP. A record that shows TRIPPED with cause 0, of
which R169 says nothing, holds the peer trip (DESIGN CHOICE, log entry 37). -/
def holdsPeerTrip (e : Entry) : Bool :=
  heard e && recordShows e (fun r => r.state == .tripped && r.cause != some .peerTrip)

/-- A held peer-trip origin is judged for clearing (R169, R172). -/
def judgeClear (s : State) : State :=
  if s.trips.origin.isSome && !s.peers.any holdsPeerTrip && stands s then
    let t : State := { s with trips.origin := none }
    if t.trips.own.isEmpty && inState t .tripped then leaveTripped t else t
  else s

/-! ## Peer trips (R168) -/

/-- A cause a node trips on of its own account: 1 to 8 and 10 to 12 (R164, R168). -/
def ownCause (c : Cause) : Bool := decide (causeCode c ≤ 12) && c != .peerTrip

/-- An accepted beacon at the Trip Unit: PEER_TRIP where R168 raises it, then the judgement of R169. -/
def tripBeacon (e : Entry) (r : BeaconRec) (s : State) : State :=
  let raised :=
    if inService s && s.trips.origin.isNone && r.state == .tripped then
      match r.cause with
      | none => s
      | some c => if ownCause c then raisePeerTrip e.id c s else s
    else s
  judgeClear raised

/-! ## Acknowledgement (R164, R170, R171) -/

/-- The condition of an own cause has gone (R164). -/
def conditionGone (s : State) (c : Cause) : Bool := match c with
  | .positionConflict => !s.tracker.cmpA.conflict && !s.tracker.cmpB.conflict
  | .brakeFault => !releaseLatched s.brakes
  | .stopInput => !s.trips.estop
  | .doorOpen => doorShut s
  | .speedSensor => !s.tracker.sensorLatch
  | _ => true

/-- An accepted press in TRIPPED (R170). -/
def acceptAck (s : State) : State :=
  let t := clearLiftFail { s with trips.own := [] }
  if t.trips.origin.isNone then leaveTripped t else { t with trips.primary := some .peerTrip }

/-- A press of ACK at the Trip Unit (R170, R171). -/
def acknowledge (s : State) : State :=
  match s.seq.state with
  | .tripped => if stands s && !s.trips.estop && s.trips.own.all (conditionGone s) then acceptAck s else s
  | .dwell => if stands s && !s.trips.estop then clearLiftFail s else s
  | .hold => if stands s && !s.trips.estop then clearLiftFail s else s
  | _ => s

/-- A press is taken: a sample showing the key pressed after one showing it released. -/
def takeAck (s : State) : State :=
  if s.inputs.pins.ack && !s.inputs.previous.ack && !inState s .starting then
    let t : State := { s with inputs.previous.ack := true }
    wakeEvent (acknowledge t)
  else s

/-- ACK_PRESS (R170, R171, R180). -/
def execAckPress (s : State) : Host.Outcome State Fault Refusal := act takeAck s

/-! ## ESTOP (R167) -/

/-- The first sample that shows ESTOP asserted: a wake event in the state it finds, then STOP_INPUT (R167, R180). -/
def assertEstop (s : State) : State :=
  if s.inputs.pins.estop && !s.trips.estop && !inState s .starting then
    raiseCause .stopInput (wakeEvent { s with trips.estop := true })
  else s

/-- ESTOP_ASSERT (R167). -/
def execEstopAssert (s : State) : Host.Outcome State Fault Refusal := act assertEstop s

/-- The third consecutive sample that shows ESTOP released (R167). -/
def releaseEstop (s : State) : State :=
  if s.trips.estop && decide (Config.debounceSamples ≤ s.inputs.estopReleased) then { s with trips.estop := false }
  else s

/-- ESTOP_RELEASE (R167). -/
def execEstopRelease (s : State) : Host.Outcome State Fault Refusal := live releaseEstop s

/-! ## ALERT (R176) -/

/-- The end of a PULSE-mode ALERT (R176). -/
def endAlert (s : State) : State :=
  if s.trips.alertEnd.any (reached s.time.now) then { s with trips.alertEnd := none } else s

/-- ALERT_PULSE_END (R176). -/
def execAlertPulseEnd (s : State) : Host.Outcome State Fault Refusal := live endAlert s

end Sys2Proof.Machine
end

