-- ==== Sys2Proof/Machine/Class.lean ====
section
/-! DEFINITION. The Class Controller: stand-up, the stand-down handshake, downshifts, and what accepted beacons and change
signals do there (R177 to R189). -/

namespace Sys2Proof.Machine

/-! ## Stand-up (R182) -/

/-- The node leaves NIGHT by the standing test, with class RUN. -/
def standUp (s : State) : State := setClass .run (enterState (standingTest s) s)

/-- A press of the stand-up key: out of NIGHT, and a wake event (R180, R182). -/
def takeStandUp (s : State) : State :=
  if s.inputs.pins.standUp && !s.inputs.previous.standUp && !inState s .starting then
    let t : State := { s with inputs.previous.standUp := true }
    wakeEvent (if inState t .night then standUp t else t)
  else s

/-- STAND_UP_PRESS (R180, R182). -/
def execStandUpPress (s : State) : Host.Outcome State Fault Refusal := act takeStandUp s

/-! ## Starting a stand-down (R184) -/

/-- The deadline of a stand-down part that begins now (R184, R186). -/
def standDownDeadline (p : Profile) (s : State) : Time := after s.time.now (p.tSd * 1000)

/-- Every heard peer shows DWELL and class STILL or DEEP_STILL (R184). -/
def lineRests (s : State) : Bool :=
  s.peers.all fun e =>
    !heard e || recordShows e (fun r => r.state == .dwell && (r.cls == .still || r.cls == .deepStill))

/-- The DRIVE's entry is FRESH, or the node is the DRIVE (R184). -/
def driveFresh (s : State) : Bool := isDrive s || (driveEntry s).any isFresh

/-- The DRIVE's entry is FRESH or STALE, or the node is the DRIVE (R185). -/
def driveHeard (s : State) : Bool := isDrive s || (driveEntry s).any heard

/-- The conditions of an accepted stand-down press beside the role NONE (R184). -/
def standDownAllowed (s : State) (p : Profile) : Bool :=
  (ownNode s p).any ListedNode.standDownKeyEnabled && inState s .dwell && lineRests s && driveFresh s

/-- The role becomes INITIATING (R184). -/
def initiate (p : Profile) (s : State) : State :=
  requestBeacon
    { s with
      cls.sdRole := .initiating
      cls.sdId := some (ownId s)
      cls.sdDeadline := some (standDownDeadline p s) }

/-- A press of the stand-down key at the Class Controller (R184). -/
def standDown (s : State) : State :=
  match s.cls.sdRole, s.loader.profile with
  | .initiating, _ => s
  | .none, some p => if standDownAllowed s p then initiate p s else refusePress s
  | _, _ => refusePress s

/-- A press is taken; in FAULTED the Class Controller takes none (R177). -/
def takeStandDown (s : State) : State :=
  if s.inputs.pins.standDown && !s.inputs.previous.standDown && !inState s .starting then
    let t : State := { s with inputs.previous.standDown := true }
    if inState t .faulted then t else standDown t
  else s

/-- STAND_DOWN_PRESS (R184). -/
def execStandDownPress (s : State) : Host.Outcome State Fault Refusal := act takeStandDown s

/-! ## The commit (R185, R187, R188) -/

/-- The initiator commits (R185). -/
def commit (s : State) : State :=
  let t := endStandDown .committed s
  enterState .night { t with cls.commit := Config.repeatBeacons }

/-- An acker follows its initiator into NIGHT (R187). -/
def follow (s : State) : State := enterState .night (endStandDown .committed s)

/-- Every heard peer shows ACK with the node's id, and the DRIVE is heard (R185). -/
def commitDue (s : State) : Bool :=
  driveHeard s && s.peers.all fun e =>
    !heard e || recordShows e (fun r => r.sdCode == .ack && decide (r.sdId.val = (ownId s).val))

/-- A heard peer shows a state other than DWELL (R188). -/
def peerLeftDwell (s : State) : Bool := s.peers.any fun e => heard e && recordShows e (fun r => r.state != .dwell)

/-- The initiator's judgement at an accepted beacon or a change signal (R185, R188; log entry 28). -/
def judgeInitiator (s : State) : State :=
  if s.cls.sdRole == .initiating then
    if peerLeftDwell s then endStandDown .cancelled s
    else if commitDue s && inState s .dwell then commit s
    else s
  else s

/-! ## Answering (R186) -/

/-- In DWELL and standing. -/
def mayAnswer (s : State) : Bool := inState s .dwell && stands s

/-- The role becomes ACKING (R186). -/
def answer (src : NodeId) (p : Profile) (s : State) : State :=
  requestBeacon
    { s with
      cls.sdRole := .acking
      cls.sdId := some src
      cls.sdDeadline := some (standDownDeadline p s) }

/-- An accepted REQUEST with the sender's own id (R186). -/
def takeRequest (src : NodeId) (p : Profile) (s : State) : State :=
  match s.cls.sdRole with
  | .none => if mayAnswer s then answer src p s else s
  | .acking => if s.cls.sdId.any (fun x => decide (src < x)) && mayAnswer s then answer src p s else s
  | .initiating =>
    if src < ownId s then
      let t := endStandDown .yielded s
      if mayAnswer t then answer src p t else t
    else s

/-- A beacon's stand-down id is that of its sender. -/
def ownField (e : Entry) (r : BeaconRec) : Bool := decide (r.sdId.val = e.id.val)

/-- An acker's judgement of its initiator's beacon (R187, R188). -/
def judgeAcker (e : Entry) (r : BeaconRec) (s : State) : State :=
  if s.cls.sdRole == .acking && s.cls.sdId == some e.id then
    if r.state == .night || (r.sdCode == .commit && ownField e r) then follow s
    else if (r.sdCode == .request || r.sdCode == .commit) && ownField e r then s
    else endStandDown .cancelled s
  else s

/-- An accepted WAKE (R181, R182, R188). -/
def takeWake (s : State) : State :=
  let t := if inState s .night then standUp s else s
  endStandDown .cancelled (restartSpell (setClass .run t))

/-- An accepted beacon at the Class Controller: none in STARTING and FAULTED (R177, R181, R185 to R188). Within one beacon
the manual gives no order of WAKE, the answer to a REQUEST, the acker's judgement and the initiator's: the model takes them
in this order, so that a beacon with WAKE and REQUEST ends a part and is then answered, and one with REQUEST and state NIGHT
is answered and then followed (DESIGN CHOICE, log entry 38). -/
def classBeacon (e : Entry) (r : BeaconRec) (s : State) : State :=
  if inService s then
    let woken := if r.wake then takeWake s else s
    let answered := match woken.loader.profile with
      | none => woken
      | some p => if r.sdCode == .request && ownField e r then takeRequest e.id p woken else woken
    judgeInitiator (judgeAcker e r answered)
  else s

/-! ## Downshift and deadlines (R178, R188) -/

/-- The downshift (R178). -/
def downshift (s : State) : State :=
  match s.loader.profile, s.cls.clock with
  | some p, some t =>
    if quietSpell s then
      match s.cls.cls with
      | .run => if p.tStill * 1000 ≤ elapsed s.time.now t then setClass .still s else s
      | .still => if p.tDeep * 10000 ≤ elapsed s.time.now t then setClass .deepStill s else s
      | _ => s
    else s
  | _, _ => s

/-- DOWNSHIFT (R178). -/
def execDownshift (s : State) : Host.Outcome State Fault Refusal := act downshift s

/-- The stand-down deadline is reached (R188). -/
def expireStandDown (s : State) : State :=
  if s.cls.sdDeadline.any (reached s.time.now) then endStandDown .expired s else s

/-- STAND_DOWN_DEADLINE (R188). -/
def execStandDownDeadline (s : State) : Host.Outcome State Fault Refusal := act expireStandDown s

/-- The refusal window ends (R145). -/
def endRefusal (s : State) : State :=
  if s.seq.refusal.any (reached s.time.now) then { s with seq.refusal := none } else s

/-- REFUSAL_WINDOW_END (R145). -/
def execRefusalWindowEnd (s : State) : Host.Outcome State Fault Refusal := live endRefusal s

/-! ## Dispatch presses (R128, R180, R188) -/

/-- The level a dispatch input shows. -/
def dispatchPin (i : Pins) (dir : RunDir) : Bool := match dir with
  | .aUp => i.dispatchUp
  | .aDown => i.dispatchDown

/-- A sample of a dispatch input taken as pressed. -/
def markDispatch (dir : RunDir) (i : Pins) : Pins := match dir with
  | .aUp => { i with dispatchUp := true }
  | .aDown => { i with dispatchDown := true }

/-- A press is taken; in FAULTED a press has no effect (R144; log entry 23). -/
def takeDispatch (dir : RunDir) (s : State) : State :=
  if dispatchPin s.inputs.pins dir && !dispatchPin s.inputs.previous dir && !inState s .starting then
    let t : State := { s with inputs.previous := markDispatch dir s.inputs.previous }
    if inState t .faulted then t else wakeEvent (endStandDown .cancelled (dispatch dir t))
  else s

/-- DISPATCH_PRESS (R128, R180, R188). -/
def execDispatchPress (dir : RunDir) (s : State) : Host.Outcome State Fault Refusal := act (takeDispatch dir) s

/-! ## The arming deadline (R132) -/

/-- Node time reaches the arming deadline in ARMED. -/
def expireArming (s : State) : State :=
  if inState s .armed && s.seq.deadline.any (reached s.time.now) then leaveArmed s else s

/-- ARMING_DEADLINE (R132). -/
def execArmingDeadline (s : State) : Host.Outcome State Fault Refusal := act expireArming s

/-! ## Contacts (R127, R142, R143, R180) -/

/-- A change of the door-shut contact at a CAR. -/
def changeDoor (s : State) : State :=
  if isCar s && !inState s .starting && s.inputs.pins.doorShut != s.inputs.doorTaken then
    judgeConsent (wakeEvent { s with inputs.doorTaken := s.inputs.pins.doorShut })
  else s

/-- DOOR_CONTACT_CHANGE (R142, R180). -/
def execDoorContactChange (s : State) : Host.Outcome State Fault Refusal := act changeDoor s

/-- A change of the platform gate contact at a TERMINAL. -/
def changeGate (s : State) : State :=
  if isTerminal s && !inState s .starting && s.inputs.pins.gateShut != s.inputs.gateTaken then
    judgeConsent (wakeEvent { s with inputs.gateTaken := s.inputs.pins.gateShut })
  else s

/-- GATE_CONTACT_CHANGE (R143, R180). -/
def execGateContactChange (s : State) : Host.Outcome State Fault Refusal := act changeGate s

/-! ## Loop detector edges (R148, R150, R151, R154, R180) -/

/-- An edge of a detector stands: three consecutive samples showed the level that is not held, at a LOOP in service. -/
def edgeStands (s : State) (d : Detector) (level : Bool) : Bool :=
  isLoop s && inService s && (detectorInput s.loop d).level == !level && detectorPin s.inputs.pins d == level
    && decide (Config.debounceSamples ≤ (detectorInput s.loop d).differing)

/-- The level an input is held at after an edge. -/
def holdLevel (d : Detector) (level : Bool) (s : State) : State :=
  { s with loop := setDetector d { level := level, differing := 0 } s.loop }

/-- A rise is taken: the track moves and is judged, a wake event, and consent judged again. -/
def riseEdge (d : Detector) (s : State) : State :=
  match s.loader.profile with
  | none => s
  | some p =>
    if edgeStands s d true then judgeConsent (takeRise p d (wakeEvent (holdLevel d true s))) else s

/-- DETECTOR_RISE (R150, R152). -/
def execDetectorRise (d : Detector) (s : State) : Host.Outcome State Fault Refusal := act (riseEdge d) s

/-- A fall is taken: the track moves, a wake event, and consent judged again. -/
def fallEdge (d : Detector) (s : State) : State :=
  match s.loader.profile with
  | none => s
  | some p =>
    if edgeStands s d false then judgeConsent (takeFall p d (wakeEvent (holdLevel d false s))) else s

/-- DETECTOR_FALL (R151). -/
def execDetectorFall (d : Detector) (s : State) : Host.Outcome State Fault Refusal := act (fallEdge d) s

end Sys2Proof.Machine
end

