-- ==== Sys2Proof/Machine/Brakes.lean ====
section
/-! DEFINITION. The Brake Controller's completions and checks (R160, R162), with what the Run Sequencer and the Ceiling
and Supervision Unit do at them. -/

namespace Sys2Proof.Machine

/-- The feedback of a unit of the node's role, as last sampled. -/
def showsLifted (s : State) (b : BrakeId) : Bool := feedbackPin s.inputs.pins b

/-- The node has the unit. -/
def fitted (s : State) (b : BrakeId) : Bool := hasBrake (role s) b

/-- A unit becomes LIFTED, which the Run Sequencer judges at once (R134, R160). -/
def becomeLifted (b : BrakeId) (s : State) : State :=
  let u := brakeUnit s.brakes b
  stageLifted b (setUnit b { u with state := .lifted, appliedSince := none } s)

/-- A FEEDBACK unit in LIFTING whose feedback shows lifted (R160). -/
def liftByFeedback (b : BrakeId) (s : State) : State :=
  let u := brakeUnit s.brakes b
  if fitted s b && inFeedbackMode u && u.state == .lifting && showsLifted s b then becomeLifted b s else s

/-- FEEDBACK_LIFTED (R160). -/
def execFeedbackLifted (b : BrakeId) (s : State) : Host.Outcome State Fault Refusal := act (liftByFeedback b) s

/-- The fixed lift time of a unit in LIFTING has passed (R160). -/
def fixedTimePassed (now : Time) (u : BrakeUnit) : Bool :=
  match u.mode.bind fixedLiftMs, u.liftTime with
  | some ms, some t => decide (ms ≤ elapsed now t)
  | _, _ => false

/-- A FIXED unit completes its lift (R160). -/
def liftByTime (b : BrakeId) (s : State) : State :=
  let u := brakeUnit s.brakes b
  if fitted s b && u.state == .lifting && fixedTimePassed s.time.now u then becomeLifted b s else s

/-- FIXED_LIFT_DONE (R160). -/
def execFixedLiftDone (b : BrakeId) (s : State) : Host.Outcome State Fault Refusal := act (liftByTime b) s

/-- A LIFT_FAIL of SB in RUNNING sets the intervention flag and bars the re-lift (R113). R112 keeps no over count while the
flag is set: the model leaves the count as it stood, which nothing reads until RUNNING is left (DESIGN CHOICE, log entry
39). -/
def barRelift (b : BrakeId) (s : State) : State :=
  if b == .sb && inState s .running then { s with ceiling.intervention := true, ceiling.barred := true } else s

/-- A unit after its lift has timed out (R160). -/
def timedOut (now : Time) (u : BrakeUnit) : BrakeUnit :=
  { u with state := .applied, liftTime := none, dropTime := now, liftFail := true, appliedSince := none }

/-- The lift of a FEEDBACK unit has run 2,000 ms with no sample having shown lifted (R160). -/
def liftOverdue (s : State) (b : BrakeId) : Bool :=
  let u := brakeUnit s.brakes b
  fitted s b && inFeedbackMode u && u.state == .lifting && !showsLifted s b
    && u.liftTime.any (fun t => decide (Config.liftTimeoutMs ≤ elapsed s.time.now t))

/-- A lift times out: LIFT_FAIL, the consent judgement, SB's report, and the DRIVE's DWELL entry (R113, R127, R135, R138,
R160). -/
def timeOutLift (b : BrakeId) (s : State) : State :=
  if liftOverdue s b then
    let t := setUnit b (timedOut s.time.now (brakeUnit s.brakes b)) s
    driveDwell (judgeLineStart (judgeConsent (barRelift b t)))
  else s

/-- LIFT_TIMEOUT (R160). -/
def execLiftTimeout (b : BrakeId) (s : State) : Host.Outcome State Fault Refusal := act (timeOutLift b) s

/-- An APPLIED FEEDBACK unit shows applied: the release latch clears (R162). -/
def clearReleaseLatch (b : BrakeId) (s : State) : State :=
  let u := brakeUnit s.brakes b
  if fitted s b && inService s && inFeedbackMode u && u.state == .applied && !showsLifted s b then
    setUnit b { u with releaseLatch := false } s
  else s

/-- FEEDBACK_APPLIED (R162). -/
def execFeedbackApplied (b : BrakeId) (s : State) : Host.Outcome State Fault Refusal := live (clearReleaseLatch b) s

/-- A LIFTED unit has shown applied at every sample for more than 100 ms (R162). -/
def holdFails (s : State) (b : BrakeId) : Bool :=
  let u := brakeUnit s.brakes b
  fitted s b && inService s && inFeedbackMode u && u.state == .lifted && !u.holdLatch
    && u.appliedSince.any (fun t => decide (Config.holdCheckMs < elapsed s.time.now t))

/-- The hold check (R162). -/
def holdCheck (b : BrakeId) (s : State) : State :=
  if holdFails s b then raiseCause .brakeFault (setUnit b { brakeUnit s.brakes b with holdLatch := true } s) else s

/-- HOLD_CHECK (R162). -/
def execHoldCheck (b : BrakeId) (s : State) : Host.Outcome State Fault Refusal := act (holdCheck b) s

/-- An APPLIED unit shows lifted more than 1,000 ms after its drop (R162). -/
def releaseFails (s : State) (b : BrakeId) : Bool :=
  let u := brakeUnit s.brakes b
  fitted s b && inService s && inFeedbackMode u && u.state == .applied && !u.releaseLatch && showsLifted s b
    && decide (Config.releaseCheckMs < elapsed s.time.now u.dropTime)

/-- The release check (R162). -/
def releaseCheck (b : BrakeId) (s : State) : State :=
  if releaseFails s b then raiseCause .brakeFault (setUnit b { brakeUnit s.brakes b with releaseLatch := true } s)
  else s

/-- RELEASE_CHECK (R162). -/
def execReleaseCheck (b : BrakeId) (s : State) : Host.Outcome State Fault Refusal := act (releaseCheck b) s

end Sys2Proof.Machine
end

