-- ==== Sys2Proof/Machine/Peers.lean ====
section
/-! DEFINITION. Reception (R66, R77 to R80), the Peer View (R81 to R94), and what the change signal and the acceptance
event do at the blocks they reach (R89, R94, R107, R108; log entry 8). -/

namespace Sys2Proof.Machine

/-! ## Entries (R82) -/

/-- The entry of an id replaced. -/
def putEntry (e : Entry) (s : State) : State :=
  { s with peers := s.peers.map fun x => if x.id == e.id then e else x }

/-! ## The change signal (R94) -/

/-- The Ceiling and Supervision Unit at a change signal: a comms stop where an entry has become LOST or MISMATCHED,
otherwise the ceiling formed afresh (R104, R108). -/
def ceilingSignal (broken : Bool) (s : State) : State :=
  if broken && inState s .running && s.ceiling.comms.isNone then startCommsStop s.ceiling.line s else formCeiling s

/-- The Class Controller at a change signal (R185, R188). -/
def classSignal (s : State) : State := if inService s then judgeInitiator s else s

/-- The change signal for an entry as it now stands; `broken` when it has become LOST or MISMATCHED (R94). -/
def changeSignal (e : Entry) (broken : Bool) (s : State) : State :=
  classSignal (judgeClear (sequencerSignal e (ceilingSignal broken s)))

/-! ## Accepting beacons (R86, R87, R89) -/

/-- The test of a BEACON's sequence number (R86). -/
def sequenceAccepts (e : Entry) (n : SeqNo) : Bool :=
  match e.fresh with
  | .empty => true
  | .lost => true
  | .fresh => e.lastSeq.all (newerSeq n)
  | .stale => e.lastSeq.all (newerSeq n)

/-- The entry moves from EMPTY or LOST. -/
def returns (e : Entry) : Bool := e.fresh == .empty || e.fresh == .lost

/-- The entry after an accepted BEACON (R87, R93). -/
def beaconEntry (n : SeqNo) (r : BeaconRec) (e : Entry) : Entry :=
  { e with
    fresh := .fresh
    age := 0
    cls := some r.cls
    lastSeq := some n
    beacon := some r
    owed := e.owed || returns e || r.annReq }

/-- An ANN_REQ is honoured or not (R76). -/
def honour (s : State) : State :=
  if s.access.pendingAnnounce || s.access.inHand == some .announce then s
  else if s.access.lastHonoured.all (fun t => decide (beaconPeriod s.cls.cls ≤ elapsed s.time.now t)) then
    requestAnnounce { s with access.lastHonoured := some s.time.now }
  else s

/-- The Ceiling and Supervision Unit at an accepted beacon; `v0` is the line ceiling that stood before the beacon (R107
to R109). -/
def ceilingBeacon (v0 : Nat) (e : Entry) (r : BeaconRec) (s : State) : State :=
  if inState s .running then
    let t := if e.verif == .matched && decide (r.vperm < s.ceiling.line) then setLine r.vperm s else s
    if r.commsStop && r.run == t.seq.run then startCommsStop v0 t else t
  else s

/-- The acceptance event at the blocks that act on it (R89). -/
def acceptanceEvent (v0 : Nat) (e : Entry) (r : BeaconRec) (s : State) : State :=
  classBeacon e r (tripBeacon e r (sequencerBeacon e r (ceilingBeacon v0 e r s)))

/-- An accepted BEACON: its entry, the requests of R89, the change signal, the acceptance event. Where the entry moves from
EMPTY or LOST and ANN_REQ is set, R76 and R89 give no order: the model sets the pending-announce mark for the move first,
so that the request is not honoured and no time is recorded (DESIGN CHOICE, log entry 35). Nor do they order the request
against a change of the own class by the same beacon: the model judges the request first, at the class that stood before the
beacon (DESIGN CHOICE, log entry 43). -/
def acceptBeacon (n : SeqNo) (r : BeaconRec) (e : Entry) (s : State) : State :=
  let v0 := s.ceiling.line
  let e' := beaconEntry n r e
  let t := putEntry e' s
  let owed := if returns e then requestAnnounce t else t
  let asked := if r.annReq then honour owed else owed
  let told := if e.fresh == .fresh then asked else changeSignal e' false asked
  acceptanceEvent v0 e' r told

/-! ## Accepting announces (R90, R91) -/

/-- The verdict of an ANNOUNCE (R91). -/
def verdict (s : State) (p : Profile) (e : Entry) (a : AnnounceFrame) : Verification :=
  if a.held.fingerprint == s.loader.fingerprint && a.held.revision == s.loader.revision
      && a.held.count == p.nodes.length && a.role == e.role && a.side == e.side then .matched
  else .mismatched

/-- An accepted ANNOUNCE (R90, R91, R94). -/
def acceptAnnounce (n : SeqNo) (a : AnnounceFrame) (p : Profile) (e : Entry) (s : State) : State :=
  let v := verdict s p e a
  let e' : Entry := { e with lastSeq := some n, announce := some a.held, verif := v }
  let t := putEntry e' s
  if e.verif == v then t else changeSignal e' (v == .mismatched) t

/-! ## Reception (R66, R77 to R80) -/

/-- The frame that the receiver has gathered. -/
def gathered (s : State) : RxFrame where
  octets := s.access.rxBuffer
  framingError := s.access.rxFramingError
  overlong := s.access.rxOverlong

/-- A frame ends: the buffer has been judged and is emptied (R66). -/
def endFrame (s : State) : State :=
  { s with
    access.rxBuffer := []
    access.rxFramingError := false
    access.rxOverlong := false
    access.sent := [] }

/-- The frame is that of the attempt of the node's own that completed without a loss since the last frame end (R79; log
entry 12). -/
def ownReadback (s : State) (f : RxFrame) : Bool := !s.access.sent.isEmpty && s.access.sent == f.octets

/-- A well checked frame that carries the node's own id (R79). -/
def takeOwnId (f : RxFrame) (s : State) : State :=
  if ownReadback s f || inState s .faulted then endFrame s else enterFaulted .idClash (endFrame s)

/-- A BEACON from a listed peer: discarded where R78 or R86 discards it, else accepted. -/
def takeBeacon (f : RxFrame) (p : Profile) (e : Entry) (s : State) : State :=
  match parseBeacon p.length p.wMax f.octets with
  | none => s
  | some r => if sequenceAccepts e (frameSeq f.octets) then acceptBeacon (frameSeq f.octets) r e s else s

/-- An ANNOUNCE from a listed peer. -/
def takeAnnounce (f : RxFrame) (p : Profile) (e : Entry) (s : State) : State :=
  acceptAnnounce (frameSeq f.octets) (parseAnnounce f.octets) p e s

/-- A frame end with a well checked frame: the own-id test, then the hand-off to the Peer View where the profile is
loaded and the source is listed (R79, R80). -/
def judgeFrame (handOn : Profile → Entry → State → State) (f : RxFrame) (s : State) : State :=
  if sourceId f.octets == ownId s then takeOwnId f s
  else match s.loader.profile, entryOf s (sourceId f.octets) with
    | some p, some e => handOn p e (endFrame s)
    | _, _ => endFrame s

/-- A frame that the reception discards: it fails the checks of R77, or it is another node's and carries a code that its
layout does not define, or its source is not listed, or no profile is loaded (R78, R80). -/
def discards (s : State) (f : RxFrame) : Bool :=
  match wellChecked f with
  | none => true
  | some k =>
    sourceId f.octets != ownId s && match s.loader.profile, entryOf s (sourceId f.octets) with
      | some p, some _ => k == .beacon && (parseBeacon p.length p.wMax f.octets).isNone
      | _, _ => true

/-- The frame that the receiver has gathered has ended, and is the one that the command reports (R66; log entry 12). -/
def endsWith (f : RxFrame) (s : State) : Bool := frameHasEnded s.access && gathered s == f

/-- At a frame end a frame that is discarded leaves nothing; in STARTING no frame is judged (R4, R66). -/
def takeBadFrame (f : RxFrame) (s : State) : State :=
  if endsWith f s && (inState s .starting || discards s f) then endFrame s else s

/-- RECEIVE_BAD_FRAME (R77). -/
def execReceiveBadFrame (f : RxFrame) (s : State) : Host.Outcome State Fault Refusal := live (takeBadFrame f) s

/-- At a frame end a well checked frame of a kind is judged; in STARTING it is discarded unjudged (R4, R66). -/
def receive (k : FrameKind) (handOn : RxFrame → Profile → Entry → State → State) (f : RxFrame) (s : State) : State :=
  if endsWith f s then
    if inState s .starting then endFrame s
    else if wellChecked f == some k then judgeFrame (handOn f) f s
    else s
  else s

/-- RECEIVE_BEACON (R87). -/
def execReceiveBeacon (f : RxFrame) (s : State) : Host.Outcome State Fault Refusal := act (receive .beacon takeBeacon f) s

/-- RECEIVE_ANNOUNCE (R90). -/
def execReceiveAnnounce (f : RxFrame) (s : State) : Host.Outcome State Fault Refusal :=
  act (receive .announce takeAnnounce f) s

/-! ## Ageing (R84, R85) -/

/-- An entry's age has passed a limit of its class. -/
def agedPast (limit : BeaconClass → Nat) (e : Entry) : Bool := e.cls.any (fun c => decide (limit c < e.age))

/-- A FRESH entry past its stale limit becomes STALE (R84). -/
def makeStale (id : NodeId) (s : State) : State :=
  match entryOf s id with
  | none => s
  | some e =>
    if e.fresh == .fresh && agedPast staleLimit e then
      let e' : Entry := { e with fresh := .stale }
      changeSignal e' false (putEntry e' s)
    else s

/-- ENTRY_STALE (R84). -/
def execEntryStale (id : NodeId) (s : State) : Host.Outcome State Fault Refusal := act (makeStale id) s

/-- A STALE entry past its lost limit becomes LOST and UNVERIFIED (R84, R85). -/
def makeLost (id : NodeId) (s : State) : State :=
  match entryOf s id with
  | none => s
  | some e =>
    if e.fresh == .stale && agedPast lostLimit e then
      let e' : Entry := { e with fresh := .lost, verif := .unverified }
      changeSignal e' true (putEntry e' s)
    else s

/-- ENTRY_LOST (R85). -/
def execEntryLost (id : NodeId) (s : State) : Host.Outcome State Fault Refusal := act (makeLost id) s

end Sys2Proof.Machine
end

