-- ==== Sys2Proof/Machine/Tracker.lean ====
section
/-! DEFINITION. The Position Tracker: the quadrature counter, the work of the sample tick in its seven steps (R37),
marker reads, and the weighing gate. -/

namespace Sys2Proof.Machine

/-! ## The quadrature counter (R17) -/

/-- Whether a change of exactly one channel is a step in the order in which the first channel leads the second. -/
def firstLeads (s : State) (first second : Bool) : Bool :=
  if s.tracker.first != first then first != s.tracker.second else second == s.tracker.first

/-- The counter stage samples the two channels (R17): one raw count where exactly one changed, the illegal-transition
mark where both did. LOOP and TERMINAL nodes do not sample them, and the hold before a cold start counts nothing that is
kept. -/
def sampleChannels (first second : Bool) (s : State) : State :=
  let t : State := { s with tracker.first := first, tracker.second := second }
  if hasEncoder s && !coldHold s then
    match s.tracker.first != first, s.tracker.second != second with
    | true, true => { t with tracker.illegal := true }
    | false, false => t
    | _, _ =>
      let step : Int := if firstLeads s first second == Config.firstLeadsIsPlus then 1 else -1
      { t with tracker.delta := sat32 (s.tracker.delta + step) }
  else t

/-- QUADRATURE_EDGE. The stage counts through STARTING and through the hold of a warm start (R17). -/
def execQuadratureEdge (first second : Bool) (s : State) : Host.Outcome State Fault Refusal :=
  .next (sampleChannels first second s)

/-! ## Folding through a start (R22) -/

/-- The delta counter is folded into the position counts, without clamp, record or judgement. -/
def fold (p : Profile) (s : State) : State :=
  if hasEncoder s then
    { s with
      tracker.counts := sat32 (s.tracker.counts + invertedDelta s p)
      tracker.delta := 0
      tracker.illegal := false }
  else s

/-! ## Step 1: the take (R18) -/

/-- MARKED becomes RECKONED. -/
def lowered (q : Quality) : Quality := match q with
  | .marked => .reckoned
  | .reckoned => .reckoned
  | .none => .none

/-- The taken value, after the invert flag and the clamp (R18). -/
def takenDelta (s : State) (p : Profile) : Int := clampInt (-Config.takeLimit) Config.takeLimit (invertedDelta s p)

/-- The take is faulty: the value was clamped or the illegal-transition mark was set (R18). -/
def takeFaulty (s : State) (p : Profile) : Bool :=
  decide (takenDelta s p ≠ invertedDelta s p) || s.tracker.illegal

/-- The counter and the mark are cleared, and a faulty take lowers the quality and may raise SPEED_SENSOR (R18). -/
def takeStep (p : Profile) (s : State) : State :=
  let t : State := { s with tracker.delta := 0, tracker.illegal := false }
  if takeFaulty s p then
    let u : State :=
      if s.tracker.sensorLatch || inState s .faulted then t
      else raiseCause .speedSensor { t with tracker.sensorLatch := true }
    { u with tracker.quality := lowered s.tracker.quality }
  else { t with tracker.sensorLatch := false }

/-! ## Step 2: history, speed, motion, standstill (R19, R20) -/

/-- The history with one record more, at most 50 (R19). -/
def joinHistory (h : List Sample) (r : Sample) : List Sample :=
  (if Config.historySamples ≤ h.length then h.drop 1 else h) ++ [r]

/-- The sum of the newest four deltas, the one taken now included (R19). -/
def newestSum (h : List Sample) (d : Int) : Int := ((h.map Sample.delta).reverse.take 3).sum + d

/-- Motion of a sum (R19). -/
def motionOf (sum : Int) : Motion := if 0 < sum then .up else if sum < 0 then .down else .stopped

/-- Speed of a sum (R19). -/
def speedOf (cpm : Nat) (sum : Int) : Nat := min (sum.natAbs * 2500 / cpm) Config.speedMax

/-- The record of a take joins the history, with a given speed; the end of standstill is a wake event (R20, R180). -/
def recordStep (d : Int) (speed : Nat) (s : State) : State :=
  let h := joinHistory s.tracker.history { delta := d, speed := speed }
  let t : State :=
    { s with
      tracker.history := h
      tracker.speed := speed
      tracker.motion := motionOf (newestSum s.tracker.history d) }
  if standstill s && !standstillOf h then wakeEvent t else t

/-! ## Step 4: misses and the next expected marker (R25, R26) -/

/-- The own car's marker table, positions ascending. -/
def ownMarkers (s : State) (p : Profile) : List Marker := if side s == .a then p.markersA else p.markersB

/-- The first marker of a table strictly ahead of a position in a direction, passing over one entry (R25, R26). -/
def markerAhead (markers : List Marker) (d : Travel) (x : Int) (passed : Option Marker) : Option Marker :=
  match d with
  | .up => markers.find? (fun m => decide (x < m.position) && passed != some m)
  | .down => markers.reverse.find? (fun m => decide ((m.position : Int) < x) && passed != some m)

/-- The position has gone past the next expected marker by more than W_mark in its direction (R26). -/
def markerPassed (s : State) (p : Profile) (m : Marker) (d : Travel) : Bool :=
  match d with
  | .up => decide ((p.wMark : Int) < positionCm s p - m.position)
  | .down => decide ((p.wMark : Int) < (m.position : Int) - positionCm s p)

/-- The marker state and the quality withdrawn together (R26, R34). -/
def withdrawMarkers (s : State) : State :=
  { s with
    tracker.quality := .none
    tracker.misses := 0
    tracker.nextExpected := none
    tracker.lastMatched := none }

/-- A miss is judged (R26). -/
def judgeMiss (p : Profile) (s : State) : State :=
  match s.tracker.nextExpected with
  | none => s
  | some (m, d) =>
    if markerPassed s p m d then
      if s.tracker.misses = 0 then
        { s with
          tracker.misses := 1
          tracker.quality := lowered s.tracker.quality
          tracker.nextExpected := (markerAhead (ownMarkers s p) d m.position none).map (·, d) }
      else withdrawMarkers (raiseCause .markerLost s)
    else s

/-- The direction of a motion. -/
def travelOf : Motion → Option Travel
  | .up => some .up | .down => some .down | .stopped => none

/-- The next expected marker is chosen (R25). -/
def chooseExpected (p : Profile) (s : State) : State :=
  match travelOf s.tracker.motion with
  | none => s
  | some d =>
    if located s && (match s.tracker.nextExpected with
        | none => true
        | some (_, e) => e != d) then
      { s with tracker.nextExpected :=
          (markerAhead (ownMarkers s p) d (positionCm s p) s.tracker.lastMatched).map (·, d) }
    else s

/-! ## Step 6: agreement between car and rope (R32 to R34) -/

/-- What one comparison finds: the difference and the allowance. -/
structure Finding where
  delta : Int
  allowance : Int
  deriving DecidableEq, Repr

/-- The allowance for a car at a position (R32). -/
def allowance (p : Profile) (x : Nat) : Int := p.dAgree + ceilDiv (p.sStretch * ((p.length : Int) - x)) 100000

/-- The extrapolated position of an entry that is FRESH and shows a position with quality not NONE (R32). -/
def agreedPosition (p : Profile) (e : Option Entry) : Option Nat :=
  match e with
  | none => none
  | some e => if isFresh e && showsPosition e then extrapolated p e else none

/-- The conditions of the node itself for a comparison (R32). -/
def mayCompare (s : State) : Bool := inService s && located s

/-- The comparison of the DRIVE with car A, or of a CAR with the rope; none where it is not made (R32). -/
def findingA (s : State) (p : Profile) : Option Finding :=
  if mayCompare s then
    if isDrive s then
      (agreedPosition p (carEntry s .a)).map fun (x : Nat) =>
        { delta := (reported s p : Int) - (x : Int), allowance := allowance p x }
    else
      (agreedPosition p (driveEntry s)).map fun (x : Nat) =>
        { delta := (reported s p : Int) - (if side s == .a then (x : Int) else (p.length : Int) - x)
          allowance := allowance p (reported s p) }
  else none

/-- The comparison of the DRIVE with car B; none where it is not made (R32). -/
def findingB (s : State) (p : Profile) : Option Finding :=
  if mayCompare s && isDrive s then
    (agreedPosition p (carEntry s .b)).map fun (x : Nat) =>
      { delta := ((p.length : Int) - (reported s p : Int)) - (x : Int), allowance := allowance p x }
  else none

/-- The counts of one comparison after a sample tick (R33). -/
def countComparison (disagree : Bool) (f : Option Finding) (c : Comparison) : Comparison :=
  match f with
  | none => { c with outside := 0, inside := 0 }
  | some f =>
    if disagree then
      { c with inside := if (f.delta.natAbs : Int) ≤ f.allowance then min (c.inside + 1) Config.disagreeSamples else 0 }
    else { c with outside := if f.allowance < (f.delta.natAbs : Int) then c.outside + 1 else 0 }

/-- Both counts 0. -/
def Comparison.zeroed (c : Comparison) : Comparison := { c with outside := 0, inside := 0 }

/-- A comparison that was made has reached a full inside count, or was not made (R33). -/
def insideOrUnmade (f : Option Finding) (c : Comparison) : Bool :=
  f.isNone || decide (c.inside = Config.disagreeSamples)

/-- The counts and the DISAGREE flag after a sample tick (R33). -/
def judgeDisagree (fa fb : Option Finding) (s : State) : State :=
  let d := s.tracker.disagree
  let a := countComparison d fa s.tracker.cmpA
  let b := countComparison d fb s.tracker.cmpB
  let setNow := !d && (decide (Config.disagreeSamples ≤ a.outside) || decide (Config.disagreeSamples ≤ b.outside))
  let clearNow := d && (fa.isSome || fb.isSome) && insideOrUnmade fa a && insideOrUnmade fb b
  if setNow || clearNow then
    { s with tracker.disagree := setNow, tracker.cmpA := a.zeroed, tracker.cmpB := b.zeroed }
  else { s with tracker.cmpA := a, tracker.cmpB := b }

/-- A difference beyond three times the allowance (R34). -/
def conflicts (f : Option Finding) : Bool := f.any fun f => decide (3 * f.allowance < (f.delta.natAbs : Int))

/-- The conflict latch of the comparison with car A or with the rope (R34): raising withdraws the own quality at a CAR
and the rope quality at the DRIVE. -/
def judgeConflictA (f : Option Finding) (s : State) : State :=
  if conflicts f then
    if s.tracker.cmpA.conflict then s
    else
      let t := raiseCause .positionConflict { s with tracker.cmpA.conflict := true }
      if isDrive s then { t with tracker.quality := .none } else withdrawMarkers t
  else { s with tracker.cmpA.conflict := false }

/-- The conflict latch of the DRIVE's comparison with car B (R34): raising leaves the rope quality as it is. -/
def judgeConflictB (f : Option Finding) (s : State) : State :=
  if conflicts f then
    if s.tracker.cmpB.conflict then s
    else raiseCause .positionConflict { s with tracker.cmpB.conflict := true }
  else { s with tracker.cmpB.conflict := false }

/-- The agreement comparisons of a sample tick, both found from the same standing (R32 to R34; log entry 20). -/
def compareStep (p : Profile) (s : State) : State :=
  let fa := findingA s p
  let fb := findingB s p
  judgeConflictB fb (judgeConflictA fa (judgeDisagree fa fb s))

/-! ## Step 7: uncommanded motion (R36) -/

/-- The displacement from the still-entry reference, cm (R36). -/
def displacement (s : State) (p : Profile) (ref : Int) : Nat := (s.tracker.counts - ref).natAbs * 100 / cpm s p

/-- The check for uncommanded motion (R36). -/
def judgeStill (p : Profile) (s : State) : State :=
  match s.tracker.stillRef with
  | none => s
  | some r => if p.dStill < displacement s p r then raiseCause .uncommandedMotion s else s

/-! ## The tracker's operation (R37) -/

/-- Step 3: the taken delta joins the position counts (R21). -/
def countStep (d : Int) (s : State) : State := { s with tracker.counts := sat32 (s.tracker.counts + d) }

/-- Steps 4 and 5: markers at a CAR, the re-reference due to quality NONE at the DRIVE. -/
def referenceStep (p : Profile) (s : State) : State :=
  if isCar s then chooseExpected p (judgeMiss p s)
  else if located s then s else reReference p s

/-- The seven steps at a node with its profile loaded (R37). -/
def trackLoaded (p : Profile) (s : State) : State :=
  let d := takenDelta s p
  let speed := speedOf (cpm s p) (newestSum s.tracker.history d)
  judgeStill p (compareStep p (referenceStep p (countStep d (recordStep d speed (takeStep p s)))))

/-- A take at a DRIVE or CAR FAULTED by its load: raw counts, feeding only the history, speed, motion and standstill
(R18, R20). -/
def trackRaw (s : State) : State :=
  let d := clampInt (-Config.takeLimit) Config.takeLimit s.tracker.delta
  let speed := if newestSum s.tracker.history d = 0 then 0 else 1
  recordStep d speed { s with tracker.delta := 0, tracker.illegal := false }

/-- The tracker's work at a sample tick after STARTING. -/
def trackerWork (s : State) : State :=
  if hasEncoder s then
    match s.loader.profile with
    | some p => trackLoaded p s
    | none => trackRaw s
  else s

/-! ## Marker reads (R23, R24) -/

/-- The own table's entry for a code. -/
def markerOf (s : State) (p : Profile) (code : Nat) : Option Marker := (ownMarkers s p).find? (fun m => m.code == code)

/-- A read matches an entry: quality NONE, or the entry within W_mark of the present position (R23). -/
def readMatches (s : State) (p : Profile) (m : Marker) : Bool :=
  !located s || decide (((m.position : Int) - centimetres (cpm s p) (presentCounts s p)).natAbs ≤ p.wMark)

/-- A matched read snaps the present position to the marker (R23). -/
def snap (p : Profile) (m : Marker) (s : State) : State :=
  let t := setPresent (countsAt (cpm s p) m.position) p s
  { t with
    tracker.quality := .marked
    tracker.misses := 0
    tracker.unexpected := false
    tracker.lastMatched := some m
    tracker.nextExpected := none }

/-- A read at a CAR with its profile loaded (R23, R24). -/
def readMarker (code : BitVec 5) (p : Profile) (s : State) : State :=
  match markerOf s p code.toNat with
  | none => { s with tracker.unexpected := true }
  | some m => if readMatches s p m then snap p m s else { s with tracker.unexpected := true }

/-- The marker reader's report: taken at a CAR in every node state after STARTING with a profile loaded (R23). -/
def takeMarker (code : BitVec 5) (s : State) : State :=
  match s.loader.profile with
  | none => s
  | some p => if isCar s && !inState s .starting then readMarker code p s else s

/-- MARKER_READ (R23, R24). -/
def execMarkerRead (code : BitVec 5) (s : State) : Host.Outcome State Fault Refusal := live (takeMarker code) s

/-! ## Weighing (R29, R30) -/

/-- The load a gate's count gives; none for INVALID (R30). -/
def loadOfCount (p : Profile) (count : Nat) : Option Nat :=
  if count < p.loadOffset / 2 then none
  else some (clampInt 0 p.wMax (((count : Int) - p.loadOffset) * p.loadScale)).toNat

/-- The gate that ends is judged, and the next one begins (R29, R30). -/
def endGate (s : State) : State :=
  match s.loader.profile with
  | none => s
  | some p =>
    if s.tracker.gateDue then
      { s with tracker.load := loadOfCount p s.tracker.gateCount, tracker.gateCount := 0, tracker.gateDue := false }
    else s

/-- WEIGHING_GATE_END (R30). -/
def execWeighingGateEnd (s : State) : Host.Outcome State Fault Refusal := live endGate s

/-- One rising edge in the gate in progress (R29). -/
def countPulse (s : State) : State :=
  if s.tracker.gateRunning then
    { s with tracker.gateCount := min (s.tracker.gateCount + 1) Config.count16Max }
  else s

/-- WEIGHING_PULSE_EDGE (R29). -/
def execWeighingPulseEdge (s : State) : Host.Outcome State Fault Refusal := live countPulse s

end Sys2Proof.Machine
end

