-- ==== Sys2Proof/Machine/Start.lean ====
section
/-! DEFINITION. The holds and the two kinds of start (R2 to R5, with each chapter's table of values at the two kinds of
start), the load (R6, R7, R13, R14), and the exit from STARTING (R15). -/

namespace Sys2Proof.Machine

/-! ## Starts (R2, R3, R16) -/

/-- The strap readings: for DRIVE and LOOP the side is held as A (R5). -/
def readStraps (x : Straps) : Straps := { x with side := heldSide x.role x.side }

/-- The port at the beginning of a start (R190). -/
def startPort (q : Port) : Port :=
  { selected := q.selected, state := if q.selected then .mute else .idle, shift := [], answer := [], sent := 0, restart := false }

/-- The beginning of a cold start: everything at its cold value; the input levels, what is to come on the signal line
and at the service port, the encoder channels and the select input stay what they are, and so do the commands that
wait. -/
def coldStart (cause : ResetCause) (straps : Straps) (s : State) : State :=
  { State.reset with
    power := { s.power with hold := none }
    inputs.pins := s.inputs.pins
    inputs.previous := s.inputs.previous
    inputs.line := s.inputs.line
    inputs.service := s.inputs.service
    loader.straps := readStraps straps
    loader.resetCause := cause
    tracker.first := s.tracker.first
    tracker.second := s.tracker.second
    port := startPort s.port
    pending := s.pending }

/-- Counts gathered at a role with an encoder; none at a LOOP or TERMINAL (R17; log entry 24). -/
def keptCounts (straps : Straps) (d : Int) : Int :=
  match straps.role with
  | .drive => d
  | .car => d
  | .loop => 0
  | .terminal => 0

/-- The illegal-transition mark at a role with an encoder (R17; log entry 24). -/
def keptMark (straps : Straps) (b : Bool) : Bool :=
  match straps.role with
  | .drive => b
  | .car => b
  | .loop => false
  | .terminal => false

/-- The beginning of a warm start: as a cold one, but for what each chapter retains. -/
def warmStart (cause : ResetCause) (straps : Straps) (s : State) : State :=
  { coldStart cause straps s with
    time := s.time
    loader.store := s.loader.store
    tracker.delta := keptCounts straps s.tracker.delta
    tracker.illegal := keptMark straps s.tracker.illegal
    tracker.counts := s.tracker.counts
    tracker.quality := lowered s.tracker.quality
    seq.run := s.seq.run
    trips.history := s.trips.history
    trips.nextSerial := s.trips.nextSerial
    brakes := { eb := BrakeUnit.start s.time.now, sb := BrakeUnit.start s.time.now, tb := BrakeUnit.start s.time.now } }

/-- A start of a cause begins (R2). -/
def beginStart (cause : ResetCause) (straps : Straps) (s : State) : State :=
  match cause with
  | .coldPower => coldStart cause straps s
  | .coldSupply => coldStart cause straps s
  | .warmLine => warmStart cause straps s
  | .warmService => warmStart cause straps s

/-- POWER_ON: the supervisor releases the part; RESET_N asserted prolongs the hold (R2). -/
def powerOn (straps : Straps) (s : State) : State :=
  let t : State := { s with power := { s.power with supplyLow := false, hold := some .coldPower } }
  if t.power.resetLow then t else beginStart .coldPower straps t

/-- POWER_ON (R2). -/
def execPowerOn (straps : Straps) (s : State) : Host.Outcome State Fault Refusal := .next (powerOn straps s)

/-- SUPPLY_LOW: the part is held, and the start that follows will be COLD_SUPPLY (R2). -/
def execSupplyLow (s : State) : Host.Outcome State Fault Refusal :=
  .next { s with power := { s.power with supplyLow := true, hold := some .coldSupply } }

/-- SUPPLY_RECOVER: the start begins, unless RESET_N is still asserted (R2). -/
def supplyRecover (straps : Straps) (s : State) : State :=
  if s.power.supplyLow then
    let t : State := { s with power := { s.power with supplyLow := false, hold := some .coldSupply } }
    if t.power.resetLow then t else beginStart .coldSupply straps t
  else s

/-- SUPPLY_RECOVER (R2). -/
def execSupplyRecover (straps : Straps) (s : State) : Host.Outcome State Fault Refusal :=
  .next (supplyRecover straps s)

/-- RESET_N_ASSERT: the part is held; a cold event already standing keeps its cause (R2). -/
def execResetNAssert (s : State) : Host.Outcome State Fault Refusal :=
  .next { s with power := { s.power with resetLow := true, hold := some (s.power.hold.getD .warmLine) } }

/-- RESET_N_RELEASE: the start of the hold's cause begins, unless the supply is still low (R2). -/
def resetNRelease (straps : Straps) (s : State) : State :=
  if s.power.resetLow then
    let t : State := { s with power := { s.power with resetLow := false } }
    if t.power.supplyLow then t else beginStart (s.power.hold.getD .warmLine) straps t
  else s

/-- RESET_N_RELEASE (R2). -/
def execResetNRelease (straps : Straps) (s : State) : Host.Outcome State Fault Refusal :=
  .next (resetNRelease straps s)

/-! ## The load (R6, R7, R13, R14) -/

/-- The load ends with an outcome; a sample tick of the present millisecond came before its end. -/
def endLoad (o : LoadOutcome) (s : State) : State :=
  { s with loader.outcome := o, loader.stage := .ended, time.sampleDue := false }

/-- The image length of a header. -/
def headerLength (lengthHigh lengthLow : Byte) : Nat := lengthHigh.toNat * 256 + lengthLow.toNat

/-- Octets clocked at the memory by the time `n` octets of the image have been read: three octets of the read instruction
come before them (R6). -/
def readBits (n : Nat) : Nat := 8 * (Config.readInstruction.length + n)

/-- The header octets are held; the format code and the image length are checked (R6, R7; log entry 29). -/
def readHeader (format revision lengthHigh lengthLow : Byte) (s : State) : State :=
  if inState s .starting && s.loader.stage == .header then
    let t : State :=
      { s with
        loader.store := Store.load s.loader.store [format, revision, lengthHigh, lengthLow]
        loader.heldLength := 4
        loader.bits := readBits 4 }
    let n := headerLength lengthHigh lengthLow
    if format ≠ Config.formatCode then endLoad .profileAbsent t
    else if n < Config.minImage ∨ Config.storeOctets < n then endLoad .profileCheck t
    else { t with loader.stage := .body, loader.imageLength := n }
  else s

/-- HEADER_READ (R6). -/
def execHeaderRead (format revision lengthHigh lengthLow : Byte) (s : State) : Host.Outcome State Fault Refusal :=
  live (readHeader format revision lengthHigh lengthLow) s

/-- The octets the loader clocks in after the header, `n` of them: where the memory gives no more, all ones (as an absent
memory reads in R6; log entry 15). -/
def clockedIn (octets : List Byte) (n : Nat) : List Byte :=
  (List.range n).map fun i => octets.getD i 0xFF#8

/-- The image: the four header octets held, then those clocked in. -/
def imageOf (octets : List Byte) (s : State) : List Byte :=
  Store.take s.loader.store 4 ++ clockedIn octets (s.loader.imageLength - 4)

/-- The peer entry created for a listed node (R82). -/
def newEntry (n : ListedNode) : Entry where
  id := Fin.ofNat 8 n.id
  role := n.role
  side := n.side
  fresh := .empty
  verif := .unverified
  age := Config.count16Max
  cls := none
  lastSeq := none
  beacon := none
  announce := none
  owed := false

/-- The peer table: an entry for each listed node but the node itself, in ascending order of id (R81). -/
def buildPeers (p : Profile) (own : NodeId) : List Entry :=
  (List.range 8).filterMap fun i =>
    if i = own.val then none else (p.nodes.find? (fun n => n.id == i)).map newEntry

/-- The lift modes of the role's units (R158). -/
def giveModes (p : Profile) (s : State) : State :=
  { s with
    brakes.eb.mode := if hasBrake (role s) .eb then some p.liftEB else none
    brakes.sb.mode := if hasBrake (role s) .sb then some p.liftSB else none
    brakes.tb.mode := if hasBrake (role s) .tb then some p.liftTB else none }

/-- The start-up marker read at a CAR whose reader rests over a marker (R14, R23). -/
def startUpRead (marker : Option (BitVec 5)) (p : Profile) (s : State) : State :=
  match marker with
  | none => s
  | some c => if isCar s then readMarker c p s else s

/-- The hand-off of a profile (R14, R22, R63). -/
def handOff (img : List Byte) (p : Profile) (marker : Option (BitVec 5)) (s : State) : State :=
  let t : State :=
    { s with
      loader.fingerprint := storedCheck img
      loader.revision := p.revision
      loader.profile := some p
      peers := buildPeers p (ownId s)
      envelope.bEff := some p.bFloor }
  startUpRead marker p (fold p (requestAnnounce (giveModes p t)))

/-- The whole image is held, checked, validated and compared with the straps (R7, R9 to R14). -/
def finishRead (octets : List Byte) (marker : Option (BitVec 5)) (s : State) : State :=
  if inState s .starting && s.loader.stage == .body then
    let img := imageOf octets s
    let t : State :=
      { s with
        loader.store := Store.load s.loader.store img
        loader.heldLength := s.loader.imageLength
        loader.bits := readBits s.loader.imageLength }
    if imageChecks img then
      match validProfile img with
      | none => endLoad .profileContent t
      | some p =>
        if (ownEntry p t.loader.straps).isSome then handOff img p marker (endLoad .loaded t)
        else endLoad .roleMismatch t
    else endLoad .profileCheck t
  else s

/-- PROFILE_READ_DONE (R7). -/
def execProfileReadDone (octets : List Byte) (marker : Option (BitVec 5)) (s : State) :
    Host.Outcome State Fault Refusal :=
  live (finishRead octets marker) s

/-! ## The exit from STARTING (R15) -/

/-- The fault cause of a load outcome (R15). -/
def faultOf : LoadOutcome → Option Cause
  | .none => none
  | .loaded => none
  | .profileAbsent => some .profileAbsent
  | .profileCheck => some .profileCheck
  | .profileContent => some .profileContent
  | .roleMismatch => some .roleMismatch

/-- Every input is taken as it stands: keys held make no press, contacts no change (R4, R128, R177). -/
def takeInputs (s : State) : State :=
  { s with
    inputs.previous := s.inputs.pins
    inputs.doorTaken := s.inputs.pins.doorShut
    inputs.gateTaken := s.inputs.pins.gateShut }

/-- The beacon schedule begins at the exit (R74). -/
def beginBeacons (s : State) : State :=
  wakeTransmitter
    { s with
      access.lastAttempt := some s.time.now
      access.beaconDue := some s.time.now
      access.pendingBeacon := true }

/-- The first weighing gate begins where the exit falls on a multiple of 100 ms (R29). -/
def firstGate (s : State) : State :=
  if isCar s && s.loader.profile.isSome && decide (s.time.now.toNat % 100 = 0) then
    { s with tracker.gateRunning := true, tracker.gateCount := 0 }
  else s

/-- The four detectors in the order in which their rises are taken at a start: on each track LOW before UP (R149). Between the
tracks no rule gives an order: the model takes track A before track B, so that a cause of track A's is the primary one
(DESIGN CHOICE, log entry 45). -/
def detectorsInOrder : List Detector :=
  [{ track := .a, atEnd := .low }, { track := .a, atEnd := .up }, { track := .b, atEnd := .low },
    { track := .b, atEnd := .up }]

/-- Every detector level as its input shows it (R148). -/
def takeLevels (s : State) : State :=
  detectorsInOrder.foldl (fun t d => holdLevel d (detectorPin t.inputs.pins d) t) s

/-- A LOOP's detectors at the exit into DWELL: each one active counts as a rise (R148, R149; log entry 17). -/
def startRises (p : Profile) (s : State) : State :=
  if isLoop s then
    detectorsInOrder.foldl (fun t d => if detectorPin t.inputs.pins d then takeRise p d t else t) (takeLevels s)
  else s

/-- A stop lies within W_stop of the position in centimetres, which is not clamped to the track (R15, R21). R121, which says
that its test agrees with this one, speaks of the reported position, clamped to 0..L: beyond an end of the track each test
follows its own rule (DEDUCED, log entry 34). -/
def stopAtExit (s : State) (p : Profile) : Bool := (stopNear p (ownStops s p) (positionCm s p)).isSome

/-- The state a loaded node enters (R15). -/
def exitState (p : Profile) (s : State) : NodeState :=
  if hasEncoder s then
    if located s && stopAtExit s p then .dwell else .hold
  else .dwell

/-- The exit, at the first sample tick after the load has ended (R15, R22); an ESTOP input that is then asserted is taken
at once (R4, R167). At a LOOP whose detectors raise a cause there too, R165 leaves the order open: the model takes the
detectors' rises first, so that their cause is the primary one (DESIGN CHOICE, log entry 40). -/
def leaveStarting (s : State) : State :=
  if inState s .starting && s.time.sampleDue && s.loader.stage == .ended then
    let t : State := { s with time.sampleDue := false }
    match s.loader.profile with
    | some p =>
      let u := fold p t
      assertEstop (startRises p (firstGate (beginBeacons (takeInputs (enterState (exitState p u) u)))))
    | none =>
      assertEstop (beginBeacons (takeInputs (enterFaulted ((faultOf s.loader.outcome).getD .profileAbsent) t)))
  else s

/-- STARTING_EXIT (R15). -/
def execStartingExit (s : State) : Host.Outcome State Fault Refusal := act leaveStarting s

end Sys2Proof.Machine
end

