-- ==== Sys2Proof/Machine/Service.lean ====
section
/-! DEFINITION. The Service Port (R190 to R194). -/

namespace Sys2Proof.Machine

/-! ## Codes (R191, R194) -/

/-- The four statuses (R191). -/
inductive Status where
  | ok | noEntry | refused | unknown
  deriving DecidableEq, Repr

/-- Status codes (R191). -/
def statusCode : Status → Nat
  | .ok => 0 | .noEntry => 1 | .refused => 2 | .unknown => 3

/-- Codes of the stand-down role (R194). -/
def sdRoleCode : StandDownRole → Nat
  | .none => 0 | .initiating => 1 | .acking => 2

/-- Codes of the last stand-down outcome (R194). -/
def outcomeCode : StandDownOutcome → Nat
  | .none => 0 | .committed => 1 | .expired => 2 | .cancelled => 3 | .yielded => 4

/-- Codes of a unit's state (R194). -/
def unitCode : UnitState → Nat
  | .applied => 0 | .lifting => 1 | .lifted => 2

/-- A unit's state as the snapshot shows it: 3 where the role has no such unit (R194). -/
def unitField (s : State) (b : BrakeId) : Nat :=
  if hasBrake (role s) b then unitCode (brakeUnit s.brakes b).state else 3

/-- A unit's LIFT_FAIL as the snapshot shows it; 0 where the role has no such unit, for which R194 gives no value (DESIGN
CHOICE, log entry 41). -/
def failField (s : State) (b : BrakeId) : Nat :=
  (hasBrake (role s) b && (brakeUnit s.brakes b).liftFail).toNat

/-- Freshness codes (R194). -/
def freshCode : Freshness → Nat
  | .empty => 0 | .fresh => 1 | .stale => 2 | .lost => 3

/-- Verification codes (R194). -/
def verifCode : Verification → Nat
  | .unverified => 0 | .matched => 1 | .mismatched => 2

/-! ## Records (R194) -/

/-- The status snapshot, 30 octets. -/
def statusRecord (s : State) : List Byte :=
  [octet ((ownId s).val * 16 + roleCode (role s) * 4 + sideCode (side s) * 2),
    octet (stateCode s.seq.state * 16 + classCode s.cls.cls * 4 + resetCauseCode s.loader.resetCause)]
    ++ be16 s.seq.run.toNat
    ++ [octet (directionCode s.seq.dir * 64 + legCode s.seq.leg * 8 + s.seq.recovery.toNat * 4
          + s.seq.dispatch.toNat * 2 + s.seq.consent.toNat)]
    ++ be24 (field24 (shownPosition s))
    ++ [octet (qualityCode (shownQuality s) * 64 + motionCode (shownMotion s) * 16 + sdRoleCode s.cls.sdRole * 4
          + s.ceiling.intervention.toNat * 2),
        octet (outcomeCode s.cls.outcome * 16 + s.cls.sdId.elim 15 Fin.val)]
    ++ be16 (field16 (shownSpeed s)) ++ be16 s.envelope.vperm ++ be16 s.ceiling.line
    ++ [octet (s.envelope.bEff.getD 0), octet (flagsOctet (ownBeacon s)),
        octet (unitField s .eb * 64 + unitField s .sb * 16 + unitField s .tb * 4),
        octet (failField s .eb * 128 + failField s .sb * 64 + failField s .tb * 32),
        octet (causeField (shownCause s))]
    ++ be16 (field16 (shownLoad s)) ++ be32 s.time.now.toNat ++ be16 s.loader.fingerprint.toNat
    ++ [s.loader.revision]

/-- A peer entry, 30 octets. Where no class, no sequence number or no announce record is held, R194 gives no value for its
bits or octets: the model sends 0 (DESIGN CHOICE, log entry 41). -/
def peerRecord (e : Entry) : List Byte :=
  [octet (e.id.val * 16 + roleCode e.role * 4 + sideCode e.side * 2 + e.owed.toNat),
    octet (freshCode e.fresh * 64 + verifCode e.verif * 16 + e.cls.elim 0 classCode * 4 + e.cls.isSome.toNat * 2
      + e.lastSeq.isSome.toNat)]
    ++ be16 e.age
    ++ [e.lastSeq.getD 0, octet (e.beacon.isSome.toNat * 128 + e.announce.isSome.toNat * 64)]
    ++ e.beacon.elim (List.replicate 19 0) beaconBody
    ++ be16 (e.announce.elim 0 (fun a => a.fingerprint.toNat))
    ++ [e.announce.elim 0 AnnounceRec.revision, octet (e.announce.elim 0 (fun a => resetCauseCode a.resetCause)),
        octet (e.announce.elim 0 AnnounceRec.count)]

/-- A trip record, 23 octets. -/
def historyRecord (r : TripRecord) : List Byte :=
  be16 r.serial ++ be32 r.time.toNat
    ++ [octet (causeCode r.cause), octet (r.secondary.toNat * 128 + r.origin.isSome.toNat * 64),
        octet (originIdField r.origin), octet (originCauseField r.origin), octet (stateCode r.state)]
    ++ be16 r.run.toNat ++ be24 (field24 r.position)
    ++ [octet (qualityCode r.quality * 64 + motionCode r.motion * 16)]
    ++ be16 (field16 r.speed) ++ be16 r.ceiling ++ be16 r.vperm

/-- Octets of a block that lie below the held length, 1 to 16 (R191). -/
def blockCount (held b : Nat) : Nat := min 16 (held - 16 * b)

/-- A block of the image store: the count, then 16 octets (R191). -/
def blockRecord (l : Loader) (b : Nat) : List Byte :=
  octet (blockCount l.heldLength b) :: Store.block l.store l.heldLength b

/-! ## The transaction (R190) -/

/-- An answer: a status, the record, and their check sequence (R190). -/
def answerOf (st : Status) (record : List Byte) : List Byte := withCheck (octet (statusCode st) :: record)

/-- The select input becomes active (R190). While the part is held only the level is kept. -/
def select (s : State) : State :=
  if held s then { s with port.selected := true }
  else if s.port.selected then s
  else { s with port := { selected := true, state := .command, shift := [], answer := [], sent := 0, restart := false } }

/-- SERVICE_SELECT (R190). -/
def execServiceSelect (s : State) : Host.Outcome State Fault Refusal := .next (select s)

/-- The select input becomes inactive: the port returns to IDLE, and an accepted RESTART begins its warm start (R190,
R193). R193 accepts RESTART at the deselection that ends the transaction, and R190 gives a deselection before the answer has
been sent in full no effect on the node: the model begins the warm start whatever part of the answer was sent (DESIGN CHOICE,
log entry 52). While the part is held only the level is kept. -/
def deselect (straps : Straps) (s : State) : State :=
  if held s then { s with port.selected := false }
  else
    let t : State := { s with port := { selected := false, state := .idle, shift := [], answer := [], sent := 0, restart := false } }
    if s.port.selected && s.port.restart then beginStart .warmService straps t else t

/-- SERVICE_DESELECT (R190, R193). -/
def execServiceDeselect (straps : Straps) (s : State) : Host.Outcome State Fault Refusal := .next (deselect straps s)

/-- The answer is captured: COMMAND becomes ANSWER; in any other transaction state no command is taken (R190). -/
def capture (reply : State → Status × List Byte) (s : State) : State :=
  if s.port.state == .command then
    { s with
      port.state := .answer
      port.shift := []
      port.answer := answerOf (reply s).1 (reply s).2
      port.sent := 0 }
  else s

/-! ## Commands (R191) -/

/-- The reply to STATUS. -/
def statusReply (s : State) : Status × List Byte := (.ok, statusRecord s)

/-- STATUS (R191). -/
def execStatus (_arg : BitVec 5) (s : State) : Host.Outcome State Fault Refusal := live (capture statusReply) s

/-- The reply to PEER k. -/
def peerReply (k : Nat) (s : State) : Status × List Byte :=
  match s.peers[k]? with
  | none => (.noEntry, [])
  | some e => (.ok, peerRecord e)

/-- PEER k (R191). -/
def execPeer (k : BitVec 5) (s : State) : Host.Outcome State Fault Refusal := live (capture (peerReply k.toNat)) s

/-- The reply to TRIP k, 0 the newest. -/
def tripReply (k : Nat) (s : State) : Status × List Byte :=
  match s.trips.history.reverse[k]? with
  | none => (.noEntry, [])
  | some r => (.ok, historyRecord r)

/-- TRIP k (R191). -/
def execTrip (k : BitVec 5) (s : State) : Host.Outcome State Fault Refusal := live (capture (tripReply k.toNat)) s

/-- The reply to PROFILE b. -/
def profileReply (b : Nat) (s : State) : Status × List Byte :=
  if 16 * b < s.loader.heldLength then (.ok, blockRecord s.loader b) else (.noEntry, [])

/-- PROFILE b (R191). -/
def execProfile (b : BitVec 5) (s : State) : Host.Outcome State Fault Refusal := live (capture (profileReply b.toNat)) s

/-- The node stands for R193: a LOOP or TERMINAL FAULTED by its load counts as standing. -/
def standsForService (s : State) : Bool :=
  stands s || (!hasEncoder s && inState s .faulted && s.loader.profile.isNone)

/-- RESTART and CLEAR_HISTORY are answered OK (R193). -/
def serviceAllowed (s : State) : Bool :=
  (resting s || inState s .faulted || inState s .night) && standsForService s

/-- The reply to RESTART and CLEAR_HISTORY. -/
def actingReply (s : State) : Status × List Byte := (if serviceAllowed s then .ok else .refused, [])

/-- A RESTART answered OK is accepted at the deselection (R193). -/
def takeRestart (s : State) : State :=
  let t := capture actingReply s
  if s.port.state == .command && serviceAllowed s then { t with port.restart := true } else t

/-- RESTART (R193). -/
def execRestart (_arg : BitVec 5) (s : State) : Host.Outcome State Fault Refusal := live takeRestart s

/-- A CLEAR_HISTORY answered OK empties the history at the capture and keeps the next serial (R175, R193). -/
def takeClear (s : State) : State :=
  let t := capture actingReply s
  if s.port.state == .command && serviceAllowed s then { t with trips.history := [] } else t

/-- CLEAR_HISTORY (R193). -/
def execClearHistory (_arg : BitVec 5) (s : State) : Host.Outcome State Fault Refusal := live takeClear s

/-- The reply to a command octet of code 0 or 7. -/
def unknownReply (_s : State) : Status × List Byte := (.unknown, [])

/-- UNKNOWN (R191). -/
def execUnknown (_seven : Bool) (_arg : BitVec 5) (s : State) : Host.Outcome State Fault Refusal :=
  live (capture unknownReply) s

end Sys2Proof.Machine
end

