-- ==== Sys2Proof/Machine/Ceiling.lean ====
section
/-! DEFINITION. The Ceiling and Supervision Unit's sample work (R112 to R115, R110) and the Ceiling Output Generator
(R116 to R118). -/

namespace Sys2Proof.Machine

/-! ## Sample work (R115) -/

/-- Intervention at the DRIVE with the flag clear (R112). -/
def interveneStep (p : Profile) (s : State) : State :=
  let n := if s.ceiling.limit + p.tInt < s.tracker.speed then s.ceiling.overCount + 1 else 0
  if Config.overSamples ≤ n then
    dropBrake .sb
      { s with ceiling.intervention := true, ceiling.overCount := 0, ceiling.underCount := 0 }
  else { s with ceiling.overCount := n }

/-- Re-lift at the DRIVE with the flag set and re-lift not barred (R113). -/
def reliftStep (s : State) : State :=
  let n := if decide (0 < s.ceiling.line) && decide (s.tracker.speed ≤ s.ceiling.line) then s.ceiling.underCount + 1
    else 0
  if Config.underSamples ≤ n then
    liftBrake .sb { s with ceiling.intervention := false, ceiling.underCount := 0 }
  else { s with ceiling.underCount := n }

/-- Step 3: intervention or re-lift, at the DRIVE in RUNNING. -/
def superviseStep (p : Profile) (s : State) : State :=
  if isDrive s && inState s .running then
    if s.ceiling.intervention then
      if s.ceiling.barred then s else reliftStep s
    else interveneStep p s
  else s

/-- Step 4: OVERSPEED (R114). -/
def overspeedStep (p : Profile) (s : State) : State :=
  if hasEncoder s && moving s && decide (s.ceiling.limit + p.tTrip < s.tracker.speed) then raiseCause .overspeed s
  else s

/-- A comms stop is complete (R110). -/
def commsComplete (s : State) : Bool :=
  inState s .running && stands s && s.ceiling.comms.any (fun r => decide (rampValue s.time.now r = 0))

/-- Step 5: the completion takes the node to DWELL or HOLD (R110, R140). -/
def completeStep (s : State) : State := if commsComplete s then enterState (standingTest s) s else s

/-- Step 2: the supervision limit, at a DRIVE or CAR in RUNNING or STOPPING (R111). -/
def limitStep (s : State) : State := if hasEncoder s && moving s then followLimit s else s

/-- The unit's work at a sample tick: none in STARTING and FAULTED (R103, R115). -/
def ceilingWork (s : State) : State :=
  match s.loader.profile with
  | none => s
  | some p =>
    if inService s then completeStep (overspeedStep p (superviseStep p (limitStep (formCeiling s)))) else s

/-! ## The ceiling output (R116 to R118) -/

/-- The period of a positive line ceiling, µs (R116). -/
def periodOf (c : Nat) : Nat := (Config.outputMicros + c - 1) / c

/-- Microseconds of the high part of a period (R116). -/
def highMicros (p : Nat) : Nat := (p + 1) / 2

/-- Microseconds of the low part of a period (R116). -/
def lowMicros (p : Nat) : Nat := p / 2

/-- Microseconds the present phase lasts; 0 where no period is in progress. -/
def phaseMicros (g : Generator) : Nat :=
  match g.current with
  | none => 0
  | some p => match g.phase with
    | .high => highMicros p
    | .low => lowMicros p

/-- A period begins, high, and no period is pending. -/
def beginPeriod (p : Nat) : Generator where
  current := some p
  next := none
  phase := .high
  micros := 0

/-- The generator takes a value of the line ceiling (R117, R118). -/
def takeCeiling (c : Nat) (g : Generator) : Generator :=
  if c = 0 then Generator.stopped
  else match g.current with
    | none => beginPeriod (periodOf c)
    | some q =>
      if q < periodOf c then beginPeriod (periodOf c)
      else if q = periodOf c then { g with next := none }
      else { g with next := some (periodOf c) }

/-- The 1 µs tick after the ceiling is formed, at the DRIVE. -/
def applyCeiling (s : State) : State :=
  if isDrive s && !inState s .starting then { s with generator := takeCeiling s.ceiling.line s.generator } else s

/-- CEILING_APPLY (R117, R118). -/
def execCeilingApply (s : State) : Host.Outcome State Fault Refusal := live applyCeiling s

/-- The high part has run its microseconds: the output goes low (R116). -/
def endHigh (s : State) : State :=
  if s.generator.current.isSome && s.generator.phase == .high
      && decide (phaseMicros s.generator ≤ s.generator.micros) then
    { s with generator.phase := .low, generator.micros := 0 }
  else s

/-- HIGH_PHASE_END (R116). -/
def execHighPhaseEnd (s : State) : Host.Outcome State Fault Refusal := live endHigh s

/-- The low part has run its microseconds: the pending or the same period begins high (R116, R117). -/
def endPeriod (s : State) : State :=
  match s.generator.current with
  | none => s
  | some p =>
    if s.generator.phase == .low && decide (phaseMicros s.generator ≤ s.generator.micros) then
      { s with generator := beginPeriod (s.generator.next.getD p) }
    else s

/-- PERIOD_END (R116, R117). -/
def execPeriodEnd (s : State) : Host.Outcome State Fault Refusal := live endPeriod s

/-- Microseconds pass at the generator: they count in the present phase, up to its length. -/
def passMicros (n : Nat) (s : State) : State :=
  { s with generator.micros := min (phaseMicros s.generator) (s.generator.micros + n) }

end Sys2Proof.Machine
end

