-- ==== Sys2Proof/Machine/Ticks.lean ====
section
/-! DEFINITION. The ticks: the 1 µs tick of an empty queue, the 1 ms tick and the sample tick (R1, R37, R40, R115, R153). -/

namespace Sys2Proof.Machine

/-! ## What passes with the microseconds (R6, R65, R66, R116) -/

/-- Bit times of the signal line that end within the next microseconds of the millisecond: a bit time ends at every eighth
microsecond (R65; log entry 11). -/
def bitsWithin (n micros : Nat) : Nat := (micros + n) / Config.bitMicros - micros / Config.bitMicros

/-- Bit times pass at the Line Access Unit, which samples the line in each (R65, R66). -/
def passLine (bits : Nat) (s : State) : State :=
  { s with
    access := bitTimes (deferralGap (ownId s)) bits s.inputs.line s.access
    inputs.line := s.inputs.line.drop bits }

/-- Octets of the image that the read in progress clocks in before the loader judges them (R6, R7). -/
def octetsToRead (l : Loader) : Nat := match l.stage with
  | .header => 4
  | .body => l.imageLength
  | .ended => 0

/-- Microseconds pass at the loader: one bit time of the read each, up to the last that it needs (R6). -/
def passLoader (n : Nat) (s : State) : State :=
  if memorySelect s then
    { s with loader.bits := min (max s.loader.bits (readBits (octetsToRead s.loader))) (s.loader.bits + n) }
  else s

/-- Microseconds pass at a part that is not held: in the ceiling output's phase, on the signal line, at the profile
memory. -/
def passTime (n : Nat) (s : State) : State := passLoader n (passLine (bitsWithin n s.time.micros) (passMicros n s))

/-! ## The service port's clock (R190, R191; log entry 16) -/

/-- An octet has been shifted in: in COMMAND it asks for its command, which waits in the queue; in ANSWER an octet of the
answer has gone out; otherwise it is ignored (R190, R191). -/
def endOctet (o : Byte) (s : State) : State :=
  match s.port.state with
  | .command => { s with pending := s.pending ++ [decodeService o] }
  | .answer => { s with port.sent := min (s.port.sent + 1) s.port.answer.length }
  | .mute => s
  | .idle => s

/-- A rising edge of the clock: a bit is shifted in, most significant first, and with the eighth the octet is complete
(R190). -/
def shiftBit (b : Bool) (s : State) : State :=
  if s.port.shift.length < 7 then { s with port.shift := s.port.shift ++ [b] }
  else endOctet (octetHigh (s.port.shift ++ [b])) { s with port.shift := [] }

/-- The maintenance controller clocks the next of its bits, where it has one and selects the port. -/
def clockPort (s : State) : State :=
  match s.inputs.service with
  | [] => s
  | b :: rest => if s.port.selected then shiftBit b { s with inputs.service := rest } else s

/-! ## The 1 µs tick (log entry 3) -/

/-- One microsecond passes, up to the last before the next 1 ms tick: the divider counts, and with it, unless the part is
held, what passes with the microseconds, and the service port's clock. In the hold before a cold start nothing counts. -/
def microTick (s : State) : State :=
  if coldHold s || decide (999 ≤ s.time.micros) then s
  else
    let t : State := if held s then s else clockPort (passTime 1 s)
    { t with time.micros := s.time.micros + 1 }

/-! ## The 1 ms tick (R1) -/

/-- An age after a 1 ms tick (R83). -/
def olderEntry (e : Entry) : Entry :=
  if e.fresh == .empty then e else { e with age := min (e.age + 1) Config.count16Max }

/-- A detector input after a sample (R148). -/
def sampleDetector (pin : Bool) (i : DetectorInput) : DetectorInput :=
  { i with differing := if pin == i.level then 0 else min (i.differing + 1) Config.debounceSamples }

/-- The detector inputs after a sample: only at a LOOP in service (R148). -/
def sampleDetectors (pins : Pins) (s : State) : State :=
  if isLoop s && inService s then
    { s with
      loop.aLow := sampleDetector pins.aLow s.loop.aLow
      loop.aUp := sampleDetector pins.aUp s.loop.aUp
      loop.bLow := sampleDetector pins.bLow s.loop.bLow
      loop.bUp := sampleDetector pins.bUp s.loop.bUp }
  else s

/-- A unit's run of samples that show it applied while it is LIFTED (R162). -/
def sampleFeedback (now : Time) (lifted : Bool) (u : BrakeUnit) : BrakeUnit :=
  if inFeedbackMode u && u.state == .lifted && !lifted then { u with appliedSince := some (u.appliedSince.getD now) }
  else { u with appliedSince := none }

/-- The brake feedbacks after a sample: in every node state after STARTING except FAULTED (R162). -/
def sampleFeedbacks (pins : Pins) (s : State) : State :=
  if inService s then
    { s with
      brakes.eb := sampleFeedback s.time.now pins.ebLifted s.brakes.eb
      brakes.sb := sampleFeedback s.time.now pins.sbLifted s.brakes.sb
      brakes.tb := sampleFeedback s.time.now pins.tbLifted s.brakes.tb }
  else s

/-- The ESTOP run after a sample, from the exit from STARTING on (R167). -/
def sampleEstop (pins : Pins) (s : State) : State :=
  { s with
    inputs.estopReleased :=
      if inState s .starting || pins.estop then 0 else min (s.inputs.estopReleased + 1) Config.debounceSamples }

/-- The weighing gates at a multiple of 100 ms: the one in progress falls due, or the first begins (R29). -/
def gateTick (s : State) : State :=
  if isCar s && s.loader.profile.isSome && !inState s .starting && decide (s.time.now.toNat % 100 = 0) then
    if s.tracker.gateRunning then { s with tracker.gateDue := true }
    else { s with tracker.gateRunning := true, tracker.gateCount := 0 }
  else s

/-- Node time after the 1 ms tick (R1). -/
def advance (s : State) : State :=
  { s with
    time :=
      { now := s.time.now + 1, micros := 0, sampleDue := decide ((s.time.now + 1).toNat % 10 = 0) } }

/-- The samples of a 1 ms tick: the last sample becomes the one before. -/
def samplePins (pins : Pins) (s : State) : State :=
  { s with inputs.previous := s.inputs.pins, inputs.pins := pins }

/-- The 1 ms tick of a part that is not held. -/
def liveTick (pins : Pins) (s : State) : State :=
  let t := samplePins pins (advance (passTime (1000 - s.time.micros) s))
  gateTick (sampleFeedbacks pins (sampleDetectors pins (sampleEstop pins { t with peers := t.peers.map olderEntry })))

/-- The 1 ms tick: in the hold of a warm start only node time runs on, in that of a cold start not even that (R1, R2). -/
def msTick (pins : Pins) (s : State) : State :=
  if coldHold s then samplePins pins s
  else if held s then samplePins pins (advance s)
  else liveTick pins s

/-- MS_TICK (R1). -/
def execMsTick (pins : Pins) (s : State) : Host.Outcome State Fault Refusal := .next (msTick pins s)

/-! ## The sample tick (R37, R40, R115, R153) -/

/-- The work of a sample tick after STARTING, block by block in order (log entry 9). -/
def sampleWork (s : State) : State :=
  judgeClear (sequencerWork (loopWork (ceilingWork (envelopeWork (trackerWork s)))))

/-- The sample tick of the present millisecond. In STARTING it does no work of its own; once the load has ended the step
that it takes is the exit (R15). -/
def sampleTick (s : State) : State :=
  if s.time.sampleDue then
    if inState s .starting then
      if s.loader.stage == .ended then s else { s with time.sampleDue := false }
    else sampleWork { s with time.sampleDue := false }
  else s

/-- SAMPLE_TICK (R37). -/
def execSampleTick (s : State) : Host.Outcome State Fault Refusal := act sampleTick s

end Sys2Proof.Machine
end

