-- ==== Sys2Proof/Machine/Dispatch.lean ====
section
/-! DEFINITION. One arm for each command: the one place that names the meaning of each. -/

namespace Sys2Proof.Machine

/-- The effect of a command on everything but the queue. -/
def exec (i : Instr) (s : State) : Host.Outcome State Fault Refusal :=
  match i with
  | .powerOn x => Sys2Proof.Machine.execPowerOn x s
  | .supplyLow => Sys2Proof.Machine.execSupplyLow s
  | .supplyRecover x => Sys2Proof.Machine.execSupplyRecover x s
  | .resetNAssert => Sys2Proof.Machine.execResetNAssert s
  | .resetNRelease x => Sys2Proof.Machine.execResetNRelease x s
  | .headerRead f r h l => Sys2Proof.Machine.execHeaderRead f r h l s
  | .profileReadDone o m => Sys2Proof.Machine.execProfileReadDone o m s
  | .startingExit => Sys2Proof.Machine.execStartingExit s
  | .msTick p => Sys2Proof.Machine.execMsTick p s
  | .sampleTick => Sys2Proof.Machine.execSampleTick s
  | .quadratureEdge a b => Sys2Proof.Machine.execQuadratureEdge a b s
  | .markerRead c => Sys2Proof.Machine.execMarkerRead c s
  | .weighingGateEnd => Sys2Proof.Machine.execWeighingGateEnd s
  | .estopAssert => Sys2Proof.Machine.execEstopAssert s
  | .estopRelease => Sys2Proof.Machine.execEstopRelease s
  | .ackPress => Sys2Proof.Machine.execAckPress s
  | .dispatchPress d => Sys2Proof.Machine.execDispatchPress d s
  | .standDownPress => Sys2Proof.Machine.execStandDownPress s
  | .standUpPress => Sys2Proof.Machine.execStandUpPress s
  | .doorContactChange => Sys2Proof.Machine.execDoorContactChange s
  | .gateContactChange => Sys2Proof.Machine.execGateContactChange s
  | .detectorRise d => Sys2Proof.Machine.execDetectorRise d s
  | .detectorFall d => Sys2Proof.Machine.execDetectorFall d s
  | .feedbackLifted b => Sys2Proof.Machine.execFeedbackLifted b s
  | .feedbackApplied b => Sys2Proof.Machine.execFeedbackApplied b s
  | .fixedLiftDone b => Sys2Proof.Machine.execFixedLiftDone b s
  | .liftTimeout b => Sys2Proof.Machine.execLiftTimeout b s
  | .holdCheck b => Sys2Proof.Machine.execHoldCheck b s
  | .releaseCheck b => Sys2Proof.Machine.execReleaseCheck b s
  | .beaconDue => Sys2Proof.Machine.execBeaconDue s
  | .attemptStart => Sys2Proof.Machine.execAttemptStart s
  | .lineLost => Sys2Proof.Machine.execLineLost s
  | .attemptComplete => Sys2Proof.Machine.execAttemptComplete s
  | .receiveBadFrame f => Sys2Proof.Machine.execReceiveBadFrame f s
  | .receiveBeacon f => Sys2Proof.Machine.execReceiveBeacon f s
  | .receiveAnnounce f => Sys2Proof.Machine.execReceiveAnnounce f s
  | .entryStale n => Sys2Proof.Machine.execEntryStale n s
  | .entryLost n => Sys2Proof.Machine.execEntryLost n s
  | .armingDeadline => Sys2Proof.Machine.execArmingDeadline s
  | .refusalWindowEnd => Sys2Proof.Machine.execRefusalWindowEnd s
  | .downshift => Sys2Proof.Machine.execDownshift s
  | .standDownDeadline => Sys2Proof.Machine.execStandDownDeadline s
  | .alertPulseEnd => Sys2Proof.Machine.execAlertPulseEnd s
  | .ceilingApply => Sys2Proof.Machine.execCeilingApply s
  | .highPhaseEnd => Sys2Proof.Machine.execHighPhaseEnd s
  | .periodEnd => Sys2Proof.Machine.execPeriodEnd s
  | .serviceSelect => Sys2Proof.Machine.execServiceSelect s
  | .serviceDeselect x => Sys2Proof.Machine.execServiceDeselect x s
  | .status a => Sys2Proof.Machine.execStatus a s
  | .peer k => Sys2Proof.Machine.execPeer k s
  | .trip k => Sys2Proof.Machine.execTrip k s
  | .profile b => Sys2Proof.Machine.execProfile b s
  | .restart a => Sys2Proof.Machine.execRestart a s
  | .clearHistory a => Sys2Proof.Machine.execClearHistory a s
  | .unknown v a => Sys2Proof.Machine.execUnknown v a s
  | .weighingPulseEdge => Sys2Proof.Machine.execWeighingPulseEdge s

end Sys2Proof.Machine
end

