-- ==== Sys2Proof/Safety.lean ====
section
/-! DEFINITION. The terms in which the statements speak: what counts as a safe standing of a node (the gating that the
node states put on the ceiling, vperm, the brakes, the run fields and the class), what a start leaves, and what a trip
leaves. -/

namespace Sys2Proof.Machine

/-- The line ceiling is zero in every node state other than RUNNING (R106). -/
def ceilingGated (s : State) : Bool := inState s .running || s.ceiling.line == 0

/-- vperm is zero outside ARMED and RUNNING (R55). -/
def vpermGated (s : State) : Bool := inState s .armed || inState s .running || s.envelope.vperm == 0

/-- Every brake unit is APPLIED in a node state that takes no lift command and does not follow a run (R158). -/
def brakesGated (s : State) : Bool :=
  inState s .armed || inState s .running || inState s .stopping || allApplied s.brakes

/-- The trip history holds at most 8 records (R175). -/
def historyBounded (s : State) : Bool := decide (s.trips.history.length ≤ Config.tripRecords)

/-- Consecutive records differ by one serial, serial 1 following 65,535 (R175). -/
def serialsRise : List TripRecord → Bool
  | [] => true
  | [_] => true
  | a :: b :: l => decide (b.serial = nextSerialAfter a.serial) && serialsRise (b :: l)

/-- The newest record's serial comes before the next one (R175). -/
def nextFollows (t : TripUnit) : Bool := t.history.getLast?.all (fun r => t.nextSerial == nextSerialAfter r.serial)

/-- The trip history is in ascending serial order, and the next serial continues it (R175). -/
def serialsContinue (s : State) : Bool := serialsRise s.trips.history && nextFollows s.trips

/-- The image store is in its canonical form. -/
def storeSound (s : State) : Bool := Store.wf s.loader.store

/-! ## Gating by node state -/

/-- A line ceiling of 0 leaves the ceiling output with no period: low, DRIVE_EN inactive (R118). -/
def outputGated (s : State) : Bool := s.ceiling.line != 0 || s.generator == Generator.stopped

/-- The run fields show a run only in ARMED, RUNNING and STOPPING, and DISPATCH and CONSENT only in ARMED (R120, R122). -/
def runGated (s : State) : Bool :=
  (inState s .armed || inState s .running || inState s .stopping
      || (s.seq.dir == .none && s.seq.leg.isNone && !s.seq.recovery))
    && (inState s .armed || (!s.seq.dispatch && !s.seq.consent))

/-- The door-lock release and MISALIGNED stand only at a CAR in DWELL, never both, and the gate-lock release stands at a
TERMINAL in DWELL, HOLD, TRIPPED and NIGHT and nowhere else (R141, R143). -/
def locksGated (s : State) : Bool :=
  (!s.seq.doorRelease || (isCar s && inState s .dwell && !s.seq.misaligned))
    && (!s.seq.misaligned || (isCar s && inState s .dwell))
    && s.seq.gateRelease
      == (isTerminal s && (inState s .dwell || inState s .hold || inState s .tripped || inState s .night))

/-- In ARMED the origin state is DWELL or HOLD; in every other state it, the dispatch origin and the arming deadline are none
(R120, R122, R132). -/
def originGated (s : State) : Bool :=
  if inState s .armed then s.seq.origin == some .dwell || s.seq.origin == some .hold
  else s.seq.origin.isNone && s.seq.dispatchOrigin.isNone && s.seq.deadline.isNone

/-- Every gate that a node state puts on what the node lets move. -/
def gatesHold (s : State) : Bool :=
  ceilingGated s && vpermGated s && brakesGated s && outputGated s && runGated s
    && originGated s && locksGated s

/-- The class and the counts of the Class Controller fit the node state: DORMANT exactly in NIGHT, STILL and DEEP_STILL
only in DWELL and HOLD, COMMIT beacons only in NIGHT, a stand-down part only in DWELL and with its id and deadline (R177
to R188). -/
def classHolds (s : State) : Bool :=
  ((s.cls.cls == .dormant) == inState s .night)
    && (s.cls.cls == .run || s.cls.cls == .dormant || resting s)
    && decide (s.cls.wake ≤ 3) && decide (s.cls.commit ≤ 3)
    && (s.cls.commit == 0 || inState s .night)
    && (s.cls.sdRole == .none || (inState s .dwell && s.cls.sdId.isSome && s.cls.sdDeadline.isSome))

/-- What the node's frames carry fits their layout (R67): the profile's parameters lie in their ranges and its node count in
an octet, a node without a profile is in STARTING or FAULTED, and speed, vperm, load and the cause of a peer-trip origin lie
in their fields (R10, R15, R19, R30, R53, R168). -/
def fieldsFit (s : State) : Bool :=
  s.loader.profile.all (fun p => rangesHold p && decide (p.nodes.length ≤ 255))
    && (s.loader.profile.isSome || inState s .starting || inState s .faulted)
    && decide (s.tracker.speed ≤ 1400) && decide (s.envelope.vperm ≤ 1400) && decide (s.tracker.load.getD 0 ≤ 20000)
    && s.trips.origin.all (fun o => decide (causeCode o.2 ≤ 12))

/-- The trip history is well formed, its next serial is a serial, the image store is in its canonical form, and what frames
carry fits their layout. -/
def recordsHold (s : State) : Bool :=
  historyBounded s && serialsContinue s && decide (1 ≤ s.trips.nextSerial) && decide (s.trips.nextSerial ≤ 65535)
    && storeSound s && fieldsFit s

/-! ## The hold and the starts (R2, R3) -/

/-- Every output is at its inactive level (R2, R3). -/
def outputsInactive (s : State) : Bool :=
  !driveEn s && !ceilingOut s && !liftOutput s .eb && !liftOutput s .sb && !liftOutput s .tb && !doorReleaseOut s
    && !gateReleaseOut s && !alertOut s && goLamp s == .off && stopLamp s == .off && !memorySelect s
    && lineOut s == .recessive

/-- The command is one that a block takes: every command but those of the supply, RESET_N, the clock, the encoder channels
and the select input. -/
def forBlocks : Instr → Bool
  | .powerOn _ => false
  | .supplyLow => false
  | .supplyRecover _ => false
  | .resetNAssert => false
  | .resetNRelease _ => false
  | .msTick _ => false
  | .quadratureEdge _ _ => false
  | .serviceSelect => false
  | .serviceDeselect _ => false
  | .headerRead _ _ _ _ => true
  | .profileReadDone _ _ => true
  | .startingExit => true
  | .sampleTick => true
  | .markerRead _ => true
  | .weighingGateEnd => true
  | .estopAssert => true
  | .estopRelease => true
  | .ackPress => true
  | .dispatchPress _ => true
  | .standDownPress => true
  | .standUpPress => true
  | .doorContactChange => true
  | .gateContactChange => true
  | .detectorRise _ => true
  | .detectorFall _ => true
  | .feedbackLifted _ => true
  | .feedbackApplied _ => true
  | .fixedLiftDone _ => true
  | .liftTimeout _ => true
  | .holdCheck _ => true
  | .releaseCheck _ => true
  | .beaconDue => true
  | .attemptStart => true
  | .lineLost => true
  | .attemptComplete => true
  | .receiveBadFrame _ => true
  | .receiveBeacon _ => true
  | .receiveAnnounce _ => true
  | .entryStale _ => true
  | .entryLost _ => true
  | .armingDeadline => true
  | .refusalWindowEnd => true
  | .downshift => true
  | .standDownDeadline => true
  | .alertPulseEnd => true
  | .ceilingApply => true
  | .highPhaseEnd => true
  | .periodEnd => true
  | .status _ => true
  | .peer _ => true
  | .trip _ => true
  | .profile _ => true
  | .restart _ => true
  | .clearHistory _ => true
  | .unknown _ _ => true
  | .weighingPulseEdge => true

/-- What the beginning of every start leaves, whatever its kind: the straps read, the reset cause held, the load not yet
begun, no peer, no run, every block at the values its chapter gives both kinds of start. The state before is `s`; the
select input is active or not. -/
def startBegun (cause : ResetCause) (straps : Straps) (selected : Bool) (s t : State) : Prop :=
  t.power.hold = none ∧ t.pending = s.pending
    ∧ t.inputs =
      { State.reset.inputs with
        pins := s.inputs.pins
        previous := s.inputs.previous
        line := s.inputs.line
        service := s.inputs.service }
    ∧ t.loader =
      { State.reset.loader with
        straps := { role := straps.role, side := heldSide straps.role straps.side, id := straps.id }
        resetCause := cause
        store := t.loader.store }
    ∧ t.access = State.reset.access ∧ t.peers = []
    ∧ t.tracker =
      { State.reset.tracker with
        first := s.tracker.first
        second := s.tracker.second
        delta := t.tracker.delta
        illegal := t.tracker.illegal
        counts := t.tracker.counts
        quality := t.tracker.quality }
    ∧ t.envelope = State.reset.envelope ∧ t.ceiling = State.reset.ceiling ∧ t.generator = Generator.stopped
    ∧ t.seq = { State.reset.seq with run := t.seq.run } ∧ t.loop = State.reset.loop
    ∧ t.brakes =
      { eb := BrakeUnit.start t.time.now, sb := BrakeUnit.start t.time.now, tb := BrakeUnit.start t.time.now }
    ∧ t.trips = { State.reset.trips with history := t.trips.history, nextSerial := t.trips.nextSerial }
    ∧ t.cls = State.reset.cls
    ∧ t.port =
      { selected := selected, state := if selected then .mute else .idle, shift := [], answer := [], sent := 0
        restart := false }

/-- What a cold start leaves: nothing is retained, and the Time Base begins again (R1, R2). -/
def coldlyBegun (t : State) : Prop :=
  t.time = { now := 0, micros := 0, sampleDue := false } ∧ t.loader.store = [] ∧ t.tracker.delta = 0
    ∧ t.tracker.illegal = false ∧ t.tracker.counts = 0 ∧ t.tracker.quality = .none ∧ t.seq.run = 0
    ∧ t.trips.history = [] ∧ t.trips.nextSerial = 1

/-- What a warm start retains: the Time Base, the image store, the position with MARKED lowered to RECKONED, the counts
gathered at a role with an encoder, the run number and the trip history (R1, R22, R175). -/
def warmlyBegun (straps : Straps) (s t : State) : Prop :=
  t.time = s.time ∧ t.loader.store = s.loader.store ∧ t.tracker.counts = s.tracker.counts
    ∧ t.tracker.quality = (if s.tracker.quality = .marked then .reckoned else s.tracker.quality)
    ∧ ((straps.role = .drive ∨ straps.role = .car) →
        t.tracker.delta = s.tracker.delta ∧ t.tracker.illegal = s.tracker.illegal)
    ∧ t.seq.run = s.seq.run ∧ t.trips.history = s.trips.history ∧ t.trips.nextSerial = s.trips.nextSerial

/-! ## Requests and trips (R75, R164 to R175) -/

/-- An immediate beacon is asked for: the pending-beacon mark stands, or a BEACON in hand waits for its gap, which will
carry the contents of the moment it starts (R75). -/
def beaconAsked (t : State) : Bool :=
  t.access.pendingBeacon || (t.access.tx == .deferring && t.access.inHand == some .beacon)

/-- The records that remain when one more is appended: the oldest of eight makes room (R175). -/
def keptRecords (s : State) : List TripRecord :=
  if 8 ≤ s.trips.history.length then s.trips.history.drop 1 else s.trips.history

/-- The history has grown by one record, which took the next serial (R174, R175). -/
def appended (r : TripRecord) (s t : State) : Bool :=
  t.trips.history == keptRecords s ++ [r]
    && t.trips.nextSerial == (if 65535 ≤ s.trips.nextSerial then 1 else s.trips.nextSerial + 1)

/-- The record of a first cause, with everything as it stood in `s` (R174). -/
def firstRecord (c : Cause) (origin : Option (NodeId × Cause)) (s : State) : TripRecord where
  serial := s.trips.nextSerial
  time := s.time.now
  cause := c
  secondary := false
  origin := origin
  state := s.seq.state
  run := s.seq.run
  position := shownPosition s
  quality := shownQuality s
  speed := shownSpeed s
  motion := shownMotion s
  ceiling := s.ceiling.line
  vperm := s.envelope.vperm

/-- What every entry to TRIPPED leaves: every unit applied, ceiling, limit, vperm and run fields cleared, the ceiling output
stopped, class RUN, an immediate beacon asked for (R122, R123, R165). -/
def standsTripped (t : State) : Bool :=
  inState t .tripped && allApplied t.brakes && t.ceiling.line == 0 && t.ceiling.limit == 0 && t.envelope.vperm == 0
    && t.generator == Generator.stopped && t.seq.dir == .none && t.seq.leg.isNone && !t.seq.recovery
    && !t.seq.dispatch && !t.seq.consent && t.cls.cls == .run && t.tracker.stillRef.isNone && beaconAsked t

/-- The node has tripped on an own cause out of another state (R165). -/
def tripsOn (c : Cause) (s t : State) : Bool :=
  standsTripped t && t.trips.primary == some c && t.trips.own == addCause c s.trips.own
    && t.trips.origin == s.trips.origin && appended (firstRecord c none s) s t

/-- A further own cause has joined in TRIPPED (R166). -/
def joinsTrip (c : Cause) (s t : State) : Bool :=
  inState t .tripped && t.trips.primary == s.trips.primary && t.trips.own == addCause c s.trips.own
    && t.trips.origin == s.trips.origin
    && appended { firstRecord c none s with secondary := true, ceiling := 0, vperm := 0 } s t

/-- An own cause has been raised: a trip, or a secondary record in TRIPPED (R165, R166). -/
def causeTaken (c : Cause) (s t : State) : Bool := if inState s .tripped then joinsTrip c s t else tripsOn c s t

/-- A wake event has been taken: class RUN, WAKE count 3, no stand-down part, an immediate beacon asked for unless the
class was RUN with its count full already (R180). -/
def woken (s t : State) : Bool :=
  t.cls.cls == .run && t.cls.wake == 3 && t.cls.sdRole == .none
    && (beaconAsked t || (s.cls.cls == .run && decide (3 ≤ s.cls.wake)))

/-- The stops of a CAR's own table within W_stop of its reported position (R121, R141). -/
def stopsNear (p : Profile) (s : State) : List Stop :=
  (ownStops s p).filter fun k => decide (((k.position : Int) - reported s p).natAbs ≤ p.wStop)

/-- A CAR is at none of its stops: the quality is NONE or no stop of its table is within W_stop (R141). -/
def awayFromStops (p : Profile) (s : State) : Bool := !located s || (stopsNear p s).isEmpty

/-- The own distance to stop is absent or its magnitude exceeds W_stop (R64, R141). -/
def stoppedWide (p : Profile) (s : State) : Bool := (ownDistance s).all fun d => decide (p.wStop < d.natAbs)

/-- What a CAR that has entered DWELL shows (R141): MISALIGNED as told; no door-lock release with it or with no stop within
W_stop; the release at a stop without the loop flag; at the loop stop, the release exactly while the LOOP's FRESH record shows
the own track OCCUPIED. Which of two stops with different loop flags in one window counts is not told (log entry 19). -/
def doorJudged (misaligned : Bool) (p : Profile) (s : State) : Bool :=
  !(isCar s && inState s .dwell)
    || (s.seq.misaligned == misaligned
      && (if misaligned || (stopsNear p s).isEmpty then !s.seq.doorRelease
        else if (stopsNear p s).all (fun k => k.loopFlag != 1) then s.seq.doorRelease
        else !(stopsNear p s).all (fun k => k.loopFlag == 1) || s.seq.doorRelease == loopShowsOccupied s))

/-- A state in which a wake event is taken (R180). -/
def wakes (s : State) : Bool := !(inState s .starting || inState s .night || inState s .faulted)

/-- After a frame end: the receive buffer and its marks are empty, and nothing sent waits for its readback (R66, R79). -/
def frameEnded (s : State) : State :=
  { s with access.rxBuffer := [], access.rxFramingError := false, access.rxOverlong := false, access.sent := [] }

/-- A frame has ended at a part that is not held: it is what the buffer holds, with its marks, and the idle count has reached
20 (R66). -/
def frameEnds (f : RxFrame) (s : State) : Bool :=
  !held s && decide (20 ≤ s.access.idleCount) && s.access.rxBuffer != [] && s.access.rxBuffer == f.octets
    && s.access.rxFramingError == f.framingError && s.access.rxOverlong == f.overlong

/-- A well checked frame of a kind has ended, from a listed peer other than the node itself, at a node that judges frames
(R77, R79, R80). -/
def framed (k : FrameKind) (f : RxFrame) (e : Entry) (s : State) : Bool :=
  frameEnds f s && !inState s .starting && wellChecked f == some k && sourceId f.octets != ownId s
    && s.loader.profile.isSome && entryOf s (sourceId f.octets) == some e

/-- The receive command of a kind, for a frame. -/
def receiveOf (f : RxFrame) : FrameKind → Instr
  | .beacon => .receiveBeacon f
  | .announce => .receiveAnnounce f

/-- A BEACON from a listed peer whose entry is FRESH has ended and is accepted, its fields `r` (R86, R87). -/
def acceptedFresh (f : RxFrame) (e : Entry) (p : Profile) (r : BeaconRec) (s : State) : Bool :=
  framed .beacon f e s && s.loader.profile == some p && parseBeacon p.length p.wMax f.octets == some r
    && sequenceAccepts e (frameSeq f.octets) && e.fresh == .fresh

/-- The state with the entry of an accepted BEACON renewed (R87). -/
def renewed (f : RxFrame) (e : Entry) (r : BeaconRec) (s : State) : State :=
  { s with peers := s.peers.map fun x => if x.id = e.id then beaconEntry (frameSeq f.octets) r e else x }

/-- The position counts after the take of a sample tick, with everything else as it stood (R18, R21). -/
def afterTake (p : Profile) (s : State) : State :=
  { s with tracker.counts := sat32 (s.tracker.counts + takenDelta s p) }

/-- The stand-down part belongs to the node state: none outside DWELL (`ClassFitsTheState`). -/
def partFits (s : State) : Bool := s.cls.sdRole == .none || inState s .dwell

/-- A lift of a fitted unit completes by a command: its feedback shows lifted, or its fixed time has passed (R160). -/
def liftDue (c : Instr) (b : BrakeId) (s : State) : Bool :=
  hasBrake (role s) b && (brakeUnit s.brakes b).state == .lifting
    && ((c == .feedbackLifted b && (brakeUnit s.brakes b).mode == some .feedback && feedbackPin s.inputs.pins b)
        || (c == .fixedLiftDone b && fixedTimePassed s.time.now (brakeUnit s.brakes b)))

/-- The role has the unit, it is in FEEDBACK mode, and the node checks its feedback (R162). -/
def checkedUnit (b : BrakeId) (s : State) : Bool :=
  hasBrake (role s) b && inService s && (brakeUnit s.brakes b).mode == some .feedback

end Sys2Proof.Machine
end

