-- ==== Sys2Proof/Certificates/Slice0/Obligations.lean ====
section
/-! DEFINITION. The statements for the provers. OBLIGATIONS.json gives each its title, tier, kind and basis. -/

open Sys2Proof Sys2Proof.Machine

/-! ## The queue and the hold -/

/-- The command at the front of the queue is taken, with the rest left waiting. -/
def Obligations.StepTakesTheFrontCommand : Prop :=
  ∀ (c : Instr) (rest : List Instr) (s : State),
    s.pending = c :: rest → step s = exec c { s with pending := rest }

/-- The model's choice (log entries 3, 11 and 16): with no command waiting a microsecond passes, up to the last before the
next 1 ms tick, and nothing in a part that is held but the divider. It counts in the ceiling output's phase and in the read
of the profile memory; at every eighth one a bit time of the signal line ends; and the maintenance controller clocks one
bit at the selected port, of which the eighth completes an octet: the octet asks for its command in COMMAND, and is one of
the answer in ANSWER (R6, R65, R66, R116, R190, R191). -/
def Obligations.EmptyQueueCountsAMicrosecond : Prop :=
  ∀ (s : State), s.pending = [] → ∃ t, step s = .next t
    ∧ ((coldHold s = true ∨ 999 ≤ s.time.micros) → t = s)
    ∧ (coldHold s = false → s.time.micros < 999 → held s = true → t = { s with time.micros := s.time.micros + 1 })
    ∧ (held s = false → s.time.micros < 999 →
        t =
          { s with
            time.micros := s.time.micros + 1
            generator.micros := min (phaseMicros s.generator) (s.generator.micros + 1)
            access := t.access
            inputs.line := t.inputs.line
            inputs.service := t.inputs.service
            loader.bits :=
              if memorySelect s = true then min (max s.loader.bits (readBits (octetsToRead s.loader))) (s.loader.bits + 1)
              else s.loader.bits
            port := t.port
            pending := t.pending }
        ∧ (if (s.time.micros + 1) % 8 = 0 then
            t.access = bitTime (30 + 12 * (ownId s).val) (s.inputs.line.headD .recessive) s.access
              ∧ t.inputs.line = s.inputs.line.tail
          else t.access = s.access ∧ t.inputs.line = s.inputs.line)
        ∧ ((s.port.selected = false ∨ s.inputs.service = []) →
            t.port = s.port ∧ t.inputs.service = s.inputs.service ∧ t.pending = [])
        ∧ (∀ b ∈ s.inputs.service.head?, s.port.selected = true →
            t.inputs.service = s.inputs.service.tail
            ∧ (if s.port.shift.length < 7 then
                t.port = { s.port with shift := s.port.shift ++ [b] } ∧ t.pending = []
              else
                t.port =
                  { s.port with
                    shift := []
                    sent :=
                      if s.port.state = .answer then min (s.port.sent + 1) s.port.answer.length else s.port.sent }
                ∧ t.pending =
                  (if s.port.state = .command then [decodeService (octetHigh (s.port.shift ++ [b]))] else []))))

/-- Every command is carried out: it answers a next state and leaves the queue alone. -/
def Obligations.EveryCommandCompletes : Prop :=
  ∀ (c : Instr) (s : State), ∃ t, exec c s = .next t ∧ t.pending = s.pending

/-- The hold: while the part is held every output is inactive and no block acts; a supply that falls fixes a cold cause,
RESET_N a warm one unless a cold cause stands already; and while RESET_N is asserted or the supply is low the end of the
other event begins no start (R2). That the state of the blocks stands as it was during the hold, and that POWER_ON is taken
in any state, is the model's choice (log entry 13). -/
def Obligations.HoldKeepsThePart : Prop :=
  ∀ (c : Instr) (x : Straps) (s : State),
    (held s = true → outputsInactive s = true ∧ (forBlocks c = true → exec c s = .next s))
    ∧ exec .supplyLow s =
        .next { s with power := { supplyLow := true, resetLow := s.power.resetLow, hold := some .coldSupply } }
    ∧ exec .resetNAssert s =
        .next
          { s with
            power :=
              { supplyLow := s.power.supplyLow
                resetLow := true
                hold := if s.power.hold = none then some .warmLine else s.power.hold } }
    ∧ (s.power.resetLow = true → exec (.powerOn x) s =
      .next { s with power := { supplyLow := false, resetLow := true, hold := some .coldPower } })
    ∧ (s.power.resetLow = true → s.power.supplyLow = true → exec (.supplyRecover x) s =
      .next { s with power := { supplyLow := false, resetLow := true, hold := some .coldSupply } })
    ∧ (s.power.resetLow = true → s.power.supplyLow = true → exec (.resetNRelease x) s =
      .next { s with power := { supplyLow := true, resetLow := false, hold := s.power.hold } })

/-- A cold start, after power-on, a recovered supply, or a RESET_N released in a hold of a cold cause: everything at its
cold value (R2, R3 and the tables of values at the two kinds of start). That POWER_ON is taken in any state is the model's
choice (log entry 13). -/
def Obligations.ColdStartBeginsAfresh : Prop :=
  ∀ (c : Instr) (x : Straps) (cause : ResetCause) (s : State),
    ((c = .powerOn x ∧ cause = .coldPower ∧ s.power.resetLow = false)
      ∨ (c = .supplyRecover x ∧ cause = .coldSupply ∧ s.power.supplyLow = true ∧ s.power.resetLow = false)
      ∨ (c = .resetNRelease x ∧ s.power.resetLow = true ∧ s.power.supplyLow = false ∧ s.power.hold = some cause
          ∧ (cause = .coldPower ∨ cause = .coldSupply))) →
    ∃ t, exec c s = .next t ∧ startBegun cause x s.port.selected s t ∧ coldlyBegun t
      ∧ t.power.supplyLow = false ∧ t.power.resetLow = false

/-- A warm start, after RESET_N or an accepted RESTART: as a cold one, but for what each chapter retains (R2, R3, R22,
R193 and the tables of values at the two kinds of start). That the deselection begins it whatever part of the answer to
RESTART was sent is the model's choice (log entry 52). -/
def Obligations.WarmStartRetains : Prop :=
  ∀ (c : Instr) (x : Straps) (cause : ResetCause) (s : State),
    ((c = .resetNRelease x ∧ cause = .warmLine ∧ s.power.resetLow = true ∧ s.power.supplyLow = false
        ∧ s.power.hold = some .warmLine)
      ∨ (c = .serviceDeselect x ∧ cause = .warmService ∧ held s = false ∧ s.port.selected = true
          ∧ s.port.restart = true)) →
    ∃ t, exec c s = .next t ∧ startBegun cause x (cause = .warmLine && s.port.selected) s t ∧ warmlyBegun x s t

/-! ## The load and the exit from STARTING -/

/-- A read begins with the memory select active and the read instruction 0x03 and a two-octet offset of 0, most significant
bit first; the header is held in the store, and its format code and image length are judged; the select stays active
exactly while the read goes on (R6, R7). That the held length is 4 while the read goes on is the model's choice (log entry
29). -/
def Obligations.HeaderIsHeldAndJudged : Prop :=
  ∀ (f r h l : Byte) (a : Nat) (s : State),
    held s = false → s.seq.state = .starting → s.loader.stage = .header →
    memorySelect s = true
    ∧ (s.loader.bits < 24 → memoryOut s = some (decide (s.loader.bits = 6 ∨ s.loader.bits = 7)))
    ∧ (24 ≤ s.loader.bits → memoryOut s = none)
    ∧ ∃ t, exec (.headerRead f r h l) s = .next t
      ∧ t = { s with loader := t.loader, time.sampleDue := t.time.sampleDue }
      ∧ t.loader =
        { s.loader with
          store := t.loader.store
          heldLength := 4
          bits := 56
          outcome := t.loader.outcome
          stage := t.loader.stage
          imageLength := t.loader.imageLength }
      ∧ Store.take t.loader.store 4 = [f, r, h, l]
      ∧ (4 ≤ a → Store.read t.loader.store a = Store.read s.loader.store a)
      ∧ (if f ≠ 0x2C#8 then t.loader.outcome = .profileAbsent ∧ memorySelect t = false
        else if h.toNat * 256 + l.toNat < 106 ∨ 512 < h.toNat * 256 + l.toNat then
          t.loader.outcome = .profileCheck ∧ memorySelect t = false
        else t.loader.outcome = s.loader.outcome ∧ t.loader.stage = .body ∧ memorySelect t = true
          ∧ t.loader.imageLength = h.toNat * 256 + l.toNat)

/-- An image that fails its check sequence, its validation or the comparison with the straps ends the load with the
outcome of that failure; it stays in the store, and no profile is handed off (R7, R9 to R13). -/
def Obligations.BadImageEndsTheLoad : Prop :=
  ∀ (octets : List Byte) (m : Option (BitVec 5)) (s : State),
    held s = false → s.seq.state = .starting → s.loader.stage = .body →
    s.loader.imageLength = octets.length + 4 → s.loader.imageLength ≤ 512 →
    (imageChecks (Store.take s.loader.store 4 ++ octets) = false
      ∨ (validProfile (Store.take s.loader.store 4 ++ octets)).all
          (fun p => (ownEntry p s.loader.straps).isNone) = true) →
    ∃ t, exec (.profileReadDone octets m) s = .next t
      ∧ t = { s with loader := t.loader, time.sampleDue := false }
      ∧ t.loader =
        { s.loader with
          store := t.loader.store
          heldLength := s.loader.imageLength
          bits := 8 * (s.loader.imageLength + 3)
          stage := .ended
          outcome :=
            if imageChecks (Store.take s.loader.store 4 ++ octets) = false then .profileCheck
            else if (validProfile (Store.take s.loader.store 4 ++ octets)).isNone then .profileContent
            else .roleMismatch }
      ∧ Store.take t.loader.store s.loader.imageLength = Store.take s.loader.store 4 ++ octets

/-- A valid image that agrees with the straps is handed off: outcome, fingerprint and revision held, peer table built, lift
modes and b_eff given, an ANNOUNCE asked for, the counts gathered folded in, and at a CAR resting over a marker the read
taken (R14, R22, R63, R81). That the counts of that read saturate is the model's choice (log entry 30). -/
def Obligations.GoodImageIsHandedOff : Prop :=
  ∀ (octets : List Byte) (m : Option (BitVec 5)) (p : Profile) (s : State),
    held s = false → s.seq.state = .starting → s.loader.stage = .body →
    s.loader.imageLength = octets.length + 4 → s.loader.imageLength ≤ 512 →
    imageChecks (Store.take s.loader.store 4 ++ octets) = true →
    validProfile (Store.take s.loader.store 4 ++ octets) = some p →
    (ownEntry p s.loader.straps).isSome = true →
    ∃ t, exec (.profileReadDone octets m) s = .next t
      ∧ t =
        { s with
          time.sampleDue := false
          loader := t.loader
          access.pendingAnnounce := true
          peers := buildPeers p (ownId s)
          tracker := t.tracker
          envelope.bEff := some p.bFloor
          brakes.eb.mode := if isDrive s then some p.liftEB else none
          brakes.sb.mode := if isDrive s then some p.liftSB else none
          brakes.tb.mode := if isCar s then some p.liftTB else none }
      ∧ t.loader =
        { s.loader with
          store := t.loader.store
          heldLength := s.loader.imageLength
          bits := 8 * (s.loader.imageLength + 3)
          stage := .ended
          outcome := .loaded
          fingerprint := storedCheck (Store.take s.loader.store 4 ++ octets)
          revision := p.revision
          profile := some p }
      ∧ Store.take t.loader.store s.loader.imageLength = Store.take s.loader.store 4 ++ octets
      ∧ (hasEncoder s = false → t.tracker = s.tracker)
      ∧ (hasEncoder s = true → t.tracker.delta = 0 ∧ t.tracker.illegal = false)
      ∧ (hasEncoder s = true → (isCar s = false ∨ m = none) →
          t.tracker.counts = sat32 (s.tracker.counts + invertedDelta s p) ∧ t.tracker.quality = s.tracker.quality)
      ∧ (isCar s = true → ∀ c ∈ m, ∀ k ∈ markerOf s p c.toNat,
          (s.tracker.quality = .none
            ∨ ((k.position : Int) - sat32 (s.tracker.counts + invertedDelta s p) * 100 / (p.cpmOdo : Int)).natAbs
                ≤ p.wMark) →
          t.tracker.quality = .marked ∧ t.tracker.lastMatched = some k
            ∧ t.tracker.counts = sat32 (k.position * p.cpmOdo / 100 : Nat))

/-- The peer table holds an entry for each listed node but the node itself, in ascending order of id, with the role and
side listed, EMPTY, UNVERIFIED, age 65,535 and nothing held (R81, R82). -/
def Obligations.PeerTableFollowsTheList : Prop :=
  ∀ (p : Profile) (own : NodeId),
    nodesHold p = true → p.nodes.any (fun n => n.id == own.val) = true →
    (buildPeers p own).length + 1 = p.nodes.length
      ∧ ((buildPeers p own).map (fun e => e.id.val)).Pairwise (· < ·)
      ∧ ∀ e ∈ buildPeers p own,
          e.id ≠ own ∧ e.fresh = .empty ∧ e.verif = .unverified ∧ e.age = 65535 ∧ e.cls = none ∧ e.lastSeq = none
            ∧ e.beacon = none ∧ e.announce = none ∧ e.owed = false
            ∧ p.nodes.any (fun n => n.id == e.id.val && n.role == e.role && n.side == e.side) = true

/-- At the first sample tick after the load a node with its profile leaves STARTING: a DRIVE or CAR for DWELL where its
position in centimetres is known and within W_stop of a stop, for HOLD otherwise; a TERMINAL for DWELL; a LOOP for DWELL,
where each active detector counts as a rise. With no peer heard and both tracks CLEAR as the start left them, one active
detector puts its track in ENTERING at that end, two of one track, LOW taken before UP, raise LOOP_SEQUENCE and leave it
ENTERING at UP, and the LOOP is TRIPPED by such a pair or by ESTOP and by nothing else. The inputs are taken as they stand,
an ESTOP that is asserted trips the node at once, a CAR in DWELL is not MISALIGNED and releases its door as `doorJudged`
tells, and the first BEACON falls due (R4, R15, R22, R74, R141, R148 to R152, R167). -/
def Obligations.LoadedNodeLeavesStarting : Prop :=
  ∀ (p : Profile) (s : State),
    held s = false → s.seq.state = .starting → s.time.sampleDue = true → s.loader.stage = .ended →
    s.loader.profile = some p → standstill s = false → s.trips.estop = false →
    ∃ t, exec .startingExit s = .next t
      ∧ t =
        { s with
          time.sampleDue := false
          inputs := { s.inputs with
            previous := s.inputs.pins
            doorTaken := s.inputs.pins.doorShut
            gateTaken := s.inputs.pins.gateShut }
          access := t.access
          tracker := t.tracker
          envelope := t.envelope
          ceiling := t.ceiling
          generator := t.generator
          seq := t.seq
          loop := t.loop
          brakes := t.brakes
          trips := t.trips
          cls := t.cls }
      ∧ (hasEncoder s = true →
          t.seq.state =
              (if s.inputs.pins.estop = true then .tripped
                else if located s = true
                    ∧ (ownStops s p).any
                        (fun k => decide (((k.position : Int) - positionCm t p).natAbs ≤ p.wStop)) = true then .dwell
                else .hold)
            ∧ t.tracker.counts = sat32 (s.tracker.counts + invertedDelta s p) ∧ t.tracker.delta = 0)
      ∧ (isTerminal s = true → t.seq.state = (if s.inputs.pins.estop = true then .tripped else .dwell))
      ∧ (isLoop s = true → t.seq.state = .dwell ∨ t.seq.state = .tripped)
      ∧ (isLoop s = true → s.loop = State.reset.loop → s.peers.all (fun e => e.fresh == .empty) = true →
          (∀ x ∈ [Side.a, Side.b],
            track t.loop x =
              (match detectorPin s.inputs.pins { track := x, atEnd := .low },
                  detectorPin s.inputs.pins { track := x, atEnd := .up } with
                | true, false => { occ := .entering, last := some .low, unconfirmed := true }
                | _, true => { occ := .entering, last := some .up, unconfirmed := true }
                | false, false => { occ := .clear, last := none, unconfirmed := true }))
          ∧ (if (s.inputs.pins.aLow = true ∧ s.inputs.pins.aUp = true)
                ∨ (s.inputs.pins.bLow = true ∧ s.inputs.pins.bUp = true) then
              t.seq.state = .tripped ∧ t.trips.own.contains .loopSequence = true
            else t.seq.state = (if s.inputs.pins.estop = true then .tripped else .dwell)
              ∧ (s.inputs.pins.estop = false → t.trips = s.trips)))
      ∧ (s.inputs.pins.estop = true →
          t.seq.state = .tripped ∧ t.trips.estop = true ∧ t.trips.own.contains .stopInput = true)
      ∧ (isLoop s = true → t.loop.aLow.level = s.inputs.pins.aLow ∧ t.loop.aUp.level = s.inputs.pins.aUp
          ∧ t.loop.bLow.level = s.inputs.pins.bLow ∧ t.loop.bUp.level = s.inputs.pins.bUp)
      ∧ (isLoop s = false → t.loop = s.loop)
      ∧ (isLoop s = false → s.inputs.pins.estop = false → t.trips = s.trips)
      ∧ t.access.lastAttempt = some s.time.now ∧ beaconAsked t = true ∧ doorJudged false p t = true
      ∧ allApplied t.brakes = true ∧ t.ceiling.line = 0 ∧ t.envelope.vperm = 0

/-- A node whose load failed leaves STARTING for FAULTED, with the fault cause of the outcome, its record, every unit
applied, ALERT active, and an ANNOUNCE and a BEACON asked for (R15, R16, R76, R173, R176). -/
def Obligations.FailedLoadFaults : Prop :=
  ∀ (o : LoadOutcome) (c : Cause) (s : State),
    held s = false → s.seq.state = .starting → s.time.sampleDue = true → s.loader.stage = .ended →
    s.loader.profile = none → s.loader.outcome = o →
    ((o = .profileAbsent ∧ c = .profileAbsent) ∨ (o = .profileCheck ∧ c = .profileCheck)
      ∨ (o = .profileContent ∧ c = .profileContent) ∨ (o = .roleMismatch ∧ c = .roleMismatch)) →
    ∃ t, exec .startingExit s = .next t ∧ t.seq.state = .faulted ∧ t.seq.faultCause = some c
      ∧ t.trips.own = [] ∧ t.trips.primary = none ∧ t.trips.origin = none
      ∧ appended
          { firstRecord c none s with
            position := if hasEncoder s then some 0 else none
            quality := .none } s t = true
      ∧ allApplied t.brakes = true ∧ t.ceiling.line = 0 ∧ t.envelope.vperm = 0 ∧ t.access.pendingAnnounce = true
      ∧ t.access.pendingBeacon = true ∧ alertOut t = true
      ∧ t.power = s.power ∧ t.loader = s.loader ∧ t.peers = s.peers ∧ t.loop = s.loop ∧ t.port = s.port
      ∧ t.tracker = { s.tracker with stillRef := none } ∧ t.time = { s.time with sampleDue := false }

/-! ## The ticks -/

/-- The 1 ms tick: node time advances, every entry but an EMPTY one ages, the inputs are sampled, and what was left of the
millisecond passes in the ceiling output's phase, in the read of the profile memory and, bit time by bit time, on the
signal line. At a multiple of 100 ms a weighing gate in progress falls due at a CAR with its profile, or the first begins;
each detector of a LOOP counts the samples that differ from its level, and each LIFTED unit in FEEDBACK mode holds since when
its samples have shown applied. In the hold of a warm start only node time and the levels move, in that of a cold start only
the levels (R1, R2, R6, R29, R65, R66, R83, R148, R162, R167). How the microseconds and the bit times pass is the model's
choice (log entries 2, 3 and 11). -/
def Obligations.MillisecondTickAdvances : Prop :=
  ∀ (pins : Pins) (s : State), ∃ t, exec (.msTick pins) s = .next t
    ∧ t =
      { s with
        time := t.time
        inputs :=
          { s.inputs with
            pins := pins
            previous := s.inputs.pins
            estopReleased := t.inputs.estopReleased
            line := t.inputs.line }
        loader.bits := t.loader.bits
        access := t.access
        peers := t.peers
        tracker := t.tracker
        generator.micros := t.generator.micros
        loop := t.loop
        brakes := t.brakes }
    ∧ t.time =
      (if coldHold s = true then s.time
        else { now := s.time.now + 1, micros := 0, sampleDue := decide ((s.time.now + 1).toNat % 10 = 0) })
    ∧ t.peers =
      (if held s = true then s.peers
        else s.peers.map (fun e =>
          { e with age := if e.fresh = .empty then e.age else min (e.age + 1) 65535 }))
    ∧ (if held s = true then
        t.loop = s.loop ∧ t.brakes = s.brakes ∧ t.tracker = s.tracker ∧ t.generator = s.generator
          ∧ t.loader = s.loader ∧ t.access = s.access ∧ t.inputs.line = s.inputs.line
          ∧ t.inputs.estopReleased = s.inputs.estopReleased
      else
        t.generator.micros = min (phaseMicros s.generator) (s.generator.micros + (1000 - s.time.micros))
          ∧ t.access =
            bitTimes (30 + 12 * (ownId s).val) (125 - s.time.micros / 8) s.inputs.line s.access
          ∧ t.inputs.line = s.inputs.line.drop (125 - s.time.micros / 8)
          ∧ t.loader.bits =
            (if memorySelect s = true then
              min (max s.loader.bits (readBits (octetsToRead s.loader))) (s.loader.bits + (1000 - s.time.micros))
            else s.loader.bits)
          ∧ t.inputs.estopReleased =
            (if s.seq.state = .starting ∨ pins.estop = true then 0 else min (s.inputs.estopReleased + 1) 3)
          ∧ t.tracker =
            (if isCar s = true ∧ s.loader.profile.isSome = true ∧ s.seq.state ≠ .starting
                ∧ (s.time.now + 1).toNat % 100 = 0 then
              (if s.tracker.gateRunning = true then { s.tracker with gateDue := true }
                else { s.tracker with gateRunning := true, gateCount := 0 })
            else s.tracker)
          ∧ (∀ d ∈ detectorsInOrder,
            (detectorInput t.loop d).differing =
              (if isLoop s = true ∧ inService s = true then
                (if detectorPin pins d = (detectorInput s.loop d).level then 0
                  else min ((detectorInput s.loop d).differing + 1) 3)
              else (detectorInput s.loop d).differing))
          ∧ (∀ b ∈ [BrakeId.eb, BrakeId.sb, BrakeId.tb],
            (brakeUnit t.brakes b).appliedSince =
              (if inService s = true then
                (if (brakeUnit s.brakes b).mode = some .feedback ∧ (brakeUnit s.brakes b).state = .lifted
                    ∧ feedbackPin pins b = false then
                  some ((brakeUnit s.brakes b).appliedSince.getD (s.time.now + 1))
                else none)
              else (brakeUnit s.brakes b).appliedSince)))
    ∧ t.loop.trackA = s.loop.trackA ∧ t.loop.trackB = s.loop.trackB
    ∧ t.loop.aLow.level = s.loop.aLow.level ∧ t.loop.aUp.level = s.loop.aUp.level
    ∧ t.loop.bLow.level = s.loop.bLow.level ∧ t.loop.bUp.level = s.loop.bUp.level
    ∧ t.brakes.eb = { s.brakes.eb with appliedSince := t.brakes.eb.appliedSince }
    ∧ t.brakes.sb = { s.brakes.sb with appliedSince := t.brakes.sb.appliedSince }
    ∧ t.brakes.tb = { s.brakes.tb with appliedSince := t.brakes.tb.appliedSince }

/-- The take at a DRIVE or CAR with its profile: the counter is cleared, its clamped value joins the position counts and the
history, speed and motion follow from the newest four deltas, and a faulty take lowers MARKED and, with no latch standing,
raises SPEED_SENSOR; a take that is not faulty clears the latch (R18, R19, R21). The counts are told at a CAR, and at a
DRIVE where no re-reference of R28 follows in the same tick. -/
def Obligations.EncoderTakesItsCounts : Prop :=
  ∀ (d : Int) (p : Profile) (s : State),
    held s = false → hasEncoder s = true → s.seq.state ≠ .starting → s.time.sampleDue = true →
    s.loader.profile = some p → d = max (-2047) (min 2047 (invertedDelta s p)) →
    ∃ t, exec .sampleTick s = .next t ∧ t.time = { s.time with sampleDue := false }
      ∧ t.tracker.delta = 0 ∧ t.tracker.illegal = false
      ∧ ((isCar s = true ∨ (located s = true ∧ (s.seq.state = .dwell ∨ t.seq.state ≠ .dwell))) →
          t.tracker.counts = max (-2147483648) (min 2147483647 (s.tracker.counts + d)))
      ∧ t.tracker.speed =
          min ((((s.tracker.history.map Sample.delta).reverse.take 3).sum + d).natAbs * 2500
            / (if isDrive s = true then p.cpmSheave else p.cpmOdo)) 1400
      ∧ t.tracker.motion =
          (if 0 < ((s.tracker.history.map Sample.delta).reverse.take 3).sum + d then .up
            else if ((s.tracker.history.map Sample.delta).reverse.take 3).sum + d < 0 then .down else .stopped)
      ∧ t.tracker.history =
          (if 50 ≤ s.tracker.history.length then s.tracker.history.drop 1 else s.tracker.history)
            ++ [{ delta := d, speed := t.tracker.speed }]
      ∧ (if d ≠ invertedDelta s p ∨ s.tracker.illegal = true then
          (isCar s = true → t.tracker.quality ≠ .marked)
            ∧ (s.seq.state ≠ .faulted → t.tracker.sensorLatch = true)
            ∧ (s.seq.state ≠ .faulted → s.tracker.sensorLatch = false →
                t.seq.state = .tripped ∧ t.trips.own.contains .speedSensor = true)
        else t.tracker.sensorLatch = false)
      ∧ t.power = s.power ∧ t.inputs = s.inputs ∧ t.loader = s.loader ∧ t.peers = s.peers ∧ t.loop = s.loop
      ∧ t.port = s.port ∧ t.tracker.first = s.tracker.first ∧ t.tracker.second = s.tracker.second
      ∧ t.tracker.load = s.tracker.load

/-- After a sample tick of a node in service b_eff lies between B_floor and the rated deceleration, and with no change of
state it and OVERHAUL are those of the imbalance that stands. A node still in a run holds the distances to stop of its
position; outside a run a LOOP's are absent while the choice is UNDECIDED or the position is not usable. vperm is at most
V_line_max, 0 outside ARMED and RUNNING; in them it is at a TERMINAL V_line_max or, the gate open, 0, and GATE_OPEN stands
there exactly in a run with the gate open; at any other node it is the
value permitted, which lies within the present segment's limit and the curve to the stop mark of every car concerned. At a
DRIVE or CAR still in RUNNING or STOPPING AT_MARK stands exactly when a car is within W_stop of its mark at no more than
V_creep, and no car is past its mark by more than W_stop: such a car trips the node on OVERRUN, unless the tracker's work of
the same tick has tripped it. A node still RUNNING holds the line ceiling formed from what now stands, and every other node
holds 0 where the gates held before (R43, R46, R51 to R57, R61, R104 to R106, R155, R156). What vperm and the distances are
where a run has direction NONE or a leg target that gives no stop mark is the model's choice (log entries 42 and 47), and so
is the order of the blocks in the tick (log entry 9), that AT_MARK is clear at a DRIVE neither of whose cars gives a judgement
(log entry 18), and how a LOOP's distance outside a run is kept, made absent and not brought back (log entries 46 and 50).
The premise on the origin state holds in every run (`StepKeepsTheGates`). -/
def Obligations.SampleTickFormsEnvelopeAndCeiling : Prop :=
  ∀ (p : Profile) (s : State),
    held s = false → inService s = true → s.time.sampleDue = true → s.loader.profile = some p →
    p.bFloor ≤ p.bRate →
    ∃ t, exec .sampleTick s = .next t ∧ t.time = { s.time with sampleDue := false }
      ∧ p.bFloor ≤ t.envelope.bEff.getD 0 ∧ t.envelope.bEff.getD 0 ≤ p.bRate ∧ t.envelope.bEff.isSome = true
      ∧ (t.seq.state = s.seq.state →
          t.envelope.bEff = some (effective t p) ∧ t.envelope.overhaul = overhauls t p)
      ∧ (isTerminal s = false → inRun t = true →
          t.envelope.distA = distanceOf t p .a ∧ t.envelope.distB = distanceOf t p .b)
      ∧ (isLoop s = true → inRun s = false →
          t.envelope.distA =
              (if s.envelope.choiceA = .undecided ∨ usablePosition p (carEntry s .a) = none then none
                else s.envelope.distA)
            ∧ t.envelope.distB =
              (if s.envelope.choiceB = .undecided ∨ usablePosition p (carEntry s .b) = none then none
                else s.envelope.distB))
      ∧ t.envelope.vperm ≤ p.vLineMax ∧ vpermGated t = true
      ∧ ((t.seq.state = .armed ∨ t.seq.state = .running) → originGated s = true →
          t.envelope.vperm =
              (if isTerminal s = true then (if s.inputs.pins.gateShut = true then p.vLineMax else 0)
                else permitted t p)
            ∧ ∀ x ∈ [Side.a, Side.b], ∀ k ∈ aim t p x,
                (∀ g ∈ presentSegment p.segments k.2.2, t.envelope.vperm ≤ g.limit)
                ∧ t.envelope.vperm * t.envelope.vperm ≤
                  p.vCreep * p.vCreep
                    + 2 * t.envelope.bEff.getD 0 * (distanceTo k.1 k.2.1 k.2.2 - (p.dMargin : Int)).toNat)
      ∧ (isTerminal s = true → t.envelope.gateOpen = (inRun t && !s.inputs.pins.gateShut))
      ∧ (hasEncoder s = true → moving s = true → moving t = true →
          (t.envelope.atMark = true ↔
            (∃ d ∈ judgedDistances t, d.natAbs ≤ p.wStop) ∧ t.tracker.speed ≤ p.vCreep)
          ∧ ∀ d ∈ judgedDistances t, -(p.wStop : Int) ≤ d)
      ∧ (hasEncoder s = true → moving s = true → (∃ d ∈ judgedDistances t, d < -(p.wStop : Int)) →
          t.seq.state = .tripped
            ∧ ∃ c ∈ [Cause.overrun, .speedSensor, .markerLost, .positionConflict, .uncommandedMotion],
                t.trips.primary = some c ∧ t.trips.own.contains c = true)
      ∧ (t.seq.state = .running → t.ceiling.line = formedCeiling t)
      ∧ (ceilingGated s = true → ceilingGated t = true)
      ∧ t.power = s.power ∧ t.inputs = s.inputs ∧ t.loader = s.loader ∧ t.peers = s.peers ∧ t.port = s.port

/-- How a sample tick ends a run. A node still RUNNING after it holds no own AT_MARK, has not come to rest with its comms
stop complete, and is not stranded; it leaves RUNNING for STOPPING, for DWELL or HOLD standing, or for TRIPPED. A CAR whose
door-shut contact shows open is TRIPPED, unless a completed comms stop ended RUNNING first. In STOPPING the DRIVE goes to
DWELL at standstill with SB applied, and a CAR at standstill when the DRIVE shows DWELL for its run or is unheard. A CAR
that enters DWELL from STOPPING is MISALIGNED where its distance to stop is absent or beyond W_stop, one that enters it from
RUNNING is not, and its door is released as `doorJudged` tells (R64, R110, R137 to R142). That an open door is judged before
every other exit of the tick, but after a comms stop's completion, is the model's choice (log entry 9): R142 gives no such
order and no such exception. That a tick which takes a node into STOPPING does not also judge its entry to DWELL is the
model's choice (log entry 51). -/
def Obligations.SampleTickEndsTheRun : Prop :=
  ∀ (p : Profile) (s : State),
    held s = false → moving s = true → s.time.sampleDue = true → s.loader.profile = some p →
    ∃ t, exec .sampleTick s = .next t ∧ t.time = { s.time with sampleDue := false }
      ∧ (t.seq.state = .running ∨ t.seq.state = .stopping ∨ resting t = true ∨ t.seq.state = .tripped)
      ∧ (t.seq.state = .running →
          s.seq.state = .running ∧ t.envelope.atMark = false ∧ (stands t && strandingPeer t) = false
            ∧ (stands t = true → ∀ r ∈ t.ceiling.comms, rampValue t.time.now r ≠ 0) ∧ t.seq = s.seq)
      ∧ (t.seq.state = .stopping →
          t.ceiling.line = (if s.seq.state = .running then 0 else t.ceiling.line)
            ∧ (s.seq.state = .running → t.envelope.atMark = true) ∧ t.seq.run = s.seq.run ∧ t.seq.dir = s.seq.dir)
      ∧ (resting t = true → stands t = true ∧ allApplied t.brakes = true ∧ t.ceiling.comms = none
          ∧ t.ceiling.line = 0 ∧ t.envelope.vperm = 0 ∧ t.seq.run = s.seq.run ∧ t.seq.dir = .none)
      ∧ (t.seq.state = .tripped → standsTripped t = true)
      ∧ doorJudged (s.seq.state == .stopping && stoppedWide p t) p t = true
      ∧ (isCar s = true → s.inputs.pins.doorShut = false →
          t.seq.state = .tripped
            ∨ (s.seq.state = .running ∧ s.ceiling.comms.isSome = true ∧ resting t = true))
      ∧ (s.seq.state = .stopping → t.seq.state ≠ .hold
          ∧ (t.seq.state = .stopping → isDrive s = true →
              (standstill t && t.brakes.sb.state == .applied) = false)
          ∧ (t.seq.state = .stopping → isCar s = true → standstill t = true →
              (driveEntry s).any heard = true
                ∧ heardShows (driveEntry s) (fun r => r.state == .dwell && r.run == s.seq.run) = false))
      ∧ t.power = s.power ∧ t.inputs = s.inputs ∧ t.loader = s.loader ∧ t.peers = s.peers ∧ t.port = s.port

/-- The markers at a CAR's sample tick, with its position after the take. The next expected marker is chosen from the
direction of motion where none is held. One passed by more than W_mark is a miss: the first lowers MARKED and moves on to
the next marker of that direction, the second raises MARKER_LOST and withdraws quality, miss count and markers (R25, R26).
The tick may also withdraw them for a position conflict (R34), which the premises on the quality after it shut out. -/
def Obligations.PassedMarkerIsMissed : Prop :=
  ∀ (p : Profile) (s : State),
    held s = false → isCar s = true → s.seq.state ≠ .starting → s.time.sampleDue = true →
    s.loader.profile = some p →
    ∃ t, exec .sampleTick s = .next t ∧ t.tracker.lastMatched =
        (if t.tracker.quality = .none ∧ s.tracker.quality ≠ .none then none else t.tracker.lastMatched)
      ∧ (s.tracker.nextExpected = none → s.tracker.quality ≠ .none → t.tracker.quality ≠ .none →
          t.tracker.misses = s.tracker.misses
            ∧ t.tracker.nextExpected =
              (match t.tracker.motion with
                | .stopped => none
                | .up => (markerAhead (ownMarkers s p) .up (positionCm (afterTake p s) p) s.tracker.lastMatched).map
                    (·, .up)
                | .down => (markerAhead (ownMarkers s p) .down (positionCm (afterTake p s) p) s.tracker.lastMatched).map
                    (·, .down)))
      ∧ (∀ x ∈ s.tracker.nextExpected,
          if markerPassed (afterTake p s) p x.1 x.2 = false then
            t.tracker.quality ≠ .none → t.tracker.misses = s.tracker.misses
              ∧ ((travelOf t.tracker.motion).all (fun d => d == x.2) = true →
                  t.tracker.nextExpected = s.tracker.nextExpected)
          else if s.tracker.misses = 0 then
            t.tracker.quality ≠ .none → t.tracker.misses = 1 ∧ t.tracker.quality = .reckoned
              ∧ ((travelOf t.tracker.motion).all (fun d => d == x.2) = true →
                  t.tracker.nextExpected = (markerAhead (ownMarkers s p) x.2 x.1.position none).map (·, x.2))
          else t.tracker.quality = .none ∧ t.tracker.misses = 0 ∧ t.tracker.nextExpected = none
            ∧ t.tracker.lastMatched = none
            ∧ (inService s = true → t.seq.state = .tripped ∧ t.trips.own.contains .markerLost = true))
      ∧ t.power = s.power ∧ t.inputs = s.inputs ∧ t.loader = s.loader ∧ t.peers = s.peers ∧ t.loop = s.loop
      ∧ t.port = s.port

/-- The rope and the cars at a sample tick in service, with the position after the take. A DRIVE without a position takes
car A's. A DRIVE or CAR with one compares it with what its FRESH peers show: ten samples running outside the allowance of
one comparison set DISAGREE, ten inside in every comparison made clear it, and a difference beyond three allowances raises
POSITION_CONFLICT once, which withdraws the position (at the DRIVE, from car A's comparison alone) (R28, R32 to R34). That
car B's finding still sets its latch, its counts and DISAGREE at a tick at which car A's conflict withdraws the rope quality
is the model's choice (log entry 20), and so is the saturation of the counts taken from car A (log entry 30). -/
def Obligations.RopeAndCarsAreCompared : Prop :=
  ∀ (p : Profile) (fa fb : Option Finding) (s : State),
    held s = false → hasEncoder s = true → inService s = true → s.time.sampleDue = true → s.loader.profile = some p →
    (isCar s = true → s.tracker.misses = 0) →
    fa = findingA (afterTake p s) p → fb = findingB (afterTake p s) p →
    (∀ f ∈ fa,
      (∀ x ∈ agreedPosition p (carEntry s .a), isDrive s = true →
        f.delta = (reported (afterTake p s) p : Int) - x
          ∧ f.allowance = p.dAgree + ceilDiv ((p.sStretch : Int) * ((p.length : Int) - x)) 100000)
      ∧ (∀ x ∈ agreedPosition p (driveEntry s), isCar s = true →
        f.delta = (reported (afterTake p s) p : Int) - (if side s = .a then (x : Int) else (p.length : Int) - x)
          ∧ f.allowance =
            p.dAgree + ceilDiv ((p.sStretch : Int) * ((p.length : Int) - reported (afterTake p s) p)) 100000))
    ∧ (isCar s = true → fb = none)
    ∧ ∃ t, exec .sampleTick s = .next t
      ∧ (isDrive s = true → s.tracker.quality = .none → ∀ x ∈ referencePosition s p,
          t.tracker.counts = sat32 (x * p.cpmSheave / 100 : Nat)
            ∧ (t.tracker.quality = .marked ∨ t.tracker.cmpA.conflict = true))
      ∧ (s.tracker.quality ≠ .none → s.tracker.disagree = false →
          (t.tracker.disagree = true ↔
            (∃ f ∈ fa, f.allowance < f.delta.natAbs ∧ 9 ≤ s.tracker.cmpA.outside)
              ∨ (∃ f ∈ fb, f.allowance < f.delta.natAbs ∧ 9 ≤ s.tracker.cmpB.outside))
          ∧ (t.tracker.disagree = false →
            t.tracker.cmpA.outside =
                (if fa.any (fun f => decide (f.allowance < f.delta.natAbs)) then s.tracker.cmpA.outside + 1 else 0)
              ∧ t.tracker.cmpB.outside =
                (if fb.any (fun f => decide (f.allowance < f.delta.natAbs)) then s.tracker.cmpB.outside + 1 else 0)))
      ∧ (s.tracker.quality ≠ .none → s.tracker.disagree = true →
          (t.tracker.disagree = false ↔
            (fa.isSome = true ∨ fb.isSome = true)
              ∧ (∀ f ∈ fa, f.delta.natAbs ≤ f.allowance ∧ 9 ≤ s.tracker.cmpA.inside)
              ∧ (∀ f ∈ fb, f.delta.natAbs ≤ f.allowance ∧ 9 ≤ s.tracker.cmpB.inside)))
      ∧ (s.tracker.quality ≠ .none →
          t.tracker.cmpA.conflict = fa.any (fun f => decide ((f.delta.natAbs : Int) > 3 * f.allowance))
            ∧ t.tracker.cmpB.conflict = fb.any (fun f => decide ((f.delta.natAbs : Int) > 3 * f.allowance))
            ∧ (((t.tracker.cmpA.conflict = true ∧ s.tracker.cmpA.conflict = false)
                ∨ (t.tracker.cmpB.conflict = true ∧ s.tracker.cmpB.conflict = false)) →
              t.seq.state = .tripped ∧ t.trips.own.contains .positionConflict = true)
            ∧ (t.tracker.cmpA.conflict = true → s.tracker.cmpA.conflict = false → t.tracker.quality = .none))
      ∧ t.power = s.power ∧ t.inputs = s.inputs ∧ t.loader = s.loader ∧ t.peers = s.peers ∧ t.loop = s.loop
      ∧ t.port = s.port

/-- Supervision at a sample tick of a DRIVE or CAR. A node still RUNNING holds the limit that follows its ceiling and its
release record, and its speed is within T_trip of it; at the DRIVE the third sample running with the speed more than T_int
over the limit drops SB and sets the intervention flag, and the tenth within a positive ceiling lifts SB again unless
re-lift is barred. A node in service that has moved more than D_still from its still-entry reference is TRIPPED (R36, R111
to R114). -/
def Obligations.SampleTickSupervises : Prop :=
  ∀ (p : Profile) (s : State),
    held s = false → hasEncoder s = true → inService s = true → s.time.sampleDue = true → s.loader.profile = some p →
    ∃ t, exec .sampleTick s = .next t
      ∧ (t.seq.state = .running →
          (t.ceiling.release = none → t.ceiling.limit = t.ceiling.line)
            ∧ (∀ r ∈ t.ceiling.release, t.ceiling.limit = rampValue t.time.now r ∧ t.ceiling.line < t.ceiling.limit)
            ∧ t.tracker.speed ≤ t.ceiling.limit + p.tTrip)
      ∧ (t.seq.state = .stopping → s.seq.state = .stopping → t.tracker.speed ≤ t.ceiling.limit + p.tTrip)
      ∧ (isDrive s = true → t.seq.state = .running → s.ceiling.intervention = false →
          (if t.ceiling.limit + p.tInt < t.tracker.speed ∧ 2 ≤ s.ceiling.overCount then
            t.ceiling.intervention = true ∧ t.ceiling.overCount = 0 ∧ t.ceiling.underCount = 0
              ∧ t.brakes.sb.state = .applied ∧ t.brakes.eb = s.brakes.eb
          else t.ceiling.intervention = false ∧ t.brakes = s.brakes
            ∧ t.ceiling.overCount =
              (if t.ceiling.limit + p.tInt < t.tracker.speed then s.ceiling.overCount + 1 else 0)))
      ∧ (isDrive s = true → t.seq.state = .running → s.ceiling.intervention = true →
          (if s.ceiling.barred = true then
            t.ceiling.intervention = true ∧ t.ceiling.barred = true ∧ t.brakes = s.brakes
              ∧ t.ceiling.underCount = s.ceiling.underCount
          else if 0 < t.ceiling.line ∧ t.tracker.speed ≤ t.ceiling.line ∧ 9 ≤ s.ceiling.underCount then
            t.ceiling.intervention = false ∧ t.ceiling.underCount = 0 ∧ t.brakes.eb = s.brakes.eb
              ∧ (s.brakes.sb.state = .applied → s.brakes.sb.liftFail = false →
                  t.brakes.sb.state = .lifting ∧ t.brakes.sb.liftTime = some s.time.now)
          else t.ceiling.intervention = true ∧ t.brakes = s.brakes
            ∧ t.ceiling.underCount =
              (if 0 < t.ceiling.line ∧ t.tracker.speed ≤ t.ceiling.line then s.ceiling.underCount + 1 else 0)))
      ∧ (isCar s = true → t.seq.state = .running →
          t.brakes = s.brakes ∧ t.ceiling.intervention = s.ceiling.intervention)
      ∧ ((isCar s = true ∨ located s = true) → ∀ r ∈ s.tracker.stillRef,
          p.dStill < ((afterTake p s).tracker.counts - r).natAbs * 100
            / (if isDrive s = true then p.cpmSheave else p.cpmOdo) → t.seq.state = .tripped)
      ∧ t.power = s.power ∧ t.inputs = s.inputs ∧ t.loader = s.loader ∧ t.peers = s.peers ∧ t.loop = s.loop
      ∧ t.port = s.port

/-- Confirmation at a LOOP's sample tick: an unconfirmed track with both detectors inactive, whose car's FRESH record shows
it STOPPED at a usable position, becomes OCCUPIED when that lies strictly between the detectors and CLEAR otherwise,
confirmed, and a changed occupancy asks for a beacon; every other track stays (R153, R154). -/
def Obligations.LoopTrackIsConfirmed : Prop :=
  ∀ (x : Side) (p : Profile) (s : State),
    held s = false → isLoop s = true → inService s = true → s.time.sampleDue = true → s.loader.profile = some p →
    ∃ t, exec .sampleTick s = .next t
      ∧ (if (track s.loop x).unconfirmed = true
            ∧ (detectorInput s.loop { track := x, atEnd := .low }).level = false
            ∧ (detectorInput s.loop { track := x, atEnd := .up }).level = false
            ∧ freshShows (carEntry s x) (fun r => r.motion == .stopped) = true
            ∧ (usablePosition p (carEntry s x)).isSome = true then
          ∀ q ∈ usablePosition p (carEntry s x),
            track t.loop x =
              { occ :=
                  if detectorAt p { track := x, atEnd := .low } < q ∧ q < detectorAt p { track := x, atEnd := .up } then
                    .occupied
                  else .clear
                last := none
                unconfirmed := false }
            ∧ ((track t.loop x).occ ≠ (track s.loop x).occ → beaconAsked t = true)
        else track t.loop x = track s.loop x)
      ∧ t.loop = { s.loop with trackA := t.loop.trackA, trackB := t.loop.trackB }
      ∧ t.power = s.power ∧ t.inputs = s.inputs ∧ t.loader = s.loader ∧ t.peers = s.peers ∧ t.port = s.port
      ∧ t.tracker = { s.tracker with stillRef := t.tracker.stillRef }

/-! ## Encoder, markers and weighing -/

/-- The quadrature stage: at a DRIVE or CAR one raw count where exactly one channel changed, of a sign that the free phase
order (log entry 6) gives, the illegal-transition mark where both did; nothing is counted at a LOOP or TERMINAL, nor in
the hold before a cold start (R17). -/
def Obligations.QuadratureEdgeCounts : Prop :=
  ∀ (a b : Bool) (s : State), ∃ t, exec (.quadratureEdge a b) s = .next t
    ∧ t =
      { s with
        tracker.first := a
        tracker.second := b
        tracker.delta := t.tracker.delta
        tracker.illegal := t.tracker.illegal }
    ∧ (hasEncoder s = false ∨ coldHold s = true →
        t.tracker.delta = s.tracker.delta ∧ t.tracker.illegal = s.tracker.illegal)
    ∧ (hasEncoder s = true → coldHold s = false →
        (a ≠ s.tracker.first → b ≠ s.tracker.second → t.tracker.illegal = true ∧ t.tracker.delta = s.tracker.delta)
        ∧ (a = s.tracker.first → b = s.tracker.second →
            t.tracker.illegal = s.tracker.illegal ∧ t.tracker.delta = s.tracker.delta)
        ∧ (a ≠ s.tracker.first → b = s.tracker.second → t.tracker.illegal = s.tracker.illegal
            ∧ t.tracker.delta =
              max (-2147483648) (min 2147483647
                (s.tracker.delta + (if decide (a ≠ b) = Config.firstLeadsIsPlus then 1 else -1))))
        ∧ (a = s.tracker.first → b ≠ s.tracker.second → t.tracker.illegal = s.tracker.illegal
            ∧ t.tracker.delta =
              max (-2147483648) (min 2147483647
                (s.tracker.delta + (if decide (a = b) = Config.firstLeadsIsPlus then 1 else -1)))))

/-- A marker read at a CAR with its profile, after STARTING: matched, it sets the present position to the marker, with
quality MARKED, and clears the miss count, MARKER_UNEXPECTED and the next expected marker; not matched, it sets
MARKER_UNEXPECTED and leaves the rest (R23, R24). That the counts so set saturate is the model's choice (log entry 30). -/
def Obligations.MarkerReadSnapsOrWarns : Prop :=
  ∀ (code : BitVec 5) (p : Profile) (s : State),
    held s = false → isCar s = true → s.seq.state ≠ .starting → s.loader.profile = some p →
    ∃ t, exec (.markerRead code) s = .next t ∧ t = { s with tracker := t.tracker }
      ∧ (markerOf s p code.toNat = none → t.tracker = { s.tracker with unexpected := true })
      ∧ (∀ m ∈ markerOf s p code.toNat,
          if s.tracker.quality = .none
              ∨ ((m.position : Int) - presentCounts s p * 100 / (p.cpmOdo : Int)).natAbs ≤ p.wMark then
            t.tracker =
              { s.tracker with
                counts := t.tracker.counts
                quality := .marked
                misses := 0
                unexpected := false
                lastMatched := some m
                nextExpected := none
                stillRef := s.tracker.stillRef.map (· + (t.tracker.counts - s.tracker.counts)) }
              ∧ t.tracker.counts = sat32 ((m.position * p.cpmOdo / 100 : Nat) - invertedDelta s p)
          else t.tracker = { s.tracker with unexpected := true })

/-- Weighing: an edge counts in the gate in progress, up to 65,535; at the end of a gate its count gives the load, INVALID
below half the offset, and a new gate begins (R29, R30). -/
def Obligations.WeighingGateGivesTheLoad : Prop :=
  ∀ (p : Profile) (s : State),
    held s = false → s.loader.profile = some p →
    (s.tracker.gateRunning = true → exec .weighingPulseEdge s =
      .next { s with tracker.gateCount := min (s.tracker.gateCount + 1) 65535 })
    ∧ (s.tracker.gateDue = true → exec .weighingGateEnd s =
      .next
        { s with
          tracker.gateDue := false
          tracker.gateCount := 0
          tracker.load :=
            if s.tracker.gateCount < p.loadOffset / 2 then none
            else some (min ((s.tracker.gateCount - p.loadOffset) * p.loadScale) p.wMax) })

/-! ## Trips, acknowledgement and brakes -/

/-- The first sample that shows ESTOP asserted: the level is taken, and outside FAULTED STOP_INPUT is raised, a trip or, in
TRIPPED, a secondary record (R165 to R167). -/
def Obligations.EstopTrips : Prop :=
  ∀ (s : State),
    held s = false → s.inputs.pins.estop = true → s.trips.estop = false → s.seq.state ≠ .starting →
    ∃ t, exec .estopAssert s = .next t
      ∧ t =
        { s with
          access := t.access
          tracker.stillRef := t.tracker.stillRef
          envelope := t.envelope
          ceiling := t.ceiling
          generator := t.generator
          seq := t.seq
          brakes := t.brakes
          trips := t.trips
          cls := t.cls }
      ∧ t.trips.estop = true
      ∧ (if s.seq.state = .faulted then t.seq = s.seq ∧ t.trips = { s.trips with estop := true }
          else causeTaken .stopInput s t = true)

/-- Levels and windows that end: ESTOP at the third sample that shows it released, a PULSE-mode ALERT, the refusal window,
and a release latch at a sample that shows its applied unit applied; each clears its own record and nothing else. The lamps
follow the node state and the refusal window while it runs: GO is ON in ARMED, BLINK in RUNNING and STOPPING and OFF
elsewhere; STOP is OFF in STARTING and NIGHT, ON in TRIPPED and FAULTED, BLINK in HOLD and while the window runs, and OFF
otherwise; BLINK is lit in the first half of each second of node time (R145, R162, R167, R176). When a deadline counts as
reached across the wrap of node time is the model's choice (log entry 22), and so is that the window runs until the command
of its end (log entry 1). -/
def Obligations.LevelsAndWindowsEnd : Prop :=
  ∀ (b : BrakeId) (d : Time) (s : State), held s = false →
    (s.trips.estop = true → 3 ≤ s.inputs.estopReleased →
      exec .estopRelease s = .next { s with trips.estop := false })
    ∧ (s.trips.alertEnd = some d → (s.time.now - d).toNat < 2147483648 →
      exec .alertPulseEnd s = .next { s with trips.alertEnd := none })
    ∧ (s.seq.refusal = some d → (s.time.now - d).toNat < 2147483648 →
      exec .refusalWindowEnd s = .next { s with seq.refusal := none })
    ∧ (checkedUnit b s = true → (brakeUnit s.brakes b).state = .applied → feedbackPin s.inputs.pins b = false →
      ∃ t, exec (.feedbackApplied b) s = .next t ∧ t = { s with brakes := t.brakes }
        ∧ brakeUnit t.brakes b = { brakeUnit s.brakes b with releaseLatch := false }
        ∧ (b ≠ .eb → t.brakes.eb = s.brakes.eb) ∧ (b ≠ .sb → t.brakes.sb = s.brakes.sb)
        ∧ (b ≠ .tb → t.brakes.tb = s.brakes.tb))
    ∧ goLamp s =
      (if s.seq.state = .armed then .on
        else if s.seq.state = .running ∨ s.seq.state = .stopping then .blink
        else .off)
    ∧ stopLamp s =
      (if s.seq.state = .night ∨ s.seq.state = .starting then .off
        else if s.seq.state = .tripped ∨ s.seq.state = .faulted then .on
        else if s.seq.refusal ≠ none ∨ s.seq.state = .hold then .blink
        else .off)
    ∧ lampLit .off s.time.now = false ∧ lampLit .on s.time.now = true
    ∧ lampLit .blink s.time.now = decide (s.time.now.toNat % 1000 < 500)

/-- How a trip ends. A press of ACK in TRIPPED, the node standing, ESTOP released, and every own cause's condition gone,
clears the own causes and every LIFT_FAIL; with no peer-trip origin held the node leaves by the standing test, otherwise it
stays, its primary cause PEER_TRIP. A press that fails one of those conditions clears nothing and is a wake event alone. A
held peer-trip origin clears at a sample tick that finds the node standing and no FRESH or STALE peer showing TRIPPED with a
cause other than PEER_TRIP, and stays otherwise; with no own cause then active the node leaves by the standing test, its
primary cause none, and it stays in TRIPPED otherwise. A CAR that leaves for DWELL is not MISALIGNED, and its door is
released as `doorJudged` tells (R141, R169, R170, R172, R180). That a peer showing TRIPPED with no cause holds the origin is
the model's choice (log entry 37), and so is that the origin is judged after the tick's other work, so that an own cause
raised at the same tick keeps the node in TRIPPED with its primary cause as it was (log entry 9). -/
def Obligations.AcknowledgementClearsTheTrip : Prop :=
  ∀ (s : State), held s = false → s.seq.state = .tripped →
    (s.inputs.pins.ack = true → s.inputs.previous.ack = false →
      (stands s = true → s.trips.estop = false → s.trips.own.all (conditionGone s) = true →
        ∃ t, exec .ackPress s = .next t
          ∧ t.trips = { s.trips with
              own := []
              primary := if s.trips.origin = none then none else some .peerTrip }
          ∧ t.seq.state = (if s.trips.origin = none then standingTest s else .tripped)
          ∧ t.brakes.eb.liftFail = false ∧ t.brakes.sb.liftFail = false ∧ t.brakes.tb.liftFail = false
          ∧ t.inputs.previous.ack = true ∧ woken s t = true
          ∧ (∀ p ∈ s.loader.profile, doorJudged false p t = true)
          ∧ t.power = s.power ∧ t.time = s.time ∧ t.loader = s.loader ∧ t.peers = s.peers ∧ t.loop = s.loop
          ∧ t.port = s.port ∧ t.seq.run = s.seq.run)
      ∧ ((stands s = false ∨ s.trips.estop = true ∨ s.trips.own.all (conditionGone s) = false) →
        ∃ t, exec .ackPress s = .next t
          ∧ t =
            { s with
              inputs.previous.ack := true
              access := (wakeEvent s).access
              cls := (wakeEvent s).cls }
          ∧ woken s t = true))
    ∧ (s.time.sampleDue = true → s.trips.origin.isSome = true →
      ∃ t, exec .sampleTick s = .next t
        ∧ t.trips.origin =
          (if stands t = true
              ∧ s.peers.any (fun e =>
                  heard e && recordShows e (fun r => r.state == .tripped && r.cause != some .peerTrip)) = false then
            none
          else s.trips.origin)
        ∧ (if t.trips.origin = none ∧ t.trips.own = [] then
            resting t = true ∧ t.trips.primary = none ∧ allApplied t.brakes = true ∧ beaconAsked t = true
              ∧ ((isDrive s = false ∨ t.seq.state = .hold) → t.seq.state = standingTest t)
          else t.seq.state = .tripped ∧ t.trips.primary = s.trips.primary)
        ∧ (∀ p ∈ s.loader.profile, doorJudged false p t = true)
        ∧ (∀ c ∈ s.trips.own, t.trips.own.contains c = true)
        ∧ t.power = s.power ∧ t.inputs = s.inputs ∧ t.loader = s.loader ∧ t.peers = s.peers ∧ t.port = s.port
        ∧ t.seq.run = s.seq.run)

/-- A press of ACK in DWELL or HOLD, the node standing and ESTOP released, clears LIFT_FAIL at every unit and, the wake event
of R180 apart, changes nothing else; in ARMED, RUNNING, STOPPING, NIGHT and FAULTED it clears nothing, and in NIGHT and
FAULTED it is no wake event either (R171). -/
def Obligations.AcknowledgementAtRest : Prop :=
  ∀ (s : State),
    held s = false → s.inputs.pins.ack = true → s.inputs.previous.ack = false → s.seq.state ≠ .starting →
    s.seq.state ≠ .tripped →
    ∃ t, exec .ackPress s = .next t
      ∧ t =
        { s with
          inputs.previous.ack := true
          access := (wakeEvent s).access
          brakes := t.brakes
          cls := (wakeEvent s).cls }
      ∧ (if resting s = true ∧ stands s = true ∧ s.trips.estop = false then
          t.brakes =
            { eb := { s.brakes.eb with liftFail := false }
              sb := { s.brakes.sb with liftFail := false }
              tb := { s.brakes.tb with liftFail := false } }
        else t.brakes = s.brakes)
      ∧ (if wakes s = true then woken s t = true else t.access = s.access ∧ t.cls = s.cls)

/-- A beacon of a listed peer that shows TRIPPED on a cause of its own, at a node in service that holds no peer-trip origin:
PEER_TRIP is raised with that peer and cause as its origin, a trip or, in TRIPPED, a secondary record (R168). The premises
on the stand-down role and on the origin state hold in every run (`ClassFitsTheState`, `StepKeepsTheGates`). -/
def Obligations.PeerTripIsRaised : Prop :=
  ∀ (f : RxFrame) (e : Entry) (p : Profile) (r : BeaconRec) (c : Cause) (s : State),
    framed .beacon f e s = true → inService s = true → s.loader.profile = some p →
    parseBeacon p.length p.wMax f.octets = some r → sequenceAccepts e (frameSeq f.octets) = true →
    r.state = .tripped → r.cause = some c → c ≠ .peerTrip → causeCode c ≤ 12 → s.trips.origin = none →
    (s.cls.sdRole = .none ∨ s.seq.state = .dwell) → originGated s = true →
    ∃ t, exec (.receiveBeacon f) s = .next t ∧ t.seq.state = .tripped
      ∧ t.trips.origin = some (e.id, c) ∧ t.trips.own = s.trips.own
      ∧ (s.seq.state = .tripped → t.trips.primary = s.trips.primary
          ∧ appended { firstRecord .peerTrip (some (e.id, c)) s with secondary := true, ceiling := 0, vperm := 0 }
              s t = true)
      ∧ (s.seq.state ≠ .tripped → standsTripped t = true ∧ t.trips.primary = some .peerTrip
          ∧ (t.trips.history.getLast?.map TripRecord.cause) = some .peerTrip
          ∧ (t.trips.history.getLast?.map TripRecord.secondary) = some false)

/-- A lift that completes: at a CAR TB becomes LIFTED; at a DRIVE in ARMED with CONSENT and its line-start condition holding,
EB lifted lets SB lift, and SB lifted starts the run; with the condition lost the start is aborted, and outside ARMED only
the unit changes (R134, R135, R160). -/
def Obligations.LiftCompletes : Prop :=
  ∀ (c : Instr) (b : BrakeId) (s : State),
    held s = false → liftDue c b s = true →
    ∃ t, exec c s = .next t
      ∧ (isCar s = true → t.brakes.tb = { s.brakes.tb with state := .lifted, appliedSince := none }
          ∧ t.brakes.eb = s.brakes.eb ∧ t.brakes.sb = s.brakes.sb ∧ t.seq = s.seq ∧ brakesLifted t = true)
      ∧ (s.seq.state ≠ .armed →
          brakeUnit t.brakes b = { brakeUnit s.brakes b with state := .lifted, appliedSince := none }
            ∧ t.seq = s.seq ∧ t.ceiling = s.ceiling)
      ∧ (isDrive s = true → s.seq.state = .armed → s.seq.consent = true → lineStartHolds s = true →
          (b = .eb → s.seq.stage = .eb → t.seq = { s.seq with stage := .sb } ∧ t.brakes.eb.state = .lifted
            ∧ (s.brakes.sb.state = .applied → s.brakes.sb.liftFail = false →
                t.brakes.sb.state = .lifting ∧ t.brakes.sb.liftTime = some s.time.now))
          ∧ (b = .sb → s.seq.stage = .sb → t.seq.state = .running ∧ t.seq.run = s.seq.run ∧ t.seq.dir = s.seq.dir
            ∧ t.brakes.sb.state = .lifted ∧ t.brakes.eb = s.brakes.eb ∧ t.seq.dispatch = false
            ∧ t.seq.consent = false ∧ t.seq.stage = .idle))
      ∧ (isDrive s = true → s.seq.state = .armed → s.seq.consent = true → s.seq.stage ≠ .idle →
          lineStartHolds s = false → t.seq = { s.seq with stage := .idle } ∧ t.brakes.eb.state = .applied
            ∧ t.brakes.sb.state = .applied)
      ∧ t.power = s.power ∧ t.time = s.time ∧ t.inputs = s.inputs ∧ t.loader = s.loader ∧ t.peers = s.peers
      ∧ t.loop = s.loop ∧ t.trips = s.trips ∧ t.port = s.port

/-- A FEEDBACK lift that has run 2,000 ms with the feedback never lifted: the unit is APPLIED with LIFT_FAIL, a node in
ARMED leaves for its origin state, and at the DRIVE in RUNNING a failed re-lift of SB sets the intervention flag for the
rest of the run (R113, R127, R132, R160). That the over count stays as it stood there is the model's choice (log entry 39):
R113 names no count. -/
def Obligations.LiftTimesOut : Prop :=
  ∀ (b : BrakeId) (u : Time) (s : State),
    held s = false → checkedUnit b s = true → (brakeUnit s.brakes b).state = .lifting →
    feedbackPin s.inputs.pins b = false → (brakeUnit s.brakes b).liftTime = some u → 2000 ≤ (s.time.now - u).toNat →
    ∃ t, exec (.liftTimeout b) s = .next t
      ∧ brakeUnit t.brakes b =
          { brakeUnit s.brakes b with
            state := .applied
            liftTime := none
            dropTime := s.time.now
            liftFail := true
            appliedSince := none }
      ∧ (s.seq.state = .armed → (s.seq.origin = some .dwell ∨ s.seq.origin = some .hold) →
          some t.seq.state = s.seq.origin ∧ allApplied t.brakes = true)
      ∧ (s.seq.state = .running → t.seq = s.seq ∧ t.ceiling =
          (if b = .sb then { s.ceiling with intervention := true, barred := true } else s.ceiling))
      ∧ t.power = s.power ∧ t.time = s.time ∧ t.inputs = s.inputs ∧ t.loader = s.loader ∧ t.peers = s.peers
      ∧ t.loop = s.loop ∧ t.trips = s.trips ∧ t.port = s.port ∧ t.seq.run = s.seq.run

/-- The feedback checks: a LIFTED unit that has shown applied for more than 100 ms, and an APPLIED unit that shows lifted
more than 1,000 ms after its drop, raise BRAKE_FAULT and set their latch, and while the latch is set, or the time is not yet
over, the check changes nothing. The trip that a hold check causes drops the unit, which clears the hold latch again; in
TRIPPED it stays set (R162, R165, R166). -/
def Obligations.FeedbackChecksRaiseBrakeFault : Prop :=
  ∀ (b : BrakeId) (u : Time) (s : State), held s = false → checkedUnit b s = true →
    ((brakeUnit s.brakes b).state = .lifted → (brakeUnit s.brakes b).holdLatch = false →
      (brakeUnit s.brakes b).appliedSince = some u → 100 < (s.time.now - u).toNat →
      ∃ t, exec (.holdCheck b) s = .next t ∧ causeTaken .brakeFault s t = true
        ∧ (if s.seq.state = .tripped then brakeUnit t.brakes b = { brakeUnit s.brakes b with holdLatch := true }
          else (brakeUnit t.brakes b).state = .applied ∧ (brakeUnit t.brakes b).holdLatch = false
            ∧ (brakeUnit t.brakes b).dropTime = s.time.now)
        ∧ t.peers = s.peers ∧ t.loader = s.loader ∧ t.inputs = s.inputs ∧ t.time = s.time ∧ t.loop = s.loop
        ∧ t.port = s.port)
    ∧ ((brakeUnit s.brakes b).state = .applied → (brakeUnit s.brakes b).releaseLatch = false →
      feedbackPin s.inputs.pins b = true → 1000 < (s.time.now - (brakeUnit s.brakes b).dropTime).toNat →
      ∃ t, exec (.releaseCheck b) s = .next t ∧ causeTaken .brakeFault s t = true
        ∧ (brakeUnit t.brakes b).releaseLatch = true ∧ (brakeUnit t.brakes b).dropTime = (brakeUnit s.brakes b).dropTime
        ∧ t.peers = s.peers ∧ t.loader = s.loader ∧ t.inputs = s.inputs ∧ t.time = s.time ∧ t.loop = s.loop
        ∧ t.port = s.port)
    ∧ (((brakeUnit s.brakes b).holdLatch = true ∨ (brakeUnit s.brakes b).state ≠ .lifted
        ∨ (brakeUnit s.brakes b).appliedSince.all (fun v => decide ((s.time.now - v).toNat ≤ 100)) = true) →
      exec (.holdCheck b) s = .next s)
    ∧ (((brakeUnit s.brakes b).releaseLatch = true ∨ (brakeUnit s.brakes b).state ≠ .applied
        ∨ feedbackPin s.inputs.pins b = false
        ∨ (s.time.now - (brakeUnit s.brakes b).dropTime).toNat ≤ 1000) →
      exec (.releaseCheck b) s = .next s)

/-! ## Keys, contacts and detectors -/

/-- A dispatch press. Accepted, the node enters ARMED with a new run, itself the source, DISPATCH and CONSENT set, the
deadline T_arm away, a CAR's TB lifting. One that fails a condition of R128 is refused: the refusal window runs to 2,000 ms
from now, in which STOP blinks but in NIGHT and TRIPPED, and no run field moves. Either way the press is a wake event and ends
a stand-down part (R124 to R128, R133, R145, R180, R188). -/
def Obligations.DispatchPressIsJudged : Prop :=
  ∀ (dir : RunDir) (p : Profile) (s : State),
    held s = false → dispatchPin s.inputs.pins dir = true → dispatchPin s.inputs.previous dir = false →
    s.seq.state ≠ .starting → s.seq.state ≠ .faulted → (s.loader.profile = some p ∨ s.loader.profile = none) →
    ∃ t, exec (.dispatchPress dir) s = .next t
      ∧ (if s.loader.profile = some p ∧ resting s = true ∧ (ownNode s p).any ListedNode.dispatchEnabled = true
            ∧ (legTarget s p dir).isSome = true ∧ consents s (legTarget s p dir) (recoveryFor s) = true then
          t.seq =
            { s.seq with
              state := .armed
              origin := some s.seq.state
              run := newRunNumber s
              dir := match dir with
                | .aUp => .aUp
                | .aDown => .aDown
              leg := legTarget s p dir
              recovery := recoveryFor s
              dispatch := true
              consent := true
              dispatchOrigin := some (ownId s)
              deadline := some (s.time.now + BitVec.ofNat 32 (p.tArm * 1000))
              stage := .idle
              misaligned := false
              doorRelease := false
              gateRelease := false }
          ∧ (isCar s = true → s.brakes.tb.state = .applied →
              t.brakes.tb.state = .lifting ∧ t.brakes.tb.liftTime = some s.time.now)
          ∧ t.brakes.eb = s.brakes.eb ∧ t.brakes.sb = s.brakes.sb ∧ t.envelope.vperm = 0 ∧ t.ceiling.line = 0
          ∧ woken s t = true ∧ beaconAsked t = true
          ∧ t.power = s.power ∧ t.time = s.time ∧ t.loader = s.loader ∧ t.peers = s.peers ∧ t.tracker = s.tracker
          ∧ t.loop = s.loop ∧ t.trips = s.trips ∧ t.port = s.port
        else
          t =
            { s with
              inputs := t.inputs
              access := t.access
              seq.refusal := some (s.time.now + 2000)
              cls := t.cls }
          ∧ stopLamp t =
            (if s.seq.state = .night then .off else if s.seq.state = .tripped then .on else .blink))
      ∧ dispatchPin t.inputs.previous dir = true ∧ t.inputs.pins = s.inputs.pins ∧ t.cls.sdRole = .none
      ∧ (s.seq.state ≠ .night → t.cls.cls = .run ∧ t.cls.wake = 3)

/-- A stand-down press: with the role INITIATING it changes nothing; accepted with the role NONE, the role is INITIATING with
the node's own id and a deadline T_sd away, and an immediate beacon is asked for; otherwise, the role ACKING included, it is
refused, and the refusal window runs (R184). -/
def Obligations.StandDownPressIsJudged : Prop :=
  ∀ (p : Profile) (s : State),
    held s = false → s.inputs.pins.standDown = true → s.inputs.previous.standDown = false →
    s.seq.state ≠ .starting → s.seq.state ≠ .faulted → s.loader.profile = some p →
    ∃ t, exec .standDownPress s = .next t
      ∧ t =
        { s with
          inputs.previous.standDown := true
          access := t.access
          seq.refusal := t.seq.refusal
          cls.sdRole := t.cls.sdRole
          cls.sdId := t.cls.sdId
          cls.sdDeadline := t.cls.sdDeadline }
      ∧ (if s.cls.sdRole = .initiating then
            t.cls = s.cls ∧ t.seq.refusal = s.seq.refusal ∧ t.access = s.access
          else if s.cls.sdRole = .none ∧ standDownAllowed s p = true then
            t.cls.sdRole = .initiating ∧ t.cls.sdId = some (ownId s)
              ∧ t.cls.sdDeadline = some (s.time.now + BitVec.ofNat 32 (p.tSd * 1000)) ∧ beaconAsked t = true
              ∧ t.seq.refusal = s.seq.refusal
          else t.cls = s.cls ∧ t.seq.refusal = some (s.time.now + 2000) ∧ t.access = s.access)

/-- A stand-up press takes a node out of NIGHT by the standing test, with class RUN and the WAKE count 3, a CAR in DWELL not
MISALIGNED and its door released as `doorJudged` tells; in every other state after STARTING but FAULTED it is a wake event
alone, and in FAULTED it does nothing (R141, R180, R182). -/
def Obligations.StandUpLeavesNight : Prop :=
  ∀ (s : State),
    held s = false → s.inputs.pins.standUp = true → s.inputs.previous.standUp = false → s.seq.state ≠ .starting →
    ∃ t, exec .standUpPress s = .next t ∧ t.inputs = { s.inputs with previous := t.inputs.previous }
      ∧ t.inputs.previous.standUp = true
      ∧ (s.seq.state = .night → t.seq.state = standingTest s ∧ t.cls.cls = .run ∧ t.cls.wake = 3 ∧ t.cls.commit = 0
          ∧ beaconAsked t = true ∧ t.seq.run = s.seq.run ∧ (∀ p ∈ s.loader.profile, doorJudged false p t = true))
      ∧ (s.seq.state ≠ .night → t.seq = s.seq ∧ t.brakes = s.brakes ∧ t.envelope = s.envelope
          ∧ t.ceiling = s.ceiling ∧ t.tracker = s.tracker)
      ∧ (s.seq.state = .faulted → t.access = s.access ∧ t.cls.cls = s.cls.cls)
      ∧ (wakes s = true → woken s t = true)
      ∧ t.power = s.power ∧ t.time = s.time ∧ t.loader = s.loader ∧ t.peers = s.peers ∧ t.loop = s.loop
      ∧ t.trips = s.trips ∧ t.port = s.port

/-- A change of the door-shut contact at a CAR, or of the gate contact at a TERMINAL: the level is taken, it is a wake event
where R180 takes one, and in ARMED with the consent conditions failing, as an open contact makes them fail, the node leaves
for its origin state (R127, R132, R142, R143, R180). The premise on the origin state holds in every run
(`StepKeepsTheGates`). -/
def Obligations.ContactChangeIsJudged : Prop :=
  ∀ (c : Instr) (s : State),
    held s = false → s.seq.state ≠ .starting →
    ((c = .doorContactChange ∧ isCar s = true ∧ s.inputs.pins.doorShut ≠ s.inputs.doorTaken)
      ∨ (c = .gateContactChange ∧ isTerminal s = true ∧ s.inputs.pins.gateShut ≠ s.inputs.gateTaken)) →
    ∃ t, exec c s = .next t
      ∧ t.inputs = { s.inputs with
          doorTaken := if isCar s then s.inputs.pins.doorShut else s.inputs.doorTaken
          gateTaken := if isTerminal s then s.inputs.pins.gateShut else s.inputs.gateTaken }
      ∧ (s.seq.state ≠ .armed → t.seq = s.seq ∧ t.brakes = s.brakes ∧ t.envelope = s.envelope)
      ∧ (s.seq.state = .armed → consents s s.seq.leg s.seq.recovery = true → t.seq = s.seq ∧ t.brakes = s.brakes)
      ∧ (s.seq.state = .armed → (s.seq.origin = some .dwell ∨ s.seq.origin = some .hold) →
          (if isCar s then s.inputs.pins.doorShut else s.inputs.pins.gateShut) = false →
          some t.seq.state = s.seq.origin ∧ allApplied t.brakes = true ∧ t.seq.run = s.seq.run)
      ∧ (wakes s = true → originGated s = true → woken s t = true)
      ∧ t.power = s.power ∧ t.time = s.time ∧ t.loader = s.loader ∧ t.peers = s.peers ∧ t.loop = s.loop
      ∧ t.trips = s.trips ∧ t.port = s.port

/-- A loop detector's edges. A rise makes a CLEAR track ENTERING and an OCCUPIED one LEAVING at that end, and leaves an
ENTERING or LEAVING one unconfirmed: with the track's own car near it is silent in that sequence and LOOP_SEQUENCE out of
it, with only the other car near it is WRONG_TRACK, with neither near it is LOOP_SEQUENCE where the own car's position is
usable or the rise is out of sequence. A fall at the end that last moved the track settles it: by the car's usable position,
confirmed, or without one OCCUPIED after ENTERING and CLEAR after LEAVING, unconfirmed; any other fall raises LOOP_SEQUENCE
and leaves the track unconfirmed. The other track stays (R148, R150 to R152). -/
def Obligations.DetectorEdgeMovesTheTrack : Prop :=
  ∀ (d : Detector) (rise : Bool) (p : Profile) (s : State),
    held s = false → isLoop s = true → inService s = true → s.loader.profile = some p →
    (detectorInput s.loop d).level = !rise → detectorPin s.inputs.pins d = rise →
    3 ≤ (detectorInput s.loop d).differing →
    ∃ t, exec (if rise then .detectorRise d else .detectorFall d) s = .next t
      ∧ detectorInput t.loop d = { level := rise, differing := 0 }
      ∧ track t.loop (otherSide d.track) = track s.loop (otherSide d.track)
      ∧ (rise = true →
          ((track s.loop d.track).occ = .clear →
            track t.loop d.track = { track s.loop d.track with occ := .entering, last := some d.atEnd })
          ∧ ((track s.loop d.track).occ = .occupied →
            track t.loop d.track = { track s.loop d.track with occ := .leaving, last := some d.atEnd })
          ∧ (((track s.loop d.track).occ = .entering ∨ (track s.loop d.track).occ = .leaving) →
            (track t.loop d.track).unconfirmed = true)
          ∧ (if nearDetector p (usablePosition p (carEntry s d.track)) (detectorAt p d) = false
                ∧ nearDetector p (usablePosition p (carEntry s (otherSide d.track))) (detectorAt p d) = true then
              t.seq.state = .tripped ∧ t.trips.own = addCause .wrongTrack s.trips.own
                ∧ (t.trips.history.getLast?.map TripRecord.cause) = some .wrongTrack
            else if ((track s.loop d.track).occ = .clear ∨ (track s.loop d.track).occ = .occupied)
                ∧ (nearDetector p (usablePosition p (carEntry s d.track)) (detectorAt p d) = true
                  ∨ usablePosition p (carEntry s d.track) = none) then t.trips = s.trips
            else t.seq.state = .tripped ∧ t.trips.own = addCause .loopSequence s.trips.own
              ∧ (t.trips.history.getLast?.map TripRecord.cause) = some .loopSequence))
      ∧ (rise = false →
          if (track s.loop d.track).last = some d.atEnd
              ∧ ((track s.loop d.track).occ = .entering ∨ (track s.loop d.track).occ = .leaving) then
            t.trips = s.trips
              ∧ track t.loop d.track =
                (match usablePosition p (carEntry s d.track) with
                  | some q =>
                    { occ := if innerSide p d q then .occupied else .clear
                      last := none
                      unconfirmed := false }
                  | none =>
                    { occ := if (track s.loop d.track).occ = .entering then .occupied else .clear
                      last := none
                      unconfirmed := true })
          else t.seq.state = .tripped ∧ t.trips.own = addCause .loopSequence s.trips.own
            ∧ (t.trips.history.getLast?.map TripRecord.cause) = some .loopSequence
            ∧ (track t.loop d.track).unconfirmed = true)
      ∧ t.power = s.power ∧ t.time = s.time ∧ t.inputs = s.inputs ∧ t.loader = s.loader ∧ t.peers = s.peers
      ∧ t.port = s.port

/-! ## The signal line -/

/-- The beacon due time reached with no BEACON pending or in hand sets the pending-beacon mark and, at a node FAULTED by its
load, the pending-announce mark; an IDLE transmitter becomes DEFERRING (R71, R74, R76). When the due time counts as reached
across the wrap of node time is the model's choice (log entry 22). -/
def Obligations.DueBeaconIsPending : Prop :=
  ∀ (u d : Time) (s : State),
    held s = false → s.seq.state ≠ .starting → s.access.lastAttempt = some u → s.access.beaconDue = some d →
    (d - u).toNat ≤ (s.time.now - u).toNat → s.access.pendingBeacon = false → s.access.inHand ≠ some .beacon →
    exec .beaconDue s =
      .next
        { s with
          access.tx := if s.access.tx = .idle then .deferring else s.access.tx
          access.pendingBeacon := true
          access.pendingAnnounce :=
            s.access.pendingAnnounce || (s.seq.state == .faulted && s.loader.profile.isNone) }

/-- At the deferral gap an attempt starts with the frame in hand, else an ANNOUNCE, else a BEACON: the sequence number and
the attempt count advance, a mark is cleared for a frame newly taken, a BEACON attempt sets the due time, and the frame
sampled, of which every bit is still to be driven, is a well checked frame of the node's own with that number, from which a
receiver reads, field by field, what the owners hold at that moment; before the gap no attempt starts (R5, R16, R38, R67 to
R71, R74, R92, R183). The premises on the fields and on the class hold in every run (`StepKeepsTheRecords`,
`ClassFitsTheState`). -/
def Obligations.AttemptStarts : Prop :=
  ∀ (k : FrameKind) (trackLength wMax : Nat) (s : State),
    held s = false → s.seq.state ≠ .starting → s.access.tx = .deferring →
    (s.access.inHand = some k
      ∨ (s.access.inHand = none ∧ s.access.pendingAnnounce = true ∧ k = .announce)
      ∨ (s.access.inHand = none ∧ s.access.pendingAnnounce = false ∧ s.access.pendingBeacon = true ∧ k = .beacon)) →
    ∃ t, exec .attemptStart s = .next t ∧ t = { s with access := t.access }
      ∧ (s.access.gapReached = false → t.access = s.access)
      ∧ (s.access.gapReached = true →
          t.access =
            { s.access with
              tx := .sending
              inHand := some k
              pendingBeacon := s.access.pendingBeacon && !(s.access.inHand.isNone && k == .beacon)
              pendingAnnounce := s.access.pendingAnnounce && !(s.access.inHand.isNone && k == .announce)
              attempts := s.access.attempts + 1
              ownSeq := s.access.ownSeq + 1
              beaconDue :=
                if k = .beacon then some (s.time.now + BitVec.ofNat 32 (beaconPeriod s.cls.cls))
                else s.access.beaconDue
              lastAttempt := if k = .beacon then some s.time.now else s.access.lastAttempt
              gapReached := false
              txFrame := t.access.txFrame
              txBits := frameLevels t.access.txFrame
              lost := false
              sent := [] }
          ∧ wellChecked { octets := t.access.txFrame, framingError := false, overlong := false } = some k
          ∧ sourceId t.access.txFrame = ownId s ∧ frameSeq t.access.txFrame = s.access.ownSeq + 1
          ∧ (k = .beacon → fieldsFit s = true → classHolds s = true →
            parseBeacon trackLength wMax t.access.txFrame =
              some
                { state := s.seq.state
                  cls := s.cls.cls
                  wake := decide (0 < s.cls.wake)
                  annReq :=
                    s.peers.any (fun e => (e.fresh == .fresh || e.fresh == .stale) && e.verif == .unverified)
                  run := s.seq.run
                  dir := s.seq.dir
                  leg := s.seq.leg
                  dispatch := s.seq.dispatch && s.seq.state != .faulted
                  consent := s.seq.consent && s.seq.state != .faulted
                  recovery := s.seq.recovery
                  sdCode :=
                    if 0 < s.cls.commit then .commit
                    else match s.cls.sdRole with
                      | .none => .none
                      | .initiating => .request
                      | .acking => .ack
                  sdId :=
                    if 0 < s.cls.commit ∨ s.cls.sdRole = .initiating then Fin.ofNat 16 (ownId s).val
                    else if s.cls.sdRole = .acking then s.cls.sdId.elim 15 (fun i => Fin.ofNat 16 i.val)
                    else 15
                  position := if hasEncoder s = true then some (s.loader.profile.elim 0 (reported s)) else none
                  quality :=
                    if hasEncoder s = true ∧ s.loader.profile ≠ none then s.tracker.quality else .none
                  motion := if hasEncoder s = true then s.tracker.motion else .stopped
                  occA := if isLoop s = true then s.loop.trackA.occ else .clear
                  occB := if isLoop s = true then s.loop.trackB.occ else .clear
                  speed := if hasEncoder s = true then some s.tracker.speed else none
                  vperm := if s.seq.state = .faulted then 0 else s.envelope.vperm
                  load := if isCar s = true then s.tracker.load else none
                  cause :=
                    if s.seq.state = .tripped then s.trips.primary
                    else if s.seq.state = .faulted then s.seq.faultCause
                    else none
                  overhaul := s.envelope.overhaul
                  atMark := s.envelope.atMark
                  misaligned := isCar s && s.seq.misaligned
                  disagree := hasEncoder s && s.tracker.disagree
                  doorsShut := isCar s && s.inputs.pins.doorShut
                  brakesLifted := isCar s && s.brakes.tb.state == .lifted
                  gateOpen := s.envelope.gateOpen
                  commsStop := s.ceiling.comms.isSome
                  origin := s.trips.origin })
          ∧ (k = .announce → fieldsFit s = true →
            parseAnnounce t.access.txFrame =
              { role := role s
                side := side s
                held :=
                  { fingerprint := if s.seq.state = .faulted then 0 else s.loader.fingerprint
                    revision := if s.seq.state = .faulted then 0 else s.loader.revision
                    count := s.loader.profile.elim 0 (fun p => p.nodes.length)
                    resetCause := s.loader.resetCause } }))

/-- How an attempt ends. A line lost below four attempts leaves the frame in hand and the transmitter defers again; at the
fourth the frame is dropped. A frame driven and read back whole completes: it is released and kept for the test of its
readback; a BEACON that carried WAKE or COMMIT counts its count down, an ANNOUNCE clears every owed mark. A frame dropped
or completed leaves the transmitter DEFERRING where a mark is set and IDLE otherwise, and a BEACON asks for another while
COMMIT beacons remain. Neither command acts before the loss or the last bit (R72, R73, R93, R181, R185). That the
completion of the third COMMIT beacon, at which the code becomes NONE, asks for no further beacon is the model's choice
between R185 and R183 (log entry 14), and that the octets are kept for the readback is its own way of telling it (log entry
12). -/
def Obligations.AttemptEnds : Prop :=
  ∀ (k : FrameKind) (s : State),
    held s = false → s.seq.state ≠ .starting → s.access.tx = .sending → s.access.inHand = some k →
    (s.access.lost = false → exec .lineLost s = .next s)
    ∧ ((s.access.lost = true ∨ s.access.txBits ≠ []) → exec .attemptComplete s = .next s)
    ∧ (s.access.lost = true → s.access.attempts < 4 →
      exec .lineLost s =
        .next
          { s with
            access.tx := .deferring
            access.txFrame := []
            access.txBits := []
            access.lost := false })
    ∧ (s.access.lost = true → 4 ≤ s.access.attempts →
      exec .lineLost s =
        .next
          { s with
            access.tx :=
              if (k = .beacon ∧ 0 < s.cls.commit) ∨ s.access.pendingBeacon = true ∨ s.access.pendingAnnounce = true then
                .deferring
              else .idle
            access.inHand := none
            access.attempts := 0
            access.pendingBeacon := s.access.pendingBeacon || (k == .beacon && decide (0 < s.cls.commit))
            access.txFrame := []
            access.txBits := []
            access.lost := false })
    ∧ (s.access.lost = false → s.access.txBits = [] → ∃ t, exec .attemptComplete s = .next t
      ∧ t =
        { s with
          access.tx :=
            if (k = .beacon ∧ 0 < t.cls.commit) ∨ s.access.pendingBeacon = true ∨ s.access.pendingAnnounce = true then
              .deferring
            else .idle
          access.inHand := none
          access.attempts := 0
          access.pendingBeacon := s.access.pendingBeacon || (k == .beacon && decide (0 < t.cls.commit))
          access.txFrame := []
          access.txBits := []
          access.sent := s.access.txFrame
          peers := if k = .announce then s.peers.map (fun e => { e with owed := false }) else s.peers
          cls.wake :=
            s.cls.wake - (if k = .beacon ∧ (octetAt s.access.txFrame 2).testBit 1 = true then 1 else 0)
          cls.commit :=
            s.cls.commit - (if k = .beacon ∧ octetAt s.access.txFrame 6 / 64 = 3 then 1 else 0) })

/-- Frames cross the line bit by bit. A receiver at rest gathers the octets of the node's own frame, driven against a line
that nobody else drives, and of a frame that another node drives, up to 23 with the overlong mark beyond; 20 idle bit times
later the frame has ended, and the own one was driven whole without a loss. A node that drives RECESSIVE where another
drives DOMINANT loses the line and stops driving; one that drives DOMINANT goes on. In DEFERRING the gap is judged at every
bit boundary. (R65, R66, R71 to R73; the start bit after a RECESSIVE bit time is log entry 32.) -/
def Obligations.FramesCrossTheLine : Prop :=
  ∀ (gap : Nat) (l : List Byte) (own : Bool) (x : LineLevel) (rest : List LineLevel) (a : LineAccess),
    (l ≠ [] → a.rxBits = none → 0 < a.idleCount → a.rxBuffer = [] → a.rxFramingError = false → a.rxOverlong = false →
      a.lost = false → (if own then a.tx = .sending ∧ a.txBits = frameLevels l else a.tx ≠ .sending) →
      (bitTimes gap (10 * l.length) (if own then [] else frameLevels l) a).rxBuffer = l.take 23
        ∧ (bitTimes gap (10 * l.length) (if own then [] else frameLevels l) a).rxOverlong = decide (23 < l.length)
        ∧ (bitTimes gap (10 * l.length) (if own then [] else frameLevels l) a).rxFramingError = false
        ∧ attemptDriven (bitTimes gap (10 * l.length) (if own then [] else frameLevels l) a) = own
        ∧ frameHasEnded (bitTimes gap (10 * l.length + 20) (if own then [] else frameLevels l) a) = true
        ∧ (bitTimes gap (10 * l.length + 20) (if own then [] else frameLevels l) a).rxBuffer = l.take 23)
    ∧ (a.tx = .sending → a.txBits = .recessive :: rest →
      attemptLost (bitTime gap .dominant a) = true ∧ drivenLevel (bitTime gap .dominant a) = .recessive
        ∧ (a.lost = false → attemptLost (bitTime gap .recessive a) = false
            ∧ (bitTime gap .recessive a).txBits = rest))
    ∧ (a.tx = .sending → a.txBits = .dominant :: rest → a.lost = false →
      attemptLost (bitTime gap x a) = false ∧ (bitTime gap x a).txBits = rest ∧ (bitTime gap x a).idleCount = 0)
    ∧ (a.tx = .deferring → x = .dominant → (bitTime gap x a).idleCount = 0)
    ∧ (a.tx = .deferring → x = .recessive → (bitTime gap x a).idleCount = min (a.idleCount + 1) 255)
    ∧ (a.tx = .deferring → (bitTime gap x a).gapReached = decide (gap ≤ (bitTime gap x a).idleCount))

/-- What a frame end discards or finds to be the node's own. A frame that fails the reception checks, another node's frame
with an undefined code, from a source that is not listed or at a node with no profile, and any frame in STARTING, leaves
nothing. A well checked frame with the node's own id takes it to FAULTED with ID_CLASH, recorded, every unit applied and
the trip state emptied, unless it is the readback of its own; that the readback is known by the octets of the attempt that
has just completed is the model's choice (log entry 12). But at the end of the very frame that it reports no receive
command acts (R4, R66, R77 to R80, R173). -/
def Obligations.FrameEndsAreJudged : Prop :=
  ∀ (k : FrameKind) (f : RxFrame) (s : State),
    (frameEnds f s = false → exec (.receiveBadFrame f) s = .next s ∧ exec (receiveOf f k) s = .next s)
    ∧ (frameEnds f s = true → s.seq.state = .starting → exec (receiveOf f k) s = .next (frameEnded s))
    ∧ (frameEnds f s = true →
      (f.framingError = true ∨ f.overlong = true ∨ checkAgrees f.octets = false ∨ 7 < octetAt f.octets 0 % 16
        ∨ (octetAt f.octets 0 / 16 ≠ 1 ∧ octetAt f.octets 0 / 16 ≠ 2)
        ∨ (octetAt f.octets 0 / 16 = 1 ∧ f.octets.length ≠ 23) ∨ (octetAt f.octets 0 / 16 = 2 ∧ f.octets.length ≠ 9)
        ∨ (sourceId f.octets ≠ ownId s
            ∧ (s.loader.profile = none ∨ entryOf s (sourceId f.octets) = none
              ∨ (octetAt f.octets 0 / 16 = 1
                  ∧ s.loader.profile.all (fun p => (parseBeacon p.length p.wMax f.octets).isNone) = true)))
        ∨ s.seq.state = .starting) →
      exec (.receiveBadFrame f) s = .next (frameEnded s))
    ∧ (frameEnds f s = true → s.seq.state ≠ .starting → sourceId f.octets = ownId s → wellChecked f = some k →
      ∃ t, exec (receiveOf f k) s = .next t
        ∧ t.access.rxBuffer = [] ∧ t.access.sent = [] ∧ t.peers = s.peers ∧ t.loader = s.loader
        ∧ t.inputs = s.inputs ∧ t.time = s.time ∧ t.loop = s.loop ∧ t.port = s.port
        ∧ (if s.access.sent = f.octets ∨ s.seq.state = .faulted then t = frameEnded s
          else t.seq.state = .faulted ∧ t.seq.faultCause = some .idClash ∧ t.trips.own = [] ∧ t.trips.primary = none
            ∧ t.trips.origin = none ∧ allApplied t.brakes = true ∧ t.ceiling.line = 0 ∧ t.envelope.vperm = 0
            ∧ t.access.pendingAnnounce = true
            ∧ (t.trips.history.getLast?.map TripRecord.cause) = some .idClash
            ∧ (t.trips.history.getLast?.map TripRecord.secondary) = some (s.seq.state == .tripped)
            ∧ (t.trips.history.getLast?.map TripRecord.state) = some s.seq.state))

/-! ## The peer view and its readers -/

/-- A beacon accepted from a listed peer: its entry is FRESH with age 0 and takes the class, the sequence number and the
fields of the beacon; its verification and announce record stay, and so does every other entry. An ANNOUNCE is asked for
where the entry was EMPTY or LOST, and where ANN_REQ is set, none pends or is in hand, and the last request honoured, if
any, is a beacon period past, which becomes the time of the last. At a CAR that stays in DWELL a door-lock release once given
stands and MISALIGNED stays; at its loop stop, not MISALIGNED, the LOOP's beacon gives the release where it then shows the
own track OCCUPIED, and no other beacon gives one (R76, R87, R89, R93, R141). Where both stand the request is not
honoured, and the period is that of the class before the beacon, whatever class the beacon leads to: both are the model's
choice (log entries 35 and 43). The premise on the origin state holds in every run (`StepKeepsTheGates`). -/
def Obligations.AcceptedBeaconRenewsItsEntry : Prop :=
  ∀ (f : RxFrame) (e : Entry) (p : Profile) (r : BeaconRec) (honoured : Bool) (s : State),
    framed .beacon f e s = true → s.loader.profile = some p → parseBeacon p.length p.wMax f.octets = some r →
    sequenceAccepts e (frameSeq f.octets) = true →
    honoured = (r.annReq && (e.fresh == .fresh || e.fresh == .stale) && !s.access.pendingAnnounce
      && s.access.inHand != some .announce
      && s.access.lastHonoured.all (fun u => decide (beaconPeriod s.cls.cls ≤ (s.time.now - u).toNat))) →
    ∃ t, exec (.receiveBeacon f) s = .next t
      ∧ t.peers = s.peers.map (fun x =>
        if x.id = e.id then
          { e with
            fresh := .fresh
            age := 0
            cls := some r.cls
            lastSeq := some (frameSeq f.octets)
            beacon := some r
            owed := e.owed || e.fresh == .empty || e.fresh == .lost || r.annReq }
        else x)
      ∧ t.access.rxBuffer = [] ∧ t.access.idleCount = s.access.idleCount
      ∧ (originGated s = true →
          t.access.pendingAnnounce = (s.access.pendingAnnounce || e.fresh == .empty || e.fresh == .lost || honoured))
      ∧ t.access.lastHonoured = (if honoured then some s.time.now else s.access.lastHonoured)
      ∧ (isCar s = true → s.seq.state = .dwell → t.seq.state = .dwell →
          t.seq.misaligned = s.seq.misaligned
          ∧ (e.role = .loop → s.seq.misaligned = false → (stopsNear p s).isEmpty = false →
              (stopsNear p s).all (fun k => k.loopFlag == 1) = true →
              t.seq.doorRelease = (s.seq.doorRelease || loopShowsOccupied t))
          ∧ ((e.role ≠ .loop ∨ s.seq.misaligned = true ∨ (stopsNear p s).all (fun k => k.loopFlag != 1) = true) →
              t.seq.doorRelease = s.seq.doorRelease))
      ∧ t.power = s.power ∧ t.time = s.time ∧ t.inputs = s.inputs ∧ t.loader = s.loader ∧ t.port = s.port
      ∧ t.loop = s.loop

/-- A BEACON's sequence number is tested by the freshness of its entry: EMPTY or LOST accept any number, FRESH and STALE one
that is newer by 1 to 127; a discarded beacon leaves the entry as it was, every field and the age included, and reaches no
other block: the frame ends, and that is all (R86). -/
def Obligations.SequenceNumberIsTested : Prop :=
  ∀ (f : RxFrame) (e : Entry) (n : SeqNo) (p : Profile) (r : BeaconRec) (s : State),
    framed .beacon f e s = true → s.loader.profile = some p → parseBeacon p.length p.wMax f.octets = some r →
    ((e.fresh = .fresh ∨ e.fresh = .stale) → e.lastSeq = some n) →
    ∃ t, exec (.receiveBeacon f) s = .next t
      ∧ (if e.fresh = .empty ∨ e.fresh = .lost
            ∨ (1 ≤ (frameSeq f.octets - n).toNat ∧ (frameSeq f.octets - n).toNat ≤ 127) then
          (entryOf t e.id).map Entry.lastSeq = some (some (frameSeq f.octets))
            ∧ (entryOf t e.id).map Entry.beacon = some (some r)
            ∧ (entryOf t e.id).map Entry.verif = some e.verif
        else t = frameEnded s)

/-- An ANNOUNCE from a listed peer: the entry takes its sequence number and record, and its verdict is MATCHED when the five
comparisons of R91 hold and MISMATCHED otherwise; freshness and age stay, and so does every other entry (R90, R91). -/
def Obligations.AnnounceGivesTheVerdict : Prop :=
  ∀ (f : RxFrame) (e : Entry) (p : Profile) (a : AnnounceFrame) (s : State),
    framed .announce f e s = true → s.loader.profile = some p → parseAnnounce f.octets = a →
    ∃ t, exec (.receiveAnnounce f) s = .next t
      ∧ t.peers = s.peers.map (fun x =>
        if x.id = e.id then
          { e with
            lastSeq := some (frameSeq f.octets)
            announce := some a.held
            verif :=
              if a.held.fingerprint = s.loader.fingerprint ∧ a.held.revision = s.loader.revision
                  ∧ a.held.count = p.nodes.length ∧ a.role = e.role ∧ a.side = e.side then .matched
              else .mismatched }
        else x)
      ∧ t.access.rxBuffer = []
      ∧ t.power = s.power ∧ t.time = s.time ∧ t.inputs = s.inputs ∧ t.loader = s.loader ∧ t.port = s.port
      ∧ t.loop = s.loop ∧ t.trips.own = s.trips.own ∧ t.trips.history = s.trips.history

/-- Ageing past a limit: a FRESH entry becomes STALE, its freshness alone changing; a STALE entry becomes LOST and
UNVERIFIED, every other field kept, and in RUNNING a comms stop begins from the ceiling that stood (R84, R85, R108, R109). -/
def Obligations.AgeingWithdrawsTheEntry : Prop :=
  ∀ (c : Instr) (e : Entry) (k : BeaconClass) (s : State),
    held s = false → entryOf s e.id = some e → e.cls = some k →
    ((c = .entryStale e.id ∧ e.fresh = .fresh ∧ staleLimit k < e.age)
      ∨ (c = .entryLost e.id ∧ e.fresh = .stale ∧ lostLimit k < e.age)) →
    ∃ t, exec c s = .next t
      ∧ t.peers = s.peers.map (fun x =>
        if x.id = e.id then
          (if e.fresh = .fresh then { e with fresh := .stale } else { e with fresh := .lost, verif := .unverified })
        else x)
      ∧ (e.fresh = .stale → s.seq.state = .running → t.seq.state = .running → s.ceiling.comms = none →
          t.ceiling.comms = some { v := s.ceiling.line, b := s.envelope.bEff.getD 0, t := s.time.now })
      ∧ t.power = s.power ∧ t.time = s.time ∧ t.inputs = s.inputs ∧ t.loader = s.loader ∧ t.port = s.port
      ∧ t.loop = s.loop ∧ t.trips.own = s.trips.own ∧ t.trips.history = s.trips.history

/-- A DISPATCH beacon accepted from a peer whose entry is FRESH. In DWELL or HOLD a newer run that the node consents to is
adopted, and the node is ARMED for it; otherwise it is not. In ARMED a proposal of the same run from a lower id than the
source's, or of a newer run, is taken where the node consents, and otherwise takes it out of ARMED; any other proposal
leaves the run fields alone (R127 to R131, R133). The premises shut out a peer that shows TRIPPED (R168), NIGHT (R187) or,
as DRIVE, RUNNING (R136), and hold the stand-down part to its state (`ClassFitsTheState`). That a node in DWELL with a
stand-down part judges the proposal before what the same beacon gives that part, such as its initiator's COMMIT, is the
model's choice (log entry 8). -/
def Obligations.DispatchBeaconIsJudged : Prop :=
  ∀ (f : RxFrame) (e : Entry) (p : Profile) (r : BeaconRec) (s : State),
    acceptedFresh f e p r s = true → r.dispatch = true → partFits s = true →
    r.state ≠ .tripped → r.state ≠ .night → ¬(e.role = .drive ∧ r.state = .running) →
    ∃ t, exec (.receiveBeacon f) s = .next t
      ∧ (resting s = true →
          if newerRun r.run s.seq.run = true ∧ consents (renewed f e r s) r.leg r.recovery = true then
            t.seq =
              { s.seq with
                state := .armed
                origin := some s.seq.state
                run := r.run
                dir := r.dir
                leg := r.leg
                recovery := r.recovery
                dispatch := false
                consent := true
                dispatchOrigin := some e.id
                deadline := some (s.time.now + BitVec.ofNat 32 (p.tArm * 1000))
                stage := t.seq.stage
                misaligned := false
                doorRelease := false
                gateRelease := false }
            ∧ (isDrive s = false → t.seq.stage = .idle) ∧ beaconAsked t = true
            ∧ (isCar s = true → s.brakes.tb.state = .applied → t.brakes.tb.state = .lifting)
          else t.seq.run = s.seq.run ∧ t.seq.state ≠ .armed)
      ∧ (s.seq.state = .armed → (s.seq.origin = some .dwell ∨ s.seq.origin = some .hold) →
          if (r.run = s.seq.run ∧ s.seq.dispatchOrigin.any (fun o => decide (e.id < o)) = true)
              ∨ newerRun r.run s.seq.run = true then
            if consents (renewed f e r s) r.leg r.recovery = true then
              t.seq =
                { s.seq with
                  run := r.run
                  dir := r.dir
                  leg := r.leg
                  recovery := r.recovery
                  dispatch := false
                  consent := true
                  dispatchOrigin := some e.id
                  deadline := some (s.time.now + BitVec.ofNat 32 (p.tArm * 1000))
                  stage := t.seq.stage }
              ∧ (isDrive s = false → t.seq.stage = s.seq.stage)
              ∧ (newerRun r.run s.seq.run = true → beaconAsked t = true)
            else some t.seq.state = s.seq.origin ∧ t.seq.run = s.seq.run ∧ t.seq.dir = .none
              ∧ allApplied t.brakes = true
          else t.seq = { s.seq with stage := t.seq.stage } ∧ (isDrive s = false → t.seq = s.seq))
      ∧ (s.seq.state = .running ∨ s.seq.state = .stopping ∨ s.seq.state = .tripped → t.seq.run = s.seq.run)
      ∧ t.power = s.power ∧ t.time = s.time ∧ t.inputs = s.inputs ∧ t.loader = s.loader ∧ t.loop = s.loop
      ∧ t.port = s.port

/-- A run is followed from beacons of FRESH peers. In ARMED a node other than the DRIVE, at the DRIVE's RUNNING for its own
run, enters RUNNING, with the DRIVE's run fields where it consents to them, and leaves for its origin state where it does
not. In RUNNING a peer's AT_MARK for its own run takes it to STOPPING (or, a DRIVE at standstill whose SB was not applied,
on to DWELL), and nothing else in the beacon takes it out. In STOPPING a node other than the DRIVE, at the DRIVE's DWELL for
its own run, enters DWELL, a CAR only at standstill. A CAR that enters DWELL is MISALIGNED, from STOPPING, where its
distance to stop is absent or beyond W_stop, and from ARMED, where its quality is NONE or no stop is within W_stop; its door
is released as `doorJudged` tells (R64, R136 to R139, R141). The premises shut out DISPATCH, a peer that shows TRIPPED
(R168) or NIGHT (R187), and hold the stand-down part to its state. That a beacon which takes the node into RUNNING or
STOPPING is not judged again in the state entered is the model's choice (log entry 51). -/
def Obligations.RunIsFollowed : Prop :=
  ∀ (f : RxFrame) (e : Entry) (p : Profile) (r : BeaconRec) (s : State),
    acceptedFresh f e p r s = true → r.dispatch = false → partFits s = true →
    r.state ≠ .tripped → r.state ≠ .night →
    ∃ t, exec (.receiveBeacon f) s = .next t
      ∧ (s.seq.state = .armed → (s.seq.origin = some .dwell ∨ s.seq.origin = some .hold) →
          if isDrive s = false ∧ e.role = .drive ∧ r.state = .running ∧ r.run = s.seq.run then
            if (r.dir = s.seq.dir ∧ r.leg = s.seq.leg ∧ r.recovery = s.seq.recovery)
                ∨ consents (renewed f e r s) r.leg r.recovery = true then
              t.seq =
                { s.seq with
                  state := .running
                  origin := none
                  dir := r.dir
                  leg := r.leg
                  recovery := r.recovery
                  dispatch := false
                  consent := false
                  dispatchOrigin := none
                  deadline := none
                  stage := .idle
                  misaligned := false
                  doorRelease := false
                  gateRelease := false }
              ∧ t.ceiling.line = formedCeiling t ∧ beaconAsked t = true
            else some t.seq.state = s.seq.origin ∧ t.seq.run = s.seq.run ∧ allApplied t.brakes = true
              ∧ doorJudged (awayFromStops p s) p t = true
          else t.seq = { s.seq with stage := t.seq.stage } ∧ (isDrive s = false → t.seq = s.seq))
      ∧ (s.seq.state = .running →
          if r.atMark = true ∧ r.run = s.seq.run then
            t.seq.run = s.seq.run ∧ t.ceiling.line = 0 ∧ t.envelope.vperm = 0 ∧ beaconAsked t = true
              ∧ (isDrive s = true → t.brakes.sb.state = .applied)
              ∧ (if isDrive s = true ∧ standstill s = true ∧ s.brakes.sb.state ≠ .applied then t.seq.state = .dwell
                else t.seq.state = .stopping ∧ t.seq.dir = s.seq.dir)
          else t.seq = s.seq)
      ∧ (s.seq.state = .stopping →
          if isDrive s = false ∧ e.role = .drive ∧ r.state = .dwell ∧ r.run = s.seq.run
              ∧ (isCar s = true → standstill s = true) then
            t.seq.state = .dwell ∧ t.seq.run = s.seq.run ∧ t.seq.dir = .none ∧ allApplied t.brakes = true
              ∧ doorJudged (stoppedWide p s) p t = true
          else t.seq = s.seq ∧ t.brakes = s.brakes)
      ∧ t.power = s.power ∧ t.time = s.time ∧ t.inputs = s.inputs ∧ t.loader = s.loader ∧ t.loop = s.loop
      ∧ t.port = s.port

/-- A beacon of a FRESH peer at a node that stays RUNNING: a MATCHED peer's vperm below the line ceiling lowers it at once,
and COMMS_STOP shown for the node's own run begins a comms stop from the ceiling that stood before the beacon, with the
ceiling formed afresh; otherwise neither moves (R107 to R109). -/
def Obligations.BeaconLowersTheCeiling : Prop :=
  ∀ (f : RxFrame) (e : Entry) (p : Profile) (r : BeaconRec) (s : State),
    acceptedFresh f e p r s = true → s.seq.state = .running → r.state ≠ .tripped →
    ¬(r.atMark = true ∧ r.run = s.seq.run) → partFits s = true →
    ∃ t, exec (.receiveBeacon f) s = .next t ∧ t.seq.state = .running
      ∧ (if r.commsStop = true ∧ r.run = s.seq.run ∧ s.ceiling.comms = none then
          t.ceiling.comms = some { v := s.ceiling.line, b := s.envelope.bEff.getD 0, t := s.time.now }
            ∧ t.ceiling.line = formedCeiling t ∧ (e.verif = .matched → t.ceiling.line ≤ r.vperm)
        else
          t.ceiling.comms = s.ceiling.comms
            ∧ t.ceiling.line = (if e.verif = .matched ∧ r.vperm < s.ceiling.line then r.vperm else s.ceiling.line))
      ∧ (s.ceiling.line ≠ 0 → t.ceiling.line = 0 → driveEn t = false)
      ∧ t.seq = s.seq ∧ t.brakes = s.brakes ∧ t.envelope = s.envelope ∧ t.power = s.power ∧ t.time = s.time
      ∧ t.inputs = s.inputs ∧ t.loader = s.loader ∧ t.loop = s.loop ∧ t.port = s.port

/-- Wakes and stand-downs heard from a FRESH peer that shows no TRIPPED, at a node in service. WAKE gives class RUN, ends a
part and takes a node out of NIGHT by the standing test. In DWELL, with neither WAKE nor DISPATCH: a REQUEST with its
sender's own id is answered by a standing node that holds no part, acks a higher id, or initiates with a higher id, which
then has yielded; the initiator commits and enters NIGHT when every heard peer shows ACK with its id and the DRIVE is
heard, and cancels when a heard peer has left DWELL; an acker follows its initiator's COMMIT or NIGHT into NIGHT, waits on
its REQUEST, and cancels at anything else (R181, R182, R185 to R188). The model's choice is the order where several fall
together: the cancel before the commit (log entry 28); within the beacon WAKE, then the answer, then the judgements of the
part, so that an initiator yields to a lower REQUEST whose sender has left DWELL (log entry 38); and the run before the
wake, so that a node that WAKE takes out of NIGHT adopts no run from the same beacon (log entry 8). -/
def Obligations.WakeAndStandDownAreHeard : Prop :=
  ∀ (f : RxFrame) (e : Entry) (p : Profile) (r : BeaconRec) (requests commits : Bool) (s : State),
    acceptedFresh f e p r s = true → inService s = true → partFits s = true → r.state ≠ .tripped →
    requests = (r.sdCode == .request && decide (r.sdId.val = e.id.val)) →
    commits = (r.sdCode == .commit && decide (r.sdId.val = e.id.val)) →
    ∃ t, exec (.receiveBeacon f) s = .next t
      ∧ (r.wake = true → requests = false → t.cls.cls = .run ∧ t.cls.sdRole = .none
          ∧ (s.seq.state = .night → t.seq.state = standingTest (renewed f e r s) ∧ t.seq.run = s.seq.run
              ∧ beaconAsked t = true)
          ∧ (s.cls.cls ≠ .run → beaconAsked t = true))
      ∧ (s.seq.state = .dwell → r.wake = false → r.dispatch = false →
          (s.cls.sdRole = .none → t.cls.sdRole ≠ .initiating ∧ t.cls.outcome =
            (if t.seq.state = .night then .committed else s.cls.outcome))
          ∧ (requests = true → r.state ≠ .night → stands (renewed f e r s) = true →
              (s.cls.sdRole = .none ∨ (s.cls.sdRole = .acking ∧ s.cls.sdId.any (fun i => decide (e.id < i)) = true)
                ∨ (s.cls.sdRole = .initiating ∧ e.id < ownId s)) →
              t.seq.state = .dwell ∧ t.cls.sdRole = .acking ∧ t.cls.sdId = some e.id
                ∧ t.cls.sdDeadline = some (s.time.now + BitVec.ofNat 32 (p.tSd * 1000)) ∧ beaconAsked t = true
                ∧ t.cls.outcome = (if s.cls.sdRole = .initiating then .yielded else s.cls.outcome))
          ∧ (s.cls.sdRole = .initiating → requests = false →
              if peerLeftDwell (renewed f e r s) = true then
                t.seq.state = .dwell ∧ t.cls.sdRole = .none ∧ t.cls.outcome = .cancelled ∧ beaconAsked t = true
              else if commitDue (renewed f e r s) = true then
                t.seq.state = .night ∧ t.cls.sdRole = .none ∧ t.cls.outcome = .committed ∧ t.cls.commit = 3
                  ∧ t.cls.cls = .dormant ∧ beaconAsked t = true
              else t.seq.state = .dwell ∧ t.cls.sdRole = .initiating ∧ t.cls.sdId = s.cls.sdId
                ∧ t.cls.outcome = s.cls.outcome)
          ∧ (s.cls.sdRole = .acking → s.cls.sdId = some e.id →
              if r.state = .night ∨ commits = true then
                t.seq.state = .night ∧ t.cls.sdRole = .none ∧ t.cls.outcome = .committed ∧ t.cls.cls = .dormant
                  ∧ t.cls.commit = s.cls.commit ∧ allApplied t.brakes = true
              else if requests = true then
                t.seq.state = .dwell ∧ t.cls.sdRole = .acking ∧ t.cls.sdId = some e.id
                  ∧ t.cls.sdDeadline = s.cls.sdDeadline
              else t.seq.state = .dwell ∧ t.cls.sdRole = .none ∧ t.cls.outcome = .cancelled ∧ beaconAsked t = true))
      ∧ t.power = s.power ∧ t.time = s.time ∧ t.inputs = s.inputs ∧ t.loader = s.loader ∧ t.loop = s.loop
      ∧ t.port = s.port

/-! ## Deadlines -/

/-- Deadlines run out. At the arming deadline a node in ARMED leaves for its origin state: the run number stays, the other
run fields are cleared, every unit drops, an immediate beacon is asked for, and a CAR back in DWELL is MISALIGNED where its
quality is NONE or no stop is within W_stop, its door released as `doorJudged` tells. In a quiet spell the class goes from
RUN to STILL after T_still seconds and from STILL to DEEP_STILL after T_deep times ten: the clock begins again, the beacon
due time moves to the new period, and an immediate beacon is asked for. At its deadline a stand-down part ends with the
outcome EXPIRED, and an immediate beacon is asked for (R74, R75, R122, R123, R132, R141, R178, R179, R188). When a deadline
counts as reached across the wrap of node time is the model's choice (log entry 22). -/
def Obligations.DeadlinesRunOut : Prop :=
  ∀ (d : Time) (p : Profile) (s : State), held s = false →
    (s.seq.state = .armed → s.seq.deadline = some d → (s.time.now - d).toNat < 2147483648 →
      (s.seq.origin = some .dwell ∨ s.seq.origin = some .hold) →
      ∃ t, exec .armingDeadline s = .next t
        ∧ some t.seq.state = s.seq.origin ∧ t.seq.run = s.seq.run ∧ t.seq.dir = .none ∧ t.seq.leg = none
        ∧ t.seq.recovery = false ∧ t.seq.dispatch = false ∧ t.seq.consent = false ∧ t.seq.origin = none
        ∧ t.seq.dispatchOrigin = none ∧ t.seq.deadline = none ∧ t.seq.stage = .idle
        ∧ allApplied t.brakes = true ∧ t.ceiling.line = 0 ∧ t.envelope.vperm = 0 ∧ beaconAsked t = true
        ∧ (s.loader.profile = some p → doorJudged (awayFromStops p s) p t = true)
        ∧ t.power = s.power ∧ t.time = s.time ∧ t.inputs = s.inputs ∧ t.loader = s.loader ∧ t.peers = s.peers
        ∧ t.loop = s.loop ∧ t.trips = s.trips ∧ t.port = s.port)
    ∧ (s.loader.profile = some p → quietSpell s = true → s.cls.clock = some d →
      ((s.cls.cls = .run ∧ p.tStill * 1000 ≤ (s.time.now - d).toNat)
        ∨ (s.cls.cls = .still ∧ p.tDeep * 10000 ≤ (s.time.now - d).toNat)) →
      ∃ t, exec .downshift s = .next t ∧ t = { s with access := t.access, cls := t.cls }
        ∧ t.cls =
          { s.cls with
            cls := if s.cls.cls = .run then .still else .deepStill
            clock := some s.time.now }
        ∧ t.access.beaconDue =
            s.access.lastAttempt.map (fun x => x + (if s.cls.cls = .run then 250 else 1000))
        ∧ beaconAsked t = true)
    ∧ (s.cls.sdDeadline = some d → (s.time.now - d).toNat < 2147483648 →
      ∃ t, exec .standDownDeadline s = .next t ∧ t = { s with access := t.access, cls := t.cls }
        ∧ (s.cls.sdRole ≠ .none →
            t.cls = { s.cls with sdRole := .none, sdId := none, sdDeadline := none, outcome := .expired }
              ∧ beaconAsked t = true)
        ∧ (s.cls.sdRole = .none → t = s))

/-! ## The ceiling and its output -/

/-- In RUNNING with no comms stop the line ceiling formed is no more than V_line_max, the own vperm, V_crawl in a recovery
run, and what each MATCHED entry gives (its vperm while FRESH, that capped at V_stale_cap while STALE), and it is one of
those values (R105). -/
def Obligations.LineCeilingIsTheLeastTerm : Prop :=
  ∀ (s : State) (p : Profile),
    s.seq.state = .running → s.loader.profile = some p → s.ceiling.comms = none →
    formedCeiling s ≤ p.vLineMax ∧ formedCeiling s ≤ s.envelope.vperm
    ∧ (s.seq.recovery = true → formedCeiling s ≤ p.vCrawl)
    ∧ (∀ e ∈ s.peers, ∀ r ∈ e.beacon, e.verif = .matched →
        (e.fresh = .fresh → formedCeiling s ≤ r.vperm)
          ∧ (e.fresh = .stale → formedCeiling s ≤ r.vperm ∧ formedCeiling s ≤ p.vStaleCap))
    ∧ (formedCeiling s = p.vLineMax ∨ formedCeiling s = s.envelope.vperm
        ∨ (s.seq.recovery = true ∧ formedCeiling s = p.vCrawl)
        ∨ ∃ e ∈ s.peers, ∃ r ∈ e.beacon, e.verif = .matched
            ∧ ((e.fresh = .fresh ∧ formedCeiling s = r.vperm)
              ∨ (e.fresh = .stale ∧ formedCeiling s = min r.vperm p.vStaleCap)))

/-- The ceiling output. A zero ceiling leaves it low with DRIVE_EN inactive. The generator takes a positive line ceiling,
whose period is ceil(100,000 / c) µs, `q` here: with no period in progress it begins at once, high; a longer period begins
at once, an equal one goes on and drops any pending one, a shorter one waits as the pending period and begins, high, when
the period in progress ends. A period's high part gives way to its low part, and its end to a period of the same length
where none is pending (R116 to R118). That CEILING_APPLY is the tick at which a positive ceiling is taken is the model's
choice (log entry 10). -/
def Obligations.CeilingOutputRunsItsPeriods : Prop :=
  ∀ (q cur : Nat) (s : State), held s = false →
    (isDrive s = true → s.seq.state ≠ .starting → s.ceiling.line = 0 →
      ∃ t, exec .ceilingApply s = .next t ∧ t = { s with generator := t.generator } ∧ driveEn t = false
        ∧ ceilingOut t = false)
    ∧ (isDrive s = true → s.seq.state ≠ .starting → 1 ≤ s.ceiling.line →
      100000 ≤ q * s.ceiling.line → (q - 1) * s.ceiling.line < 100000 →
      ∃ t, exec .ceilingApply s = .next t ∧ t = { s with generator := t.generator } ∧ driveEn t = true
        ∧ ((s.generator.current = none ∨ ∃ c ∈ s.generator.current, c < q) →
            t.generator = { current := some q, next := none, phase := .high, micros := 0 } ∧ ceilingOut t = true)
        ∧ (s.generator.current = some q → t.generator = { s.generator with next := none })
        ∧ (∀ c ∈ s.generator.current, q < c → t.generator = { s.generator with next := some q }
            ∧ (s.generator.phase = .low → c / 2 ≤ s.generator.micros →
                exec .periodEnd t =
                  .next { t with generator := { current := some q, next := none, phase := .high, micros := 0 } })))
    ∧ (s.generator.current = some cur → s.generator.phase = .high → (cur + 1) / 2 ≤ s.generator.micros →
      exec .highPhaseEnd s = .next { s with generator.phase := .low, generator.micros := 0 })
    ∧ (s.generator.current = some cur → s.generator.next = none → s.generator.phase = .low →
      cur / 2 ≤ s.generator.micros →
      exec .periodEnd s = .next { s with generator.phase := .high, generator.micros := 0 })

/-! ## The service port -/

/-- A selection opens a transaction in COMMAND with nothing to answer, sending zeros; its end returns the port to IDLE with
the data output at high impedance, and without an accepted RESTART nothing else moves (R190, R193). -/
def Obligations.SelectionOpensATransaction : Prop :=
  ∀ (x : Straps) (s : State), held s = false →
    (s.port.selected = false → serviceOut s = none
      ∧ ∃ t, exec .serviceSelect s = .next t ∧ serviceOut t = some false
        ∧ t =
          { s with
            port :=
              { selected := true, state := .command, shift := [], answer := [], sent := 0, restart := false } })
    ∧ ((s.port.selected = false ∨ s.port.restart = false) →
      ∃ t, exec (.serviceDeselect x) s = .next t ∧ serviceOut t = none
        ∧ t =
          { s with
            port :=
              { selected := false, state := .idle, shift := [], answer := [], sent := 0, restart := false } })

/-- The readout commands answer in COMMAND, in any node state, with a status octet, the record and a check sequence that
agrees, of which a selected port sends the first octet's first bit next, and change nothing but the port: STATUS 30 octets,
PEER k 30, TRIP k 23 with 0 the newest, PROFILE b 17, each with NO_ENTRY where there is no such record, and a command octet
of code 0 or 7 answers UNKNOWN; in any other transaction state no command is taken (R190, R191, R194). What the records show
where R194 gives no value is the model's (log entries 7 and 41). -/
def Obligations.ReadoutAnswersItsRecord : Prop :=
  ∀ (c : Instr) (k : BitVec 5) (v : Bool) (record : Option (List Byte)) (s : State), held s = false →
    ((c = .status k ∧ record = some (statusRecord s))
      ∨ (c = .peer k ∧ record = (s.peers[k.toNat]?).map peerRecord)
      ∨ (c = .trip k ∧ record = (s.trips.history.reverse[k.toNat]?).map historyRecord)
      ∨ (c = .profile k ∧ record =
          if 16 * k.toNat < s.loader.heldLength then
            some (octet (min 16 (s.loader.heldLength - 16 * k.toNat))
              :: Store.block s.loader.store s.loader.heldLength k.toNat)
          else none)
      ∨ (c = .unknown v k ∧ record = none)) →
    (s.port.state ≠ .command → exec c s = .next s)
    ∧ (s.port.state = .command → ∃ t, exec c s = .next t
        ∧ t = { s with port := { s.port with state := .answer, shift := [], answer := t.port.answer, sent := 0 } }
        ∧ (s.port.selected = true → serviceOut t = t.port.answer.head?.map BitVec.msb)
        ∧ checkAgrees t.port.answer = true
        ∧ t.port.answer.take (t.port.answer.length - 2) =
            (match record with
              | some l => 0x00#8 :: l
              | none => if c = .unknown v k then [0x03#8] else [0x01#8])
        ∧ t.port.answer.length =
            (match record with
              | none => 3
              | some _ => match c with
                | .status _ => 33
                | .peer _ => 33
                | .trip _ => 26
                | _ => 20))

/-- RESTART and CLEAR_HISTORY in COMMAND: answered OK in DWELL, HOLD, NIGHT and FAULTED with the node standing, a LOOP or
TERMINAL FAULTED by its load counting as standing, and REFUSED otherwise; an accepted RESTART waits for the deselection, an
accepted CLEAR_HISTORY empties the history and keeps the next serial (R175, R193). -/
def Obligations.ServiceActsAtRestOnly : Prop :=
  ∀ (c : Instr) (k : BitVec 5) (ok : Bool) (s : State),
    held s = false → s.port.state = .command → (c = .restart k ∨ c = .clearHistory k) →
    (ok = true ↔ (s.seq.state = .dwell ∨ s.seq.state = .hold ∨ s.seq.state = .night ∨ s.seq.state = .faulted)
      ∧ (stands s = true ∨ (hasEncoder s = false ∧ s.seq.state = .faulted ∧ s.loader.profile = none))) →
    ∃ t, exec c s = .next t
      ∧ t =
        { s with
          port :=
            { s.port with
              state := .answer
              shift := []
              answer := t.port.answer
              sent := 0
              restart := s.port.restart || (ok && c == .restart k) }
          trips.history := if ok && c == .clearHistory k then [] else s.trips.history }
      ∧ t.port.answer.head? = some (if ok then 0x00#8 else 0x02#8)
      ∧ t.port.answer.length = 3 ∧ checkAgrees t.port.answer = true

/-! ## Headline statements -/

/-- Frames round trip: a BEACON whose fields lie in the ranges of the layout, and every ANNOUNCE whose count fits its octet,
is well checked, names its sender and its number, and is read back field for field (R67, R68, R70, R77, R78). -/
def Obligations.FramesRoundTrip : Prop :=
  ∀ (id : NodeId) (n : SeqNo) (trackLength wMax : Nat) (r : BeaconRec) (a : AnnounceFrame),
    (r.position.getD 0 ≤ 400000 → r.speed.getD 0 ≤ 1400 → r.vperm ≤ 1400 → r.load.getD 0 ≤ 20000 →
      (r.sdCode ≠ .none → r.sdId.val ≤ 7) → (∀ o ∈ r.origin, causeCode o.2 ≤ 12) →
      parseBeacon trackLength wMax (beaconFrame id n r) = some r
        ∧ wellChecked { octets := beaconFrame id n r, framingError := false, overlong := false } = some .beacon
        ∧ sourceId (beaconFrame id n r) = id ∧ frameSeq (beaconFrame id n r) = n)
    ∧ (a.held.count ≤ 255 →
      parseAnnounce (announceFrame id n a) = a
        ∧ wellChecked { octets := announceFrame id n a, framingError := false, overlong := false } = some .announce
        ∧ sourceId (announceFrame id n a) = id ∧ frameSeq (announceFrame id n a) = n)

/-- Every step keeps the gates of the node states: line ceiling 0 outside RUNNING and no output with it, vperm 0 outside
ARMED and RUNNING, every brake unit APPLIED outside ARMED, RUNNING and STOPPING, the run fields clear outside those,
DISPATCH and CONSENT only in ARMED, the origin state DWELL or HOLD there and with the dispatch origin and the arming deadline
none elsewhere, the door-lock release only at a CAR in DWELL that is not MISALIGNED, MISALIGNED only at a
CAR in DWELL, and the gate-lock release exactly at a TERMINAL in DWELL, HOLD, TRIPPED and NIGHT (R55, R106, R118, R122, R123,
R132, R141, R143, R158). -/
def Obligations.StepKeepsTheGates : Prop :=
  ∀ (s t : State), gatesHold s = true → step s = .next t → gatesHold t = true

/-- Every step keeps the Class Controller fitted to the node state: DORMANT exactly in NIGHT, STILL and DEEP_STILL only in
DWELL and HOLD, COMMIT beacons only in NIGHT and at most three, WAKE at most three, a stand-down part only in DWELL with its
id and deadline (R177 to R188). -/
def Obligations.ClassFitsTheState : Prop :=
  ∀ (s t : State), classHolds s = true → step s = .next t → classHolds t = true

/-- Every step keeps the records: at most eight trip records with consecutive serials that the next serial continues, a next
serial from 1 to 65,535, the image store in its canonical form, and in the fields of the layout what the node's frames carry:
a profile with its parameters in range, a speed and a vperm of at most 1,400, a load of at most 20,000, a peer-trip origin
with a cause of at most 12, and no node without a profile but in STARTING and FAULTED (R10, R15, R19, R30, R53, R67, R168,
R175, and the model's form of the store, log entry 15). -/
def Obligations.StepKeepsTheRecords : Prop :=
  ∀ (s t : State), recordsHold s = true → step s = .next t → recordsHold t = true

/-- The three invariants hold at reset, which is the beginning of a cold start with no command waiting (log entry 4). -/
def Obligations.InvariantsHoldAtReset : Prop :=
  gatesHold State.reset = true ∧ classHolds State.reset = true ∧ recordsHold State.reset = true
    ∧ State.reset.seq.state = .starting ∧ State.reset.loader.resetCause = .coldPower
    ∧ State.reset.time.now = 0 ∧ State.reset.trips.nextSerial = 1 ∧ State.reset.pending = []
end

