-- ==== Sys2Proof/Laws/Bits.lean ====
section
/-! SUPPORT. What a bit time of the signal line can do: one lemma for each operation on the Line Access Unit, and what a
reception can do. -/

namespace Sys2Proof.Machine

/-! ## Levels (R65) -/

/-- The line is RECESSIVE exactly where nobody drives it. -/
theorem lineLevel_recessive (a b : LineLevel) : lineLevel a b = .recessive ↔ a = .recessive ∧ b = .recessive := by
  cases a <;> cases b <;> simp [lineLevel]

@[simp] theorem lineLevel_self (a : LineLevel) : lineLevel a a = a := by cases a <;> rfl
@[simp] theorem recessive_lineLevel (b : LineLevel) : lineLevel .recessive b = b := by cases b <;> rfl
@[simp] theorem lineLevel_of_recessive (a : LineLevel) : lineLevel a .recessive = a := by cases a <;> rfl
@[simp] theorem octetLevels_length (b : Byte) : (octetLevels b).length = 10 := by simp [octetLevels]
@[simp] theorem frameLevels_nil : frameLevels [] = [] := rfl
@[simp] theorem frameLevels_cons (b : Byte) (l : List Byte) : frameLevels (b :: l) = octetLevels b ++ frameLevels l := rfl

/-! ## The receiver (R66) -/

/-- The idle count keeps within its saturation. -/
theorem idleAfter_le (x : LineLevel) (n : Nat) : idleAfter x n ≤ Config.idleMax := by
  cases x
  · exact Nat.zero_le _
  · exact Nat.min_le_right _ _

/-- The receiver counts the idle bit times. -/
@[simp] theorem receiveBit_idleCount (x : LineLevel) (a : LineAccess) :
    (receiveBit x a).idleCount = idleAfter x a.idleCount := by
  unfold receiveBit keepOctet
  dsimp only
  (repeat' split) <;> rfl

/-- The receiver leaves the sending side of the unit alone. -/
@[simp] theorem receiveBit_frame (x : LineLevel) (a : LineAccess) :
    (receiveBit x a).tx = a.tx ∧ (receiveBit x a).inHand = a.inHand ∧
      (receiveBit x a).pendingBeacon = a.pendingBeacon ∧ (receiveBit x a).pendingAnnounce = a.pendingAnnounce ∧
      (receiveBit x a).attempts = a.attempts ∧ (receiveBit x a).ownSeq = a.ownSeq ∧
      (receiveBit x a).beaconDue = a.beaconDue ∧ (receiveBit x a).lastAttempt = a.lastAttempt ∧
      (receiveBit x a).lastHonoured = a.lastHonoured ∧ (receiveBit x a).gapReached = a.gapReached ∧
      (receiveBit x a).txFrame = a.txFrame ∧ (receiveBit x a).txBits = a.txBits ∧ (receiveBit x a).lost = a.lost ∧
      (receiveBit x a).sent = a.sent := by
  unfold receiveBit keepOctet
  dsimp only
  (repeat' split) <;> simp

/-- A start bit follows a RECESSIVE bit time: the receiver begins an octet. -/
theorem receiveBit_start (a : LineAccess) (idle : a.rxBits = none) (after : 0 < a.idleCount) :
    receiveBit .dominant a = { a with idleCount := 0, rxBits := some [] } := by
  simp [receiveBit, idleAfter, idle, after]

/-- Between octets a RECESSIVE bit time only counts. -/
theorem receiveBit_rest (a : LineAccess) (idle : a.rxBits = none) :
    receiveBit .recessive a = { a with idleCount := min (a.idleCount + 1) Config.idleMax } := by
  simp [receiveBit, idleAfter, idle]

/-- A data bit joins the octet in progress. -/
theorem receiveBit_data (x : LineLevel) (a : LineAccess) (bits : List Bool) (busy : a.rxBits = some bits)
    (short : bits.length < 8) :
    receiveBit x a = { a with idleCount := idleAfter x a.idleCount, rxBits := some (bits ++ [x == .recessive]) } := by
  simp [receiveBit, busy, short]

/-- The stop bit completes the octet. -/
theorem receiveBit_stop (x : LineLevel) (a : LineAccess) (bits : List Bool) (busy : a.rxBits = some bits)
    (full : bits.length = 8) :
    receiveBit x a =
      keepOctet (octetLow bits)
        { a with
          idleCount := idleAfter x a.idleCount
          rxBits := none
          rxFramingError := a.rxFramingError || x == .dominant } := by
  simp [receiveBit, busy, full]

/-- An octet with room for it joins the buffer. -/
theorem keepOctet_room (o : Byte) (a : LineAccess) (room : a.rxBuffer.length < 23) :
    keepOctet o a = { a with rxBuffer := a.rxBuffer ++ [o] } := by
  simp [keepOctet, Config.rxOctets, room]

/-! ## The transmitter (R71 to R73) -/

/-- The transmitter's sample leaves everything but its bits and the loss alone. -/
@[simp] theorem transmitBit_frame (x : LineLevel) (a : LineAccess) :
    (transmitBit x a).tx = a.tx ∧ (transmitBit x a).inHand = a.inHand ∧
      (transmitBit x a).pendingBeacon = a.pendingBeacon ∧ (transmitBit x a).pendingAnnounce = a.pendingAnnounce ∧
      (transmitBit x a).attempts = a.attempts ∧ (transmitBit x a).ownSeq = a.ownSeq ∧
      (transmitBit x a).beaconDue = a.beaconDue ∧ (transmitBit x a).lastAttempt = a.lastAttempt ∧
      (transmitBit x a).lastHonoured = a.lastHonoured ∧ (transmitBit x a).gapReached = a.gapReached ∧
      (transmitBit x a).idleCount = a.idleCount ∧ (transmitBit x a).rxBits = a.rxBits ∧
      (transmitBit x a).rxBuffer = a.rxBuffer ∧ (transmitBit x a).rxFramingError = a.rxFramingError ∧
      (transmitBit x a).rxOverlong = a.rxOverlong ∧ (transmitBit x a).txFrame = a.txFrame ∧
      (transmitBit x a).sent = a.sent := by
  unfold transmitBit
  (repeat' split) <;> simp

/-- Outside SENDING the transmitter takes no sample. -/
theorem transmitBit_idle (x : LineLevel) (a : LineAccess) (h : a.tx ≠ .sending) : transmitBit x a = a := by
  simp [transmitBit, h]

/-- A bit that the line shows as it was driven lets the next one follow. -/
theorem transmitBit_driven (x : LineLevel) (rest : List LineLevel) (a : LineAccess) (h : a.tx = .sending)
    (b : a.txBits = x :: rest) : transmitBit x a = { a with txBits := rest } := by
  cases x <;> simp [transmitBit, h, b]

/-- A RECESSIVE bit that the line shows as DOMINANT loses the line. -/
theorem transmitBit_lost (rest : List LineLevel) (a : LineAccess) (h : a.tx = .sending)
    (b : a.txBits = .recessive :: rest) : transmitBit .dominant a = { a with txBits := [], lost := true } := by
  simp [transmitBit, h, b]

/-! ## Bit times -/

@[simp] theorem bitTimes_zero (gap : Nat) (l : List LineLevel) (a : LineAccess) : bitTimes gap 0 l a = a := rfl

@[simp] theorem bitTimes_succ (gap n : Nat) (l : List LineLevel) (a : LineAccess) :
    bitTimes gap (n + 1) l a = bitTimes gap n l.tail (bitTime gap (l.headD .recessive) a) := rfl

/-- Bit times pass one after another. -/
theorem bitTimes_add (gap m n : Nat) (l : List LineLevel) (a : LineAccess) :
    bitTimes gap (m + n) l a = bitTimes gap n (l.drop m) (bitTimes gap m l a) := by
  induction m generalizing l a with
  | zero => simp
  | succ m ih => simp [Nat.succ_add, ih]

/-- A bit time keeps the idle count within its saturation. -/
theorem bitTime_idleCount_le (gap : Nat) (x : LineLevel) (a : LineAccess) :
    (bitTime gap x a).idleCount ≤ Config.idleMax := by
  simp [bitTime, judgeGap, idleAfter_le]

/-! ## Reception (R66, R77 to R80) -/

/-- What a receive command can do: nothing, but at the end of its frame; the frame end alone; the own-id test; the hand-off
of a frame from a listed peer. -/
theorem receive_cases (k : FrameKind) (h : RxFrame → Profile → Entry → State → State) (f : RxFrame) (s : State) :
    receive k h f s = s ∨ receive k h f s = endFrame s ∨ receive k h f s = takeOwnId f s
      ∨ ∃ p e, s.loader.profile = some p ∧ entryOf s (sourceId f.octets) = some e
          ∧ receive k h f s = h f p e (endFrame s) := by
  unfold receive judgeFrame
  (repeat' split) <;> simp_all

end Sys2Proof.Machine
end

