-- ==== Sys2Proof/Laws/Ops.lean ====
section
/-! SUPPORT. What each shared operation leaves alone, one lemma for each (tagged for simp, which takes the
conjunction apart), and what the entries and drops leave behind. -/

namespace Sys2Proof.Machine

/-- Only the transmit state can change. -/
@[simp] theorem wakeTransmitter_frame (s : State) :
    (wakeTransmitter s).power = s.power ∧ (wakeTransmitter s).time = s.time ∧ (wakeTransmitter s).inputs = s.inputs ∧
      (wakeTransmitter s).loader = s.loader ∧ (wakeTransmitter s).peers = s.peers ∧
      (wakeTransmitter s).tracker = s.tracker ∧ (wakeTransmitter s).envelope = s.envelope ∧
      (wakeTransmitter s).ceiling = s.ceiling ∧ (wakeTransmitter s).generator = s.generator ∧
      (wakeTransmitter s).seq = s.seq ∧ (wakeTransmitter s).loop = s.loop ∧ (wakeTransmitter s).brakes = s.brakes ∧
      (wakeTransmitter s).trips = s.trips ∧ (wakeTransmitter s).cls = s.cls ∧ (wakeTransmitter s).port = s.port ∧
      (wakeTransmitter s).pending = s.pending := by
  unfold wakeTransmitter
  (try dsimp only)
  (repeat' split) <;> simp

/-- A beacon request touches the Line Access Unit alone. -/
@[simp] theorem requestBeacon_frame (s : State) :
    (requestBeacon s).power = s.power ∧ (requestBeacon s).time = s.time ∧ (requestBeacon s).inputs = s.inputs ∧
      (requestBeacon s).loader = s.loader ∧ (requestBeacon s).peers = s.peers ∧
      (requestBeacon s).tracker = s.tracker ∧ (requestBeacon s).envelope = s.envelope ∧
      (requestBeacon s).ceiling = s.ceiling ∧ (requestBeacon s).generator = s.generator ∧
      (requestBeacon s).seq = s.seq ∧ (requestBeacon s).loop = s.loop ∧ (requestBeacon s).brakes = s.brakes ∧
      (requestBeacon s).trips = s.trips ∧ (requestBeacon s).cls = s.cls ∧ (requestBeacon s).port = s.port ∧
      (requestBeacon s).pending = s.pending := by
  unfold requestBeacon
  (try dsimp only)
  simp

/-- An announce request touches the Line Access Unit alone. -/
@[simp] theorem requestAnnounce_frame (s : State) :
    (requestAnnounce s).power = s.power ∧ (requestAnnounce s).time = s.time ∧ (requestAnnounce s).inputs = s.inputs ∧
      (requestAnnounce s).loader = s.loader ∧ (requestAnnounce s).peers = s.peers ∧
      (requestAnnounce s).tracker = s.tracker ∧ (requestAnnounce s).envelope = s.envelope ∧
      (requestAnnounce s).ceiling = s.ceiling ∧ (requestAnnounce s).generator = s.generator ∧
      (requestAnnounce s).seq = s.seq ∧ (requestAnnounce s).loop = s.loop ∧ (requestAnnounce s).brakes = s.brakes ∧
      (requestAnnounce s).trips = s.trips ∧ (requestAnnounce s).cls = s.cls ∧ (requestAnnounce s).port = s.port ∧
      (requestAnnounce s).pending = s.pending := by
  unfold requestAnnounce
  (try dsimp only)
  simp

/-- A change of class touches the class and the beacon schedule. -/
@[simp] theorem setClass_frame (c : BeaconClass) (s : State) :
    (setClass c s).power = s.power ∧ (setClass c s).time = s.time ∧ (setClass c s).inputs = s.inputs ∧
      (setClass c s).loader = s.loader ∧ (setClass c s).peers = s.peers ∧ (setClass c s).tracker = s.tracker ∧
      (setClass c s).envelope = s.envelope ∧ (setClass c s).ceiling = s.ceiling ∧
      (setClass c s).generator = s.generator ∧ (setClass c s).seq = s.seq ∧ (setClass c s).loop = s.loop ∧
      (setClass c s).brakes = s.brakes ∧ (setClass c s).trips = s.trips ∧ (setClass c s).port = s.port ∧
      (setClass c s).pending = s.pending := by
  unfold setClass
  (try dsimp only)
  (repeat' split) <;> simp

/-- The end of a stand-down part touches the class unit and the beacon marks. -/
@[simp] theorem endStandDown_frame (o : StandDownOutcome) (s : State) :
    (endStandDown o s).power = s.power ∧ (endStandDown o s).time = s.time ∧ (endStandDown o s).inputs = s.inputs ∧
      (endStandDown o s).loader = s.loader ∧ (endStandDown o s).peers = s.peers ∧
      (endStandDown o s).tracker = s.tracker ∧ (endStandDown o s).envelope = s.envelope ∧
      (endStandDown o s).ceiling = s.ceiling ∧ (endStandDown o s).generator = s.generator ∧
      (endStandDown o s).seq = s.seq ∧ (endStandDown o s).loop = s.loop ∧ (endStandDown o s).brakes = s.brakes ∧
      (endStandDown o s).trips = s.trips ∧ (endStandDown o s).port = s.port ∧ (endStandDown o s).pending = s.pending := by
  unfold endStandDown
  (try dsimp only)
  (repeat' split) <;> simp

/-- Only the downshift clock can change. -/
@[simp] theorem restartSpell_frame (s : State) :
    (restartSpell s).power = s.power ∧ (restartSpell s).time = s.time ∧ (restartSpell s).inputs = s.inputs ∧
      (restartSpell s).loader = s.loader ∧ (restartSpell s).access = s.access ∧ (restartSpell s).peers = s.peers ∧
      (restartSpell s).tracker = s.tracker ∧ (restartSpell s).envelope = s.envelope ∧
      (restartSpell s).ceiling = s.ceiling ∧ (restartSpell s).generator = s.generator ∧
      (restartSpell s).seq = s.seq ∧ (restartSpell s).loop = s.loop ∧ (restartSpell s).brakes = s.brakes ∧
      (restartSpell s).trips = s.trips ∧ (restartSpell s).port = s.port ∧ (restartSpell s).pending = s.pending := by
  unfold restartSpell
  (try dsimp only)
  (repeat' split) <;> simp

/-- Only the downshift clock can change. -/
@[simp] theorem settleSpell_frame (b : State) (s : State) :
    (settleSpell b s).power = s.power ∧ (settleSpell b s).time = s.time ∧ (settleSpell b s).inputs = s.inputs ∧
      (settleSpell b s).loader = s.loader ∧ (settleSpell b s).access = s.access ∧ (settleSpell b s).peers = s.peers ∧
      (settleSpell b s).tracker = s.tracker ∧ (settleSpell b s).envelope = s.envelope ∧
      (settleSpell b s).ceiling = s.ceiling ∧ (settleSpell b s).generator = s.generator ∧
      (settleSpell b s).seq = s.seq ∧ (settleSpell b s).loop = s.loop ∧ (settleSpell b s).brakes = s.brakes ∧
      (settleSpell b s).trips = s.trips ∧ (settleSpell b s).port = s.port ∧ (settleSpell b s).pending = s.pending := by
  unfold settleSpell
  (try dsimp only)
  (repeat' split) <;> simp

/-- A wake event touches the class unit and the beacon marks. -/
@[simp] theorem wakeEvent_frame (s : State) :
    (wakeEvent s).power = s.power ∧ (wakeEvent s).time = s.time ∧ (wakeEvent s).inputs = s.inputs ∧
      (wakeEvent s).loader = s.loader ∧ (wakeEvent s).peers = s.peers ∧ (wakeEvent s).tracker = s.tracker ∧
      (wakeEvent s).envelope = s.envelope ∧ (wakeEvent s).ceiling = s.ceiling ∧
      (wakeEvent s).generator = s.generator ∧ (wakeEvent s).seq = s.seq ∧ (wakeEvent s).loop = s.loop ∧
      (wakeEvent s).brakes = s.brakes ∧ (wakeEvent s).trips = s.trips ∧ (wakeEvent s).port = s.port ∧
      (wakeEvent s).pending = s.pending := by
  unfold wakeEvent
  (try dsimp only)
  (repeat' split) <;> simp

/-- One unit record is replaced. -/
@[simp] theorem setUnit_frame (b : BrakeId) (u : BrakeUnit) (s : State) :
    (setUnit b u s).power = s.power ∧ (setUnit b u s).time = s.time ∧ (setUnit b u s).inputs = s.inputs ∧
      (setUnit b u s).loader = s.loader ∧ (setUnit b u s).access = s.access ∧ (setUnit b u s).peers = s.peers ∧
      (setUnit b u s).tracker = s.tracker ∧ (setUnit b u s).envelope = s.envelope ∧
      (setUnit b u s).ceiling = s.ceiling ∧ (setUnit b u s).generator = s.generator ∧ (setUnit b u s).seq = s.seq ∧
      (setUnit b u s).loop = s.loop ∧ (setUnit b u s).trips = s.trips ∧ (setUnit b u s).cls = s.cls ∧
      (setUnit b u s).port = s.port ∧ (setUnit b u s).pending = s.pending := by
  unfold setUnit
  (try dsimp only)
  (repeat' split) <;> simp

/-- A drop touches the brake units alone. -/
@[simp] theorem dropBrake_frame (b : BrakeId) (s : State) :
    (dropBrake b s).power = s.power ∧ (dropBrake b s).time = s.time ∧ (dropBrake b s).inputs = s.inputs ∧
      (dropBrake b s).loader = s.loader ∧ (dropBrake b s).access = s.access ∧ (dropBrake b s).peers = s.peers ∧
      (dropBrake b s).tracker = s.tracker ∧ (dropBrake b s).envelope = s.envelope ∧
      (dropBrake b s).ceiling = s.ceiling ∧ (dropBrake b s).generator = s.generator ∧ (dropBrake b s).seq = s.seq ∧
      (dropBrake b s).loop = s.loop ∧ (dropBrake b s).trips = s.trips ∧ (dropBrake b s).cls = s.cls ∧
      (dropBrake b s).port = s.port ∧ (dropBrake b s).pending = s.pending := by
  unfold dropBrake
  simp

/-- A drop of every unit touches the brake units alone. -/
@[simp] theorem dropAll_frame (s : State) :
    (dropAll s).power = s.power ∧ (dropAll s).time = s.time ∧ (dropAll s).inputs = s.inputs ∧
      (dropAll s).loader = s.loader ∧ (dropAll s).access = s.access ∧ (dropAll s).peers = s.peers ∧
      (dropAll s).tracker = s.tracker ∧ (dropAll s).envelope = s.envelope ∧ (dropAll s).ceiling = s.ceiling ∧
      (dropAll s).generator = s.generator ∧ (dropAll s).seq = s.seq ∧ (dropAll s).loop = s.loop ∧
      (dropAll s).trips = s.trips ∧ (dropAll s).cls = s.cls ∧ (dropAll s).port = s.port ∧
      (dropAll s).pending = s.pending := by
  unfold dropAll
  simp

/-- A lift touches the brake units alone. -/
@[simp] theorem liftBrake_frame (b : BrakeId) (s : State) :
    (liftBrake b s).power = s.power ∧ (liftBrake b s).time = s.time ∧ (liftBrake b s).inputs = s.inputs ∧
      (liftBrake b s).loader = s.loader ∧ (liftBrake b s).access = s.access ∧ (liftBrake b s).peers = s.peers ∧
      (liftBrake b s).tracker = s.tracker ∧ (liftBrake b s).envelope = s.envelope ∧
      (liftBrake b s).ceiling = s.ceiling ∧ (liftBrake b s).generator = s.generator ∧ (liftBrake b s).seq = s.seq ∧
      (liftBrake b s).loop = s.loop ∧ (liftBrake b s).trips = s.trips ∧ (liftBrake b s).cls = s.cls ∧
      (liftBrake b s).port = s.port ∧ (liftBrake b s).pending = s.pending := by
  unfold liftBrake
  (repeat' split) <;> simp

/-- Clearing LIFT_FAIL touches the brake units alone. -/
@[simp] theorem clearLiftFail_frame (s : State) :
    (clearLiftFail s).power = s.power ∧ (clearLiftFail s).time = s.time ∧ (clearLiftFail s).inputs = s.inputs ∧
      (clearLiftFail s).loader = s.loader ∧ (clearLiftFail s).access = s.access ∧ (clearLiftFail s).peers = s.peers ∧
      (clearLiftFail s).tracker = s.tracker ∧ (clearLiftFail s).envelope = s.envelope ∧
      (clearLiftFail s).ceiling = s.ceiling ∧ (clearLiftFail s).generator = s.generator ∧
      (clearLiftFail s).seq = s.seq ∧ (clearLiftFail s).loop = s.loop ∧ (clearLiftFail s).trips = s.trips ∧
      (clearLiftFail s).cls = s.cls ∧ (clearLiftFail s).port = s.port ∧ (clearLiftFail s).pending = s.pending := by
  unfold clearLiftFail
  (try dsimp only)
  simp

/-- Only the ceiling output can stop. -/
@[simp] theorem silence_frame (s : State) :
    (silence s).power = s.power ∧ (silence s).time = s.time ∧ (silence s).inputs = s.inputs ∧
      (silence s).loader = s.loader ∧ (silence s).access = s.access ∧ (silence s).peers = s.peers ∧
      (silence s).tracker = s.tracker ∧ (silence s).envelope = s.envelope ∧ (silence s).ceiling = s.ceiling ∧
      (silence s).seq = s.seq ∧ (silence s).loop = s.loop ∧ (silence s).brakes = s.brakes ∧
      (silence s).trips = s.trips ∧ (silence s).cls = s.cls ∧ (silence s).port = s.port ∧
      (silence s).pending = s.pending := by
  unfold silence
  (repeat' split) <;> simp

/-- Only the supervision limit and its record can change. -/
@[simp] theorem followLimit_frame (s : State) :
    (followLimit s).power = s.power ∧ (followLimit s).time = s.time ∧ (followLimit s).inputs = s.inputs ∧
      (followLimit s).loader = s.loader ∧ (followLimit s).access = s.access ∧ (followLimit s).peers = s.peers ∧
      (followLimit s).tracker = s.tracker ∧ (followLimit s).envelope = s.envelope ∧
      (followLimit s).generator = s.generator ∧ (followLimit s).seq = s.seq ∧ (followLimit s).loop = s.loop ∧
      (followLimit s).brakes = s.brakes ∧ (followLimit s).trips = s.trips ∧ (followLimit s).cls = s.cls ∧
      (followLimit s).port = s.port ∧ (followLimit s).pending = s.pending := by
  unfold followLimit
  (try dsimp only)
  (repeat' split) <;> simp

/-- A change of the line ceiling touches the unit and the output. -/
@[simp] theorem setLine_frame (v : Nat) (s : State) :
    (setLine v s).power = s.power ∧ (setLine v s).time = s.time ∧ (setLine v s).inputs = s.inputs ∧
      (setLine v s).loader = s.loader ∧ (setLine v s).access = s.access ∧ (setLine v s).peers = s.peers ∧
      (setLine v s).tracker = s.tracker ∧ (setLine v s).envelope = s.envelope ∧ (setLine v s).seq = s.seq ∧
      (setLine v s).loop = s.loop ∧ (setLine v s).brakes = s.brakes ∧ (setLine v s).trips = s.trips ∧
      (setLine v s).cls = s.cls ∧ (setLine v s).port = s.port ∧ (setLine v s).pending = s.pending := by
  unfold setLine
  (try dsimp only)
  (repeat' split) <;> simp

/-- Forming the ceiling touches the unit and the output. -/
@[simp] theorem formCeiling_frame (s : State) :
    (formCeiling s).power = s.power ∧ (formCeiling s).time = s.time ∧ (formCeiling s).inputs = s.inputs ∧
      (formCeiling s).loader = s.loader ∧ (formCeiling s).access = s.access ∧ (formCeiling s).peers = s.peers ∧
      (formCeiling s).tracker = s.tracker ∧ (formCeiling s).envelope = s.envelope ∧ (formCeiling s).seq = s.seq ∧
      (formCeiling s).loop = s.loop ∧ (formCeiling s).brakes = s.brakes ∧ (formCeiling s).trips = s.trips ∧
      (formCeiling s).cls = s.cls ∧ (formCeiling s).port = s.port ∧ (formCeiling s).pending = s.pending := by
  unfold formCeiling
  simp

/-- A comms stop touches the unit and the output. -/
@[simp] theorem startCommsStop_frame (v : Nat) (s : State) :
    (startCommsStop v s).power = s.power ∧ (startCommsStop v s).time = s.time ∧
      (startCommsStop v s).inputs = s.inputs ∧ (startCommsStop v s).loader = s.loader ∧
      (startCommsStop v s).access = s.access ∧ (startCommsStop v s).peers = s.peers ∧
      (startCommsStop v s).tracker = s.tracker ∧ (startCommsStop v s).envelope = s.envelope ∧
      (startCommsStop v s).seq = s.seq ∧ (startCommsStop v s).loop = s.loop ∧
      (startCommsStop v s).brakes = s.brakes ∧ (startCommsStop v s).trips = s.trips ∧
      (startCommsStop v s).cls = s.cls ∧ (startCommsStop v s).port = s.port ∧ (startCommsStop v s).pending = s.pending := by
  unfold startCommsStop
  (try dsimp only)
  (repeat' split) <;> simp

/-- Setting the present position touches the tracker alone. -/
@[simp] theorem setPresent_frame (n : Int) (p : Profile) (s : State) :
    (setPresent n p s).power = s.power ∧ (setPresent n p s).time = s.time ∧ (setPresent n p s).inputs = s.inputs ∧
      (setPresent n p s).loader = s.loader ∧ (setPresent n p s).access = s.access ∧
      (setPresent n p s).peers = s.peers ∧ (setPresent n p s).envelope = s.envelope ∧
      (setPresent n p s).ceiling = s.ceiling ∧ (setPresent n p s).generator = s.generator ∧
      (setPresent n p s).seq = s.seq ∧ (setPresent n p s).loop = s.loop ∧ (setPresent n p s).brakes = s.brakes ∧
      (setPresent n p s).trips = s.trips ∧ (setPresent n p s).cls = s.cls ∧ (setPresent n p s).port = s.port ∧
      (setPresent n p s).pending = s.pending := by
  unfold setPresent
  (try dsimp only)
  simp

/-- A re-reference touches the tracker alone. -/
@[simp] theorem reReference_frame (p : Profile) (s : State) :
    (reReference p s).power = s.power ∧ (reReference p s).time = s.time ∧ (reReference p s).inputs = s.inputs ∧
      (reReference p s).loader = s.loader ∧ (reReference p s).access = s.access ∧ (reReference p s).peers = s.peers ∧
      (reReference p s).envelope = s.envelope ∧ (reReference p s).ceiling = s.ceiling ∧
      (reReference p s).generator = s.generator ∧ (reReference p s).seq = s.seq ∧ (reReference p s).loop = s.loop ∧
      (reReference p s).brakes = s.brakes ∧ (reReference p s).trips = s.trips ∧ (reReference p s).cls = s.cls ∧
      (reReference p s).port = s.port ∧ (reReference p s).pending = s.pending := by
  unfold reReference
  (try dsimp only)
  (repeat' split) <;> simp

/-- The Run Sequencer's part of an entry. -/
@[simp] theorem enterSequencer_frame (n : NodeState) (s : State) :
    (enterSequencer n s).power = s.power ∧ (enterSequencer n s).time = s.time ∧
      (enterSequencer n s).inputs = s.inputs ∧ (enterSequencer n s).loader = s.loader ∧
      (enterSequencer n s).access = s.access ∧ (enterSequencer n s).peers = s.peers ∧
      (enterSequencer n s).tracker = s.tracker ∧ (enterSequencer n s).envelope = s.envelope ∧
      (enterSequencer n s).ceiling = s.ceiling ∧ (enterSequencer n s).generator = s.generator ∧
      (enterSequencer n s).loop = s.loop ∧ (enterSequencer n s).brakes = s.brakes ∧
      (enterSequencer n s).trips = s.trips ∧ (enterSequencer n s).cls = s.cls ∧ (enterSequencer n s).port = s.port ∧
      (enterSequencer n s).pending = s.pending := by
  unfold enterSequencer
  (try dsimp only)
  (repeat' split) <;> simp

/-- The Envelope Calculator's part of an entry. -/
@[simp] theorem enterEnvelope_frame (n : NodeState) (s : State) :
    (enterEnvelope n s).power = s.power ∧ (enterEnvelope n s).time = s.time ∧ (enterEnvelope n s).inputs = s.inputs ∧
      (enterEnvelope n s).loader = s.loader ∧ (enterEnvelope n s).access = s.access ∧
      (enterEnvelope n s).peers = s.peers ∧ (enterEnvelope n s).tracker = s.tracker ∧
      (enterEnvelope n s).ceiling = s.ceiling ∧ (enterEnvelope n s).generator = s.generator ∧
      (enterEnvelope n s).seq = s.seq ∧ (enterEnvelope n s).loop = s.loop ∧ (enterEnvelope n s).brakes = s.brakes ∧
      (enterEnvelope n s).trips = s.trips ∧ (enterEnvelope n s).cls = s.cls ∧ (enterEnvelope n s).port = s.port ∧
      (enterEnvelope n s).pending = s.pending := by
  unfold enterEnvelope
  (try dsimp only)
  simp

/-- The Brake Controller's part of an entry. -/
@[simp] theorem enterBrakes_frame (n : NodeState) (s : State) :
    (enterBrakes n s).power = s.power ∧ (enterBrakes n s).time = s.time ∧ (enterBrakes n s).inputs = s.inputs ∧
      (enterBrakes n s).loader = s.loader ∧ (enterBrakes n s).access = s.access ∧ (enterBrakes n s).peers = s.peers ∧
      (enterBrakes n s).tracker = s.tracker ∧ (enterBrakes n s).envelope = s.envelope ∧
      (enterBrakes n s).ceiling = s.ceiling ∧ (enterBrakes n s).generator = s.generator ∧
      (enterBrakes n s).seq = s.seq ∧ (enterBrakes n s).loop = s.loop ∧ (enterBrakes n s).trips = s.trips ∧
      (enterBrakes n s).cls = s.cls ∧ (enterBrakes n s).port = s.port ∧ (enterBrakes n s).pending = s.pending := by
  unfold enterBrakes
  (repeat' split) <;> simp

/-- The ceiling's part of an entry. -/
@[simp] theorem enterCeiling_frame (n : NodeState) (s : State) :
    (enterCeiling n s).power = s.power ∧ (enterCeiling n s).time = s.time ∧ (enterCeiling n s).inputs = s.inputs ∧
      (enterCeiling n s).loader = s.loader ∧ (enterCeiling n s).access = s.access ∧
      (enterCeiling n s).peers = s.peers ∧ (enterCeiling n s).tracker = s.tracker ∧
      (enterCeiling n s).envelope = s.envelope ∧ (enterCeiling n s).seq = s.seq ∧ (enterCeiling n s).loop = s.loop ∧
      (enterCeiling n s).brakes = s.brakes ∧ (enterCeiling n s).trips = s.trips ∧ (enterCeiling n s).cls = s.cls ∧
      (enterCeiling n s).port = s.port ∧ (enterCeiling n s).pending = s.pending := by
  unfold enterCeiling
  (try dsimp only)
  (repeat' split) <;> simp

/-- The Position Tracker's part of an entry. -/
@[simp] theorem enterTracker_frame (n : NodeState) (s : State) :
    (enterTracker n s).power = s.power ∧ (enterTracker n s).time = s.time ∧ (enterTracker n s).inputs = s.inputs ∧
      (enterTracker n s).loader = s.loader ∧ (enterTracker n s).access = s.access ∧
      (enterTracker n s).peers = s.peers ∧ (enterTracker n s).envelope = s.envelope ∧
      (enterTracker n s).ceiling = s.ceiling ∧ (enterTracker n s).generator = s.generator ∧
      (enterTracker n s).seq = s.seq ∧ (enterTracker n s).loop = s.loop ∧ (enterTracker n s).brakes = s.brakes ∧
      (enterTracker n s).trips = s.trips ∧ (enterTracker n s).cls = s.cls ∧ (enterTracker n s).port = s.port ∧
      (enterTracker n s).pending = s.pending := by
  unfold enterTracker
  (try dsimp only)
  (repeat' split) <;> simp

/-- The Class Controller's part of an entry. -/
@[simp] theorem enterClass_frame (p n : NodeState) (s : State) :
    (enterClass p n s).power = s.power ∧ (enterClass p n s).time = s.time ∧ (enterClass p n s).inputs = s.inputs ∧
      (enterClass p n s).loader = s.loader ∧ (enterClass p n s).peers = s.peers ∧
      (enterClass p n s).tracker = s.tracker ∧ (enterClass p n s).envelope = s.envelope ∧
      (enterClass p n s).ceiling = s.ceiling ∧ (enterClass p n s).generator = s.generator ∧
      (enterClass p n s).seq = s.seq ∧ (enterClass p n s).loop = s.loop ∧ (enterClass p n s).brakes = s.brakes ∧
      (enterClass p n s).trips = s.trips ∧ (enterClass p n s).port = s.port ∧ (enterClass p n s).pending = s.pending := by
  unfold enterClass
  (try dsimp only)
  (repeat' split) <;> simp

/-- The door's part of an entry. -/
@[simp] theorem enterDoor_frame (p n : NodeState) (s : State) :
    (enterDoor p n s).power = s.power ∧ (enterDoor p n s).time = s.time ∧ (enterDoor p n s).inputs = s.inputs ∧
      (enterDoor p n s).loader = s.loader ∧ (enterDoor p n s).access = s.access ∧ (enterDoor p n s).peers = s.peers ∧
      (enterDoor p n s).tracker = s.tracker ∧ (enterDoor p n s).envelope = s.envelope ∧
      (enterDoor p n s).ceiling = s.ceiling ∧ (enterDoor p n s).generator = s.generator ∧
      (enterDoor p n s).loop = s.loop ∧ (enterDoor p n s).brakes = s.brakes ∧ (enterDoor p n s).trips = s.trips ∧
      (enterDoor p n s).cls = s.cls ∧ (enterDoor p n s).port = s.port ∧ (enterDoor p n s).pending = s.pending := by
  unfold enterDoor
  (try dsimp only)
  (repeat' split) <;> simp

/-- What an entry to a node state leaves alone. -/
@[simp] theorem enterState_frame (n : NodeState) (s : State) :
    (enterState n s).power = s.power ∧ (enterState n s).time = s.time ∧ (enterState n s).inputs = s.inputs ∧
      (enterState n s).loader = s.loader ∧ (enterState n s).peers = s.peers ∧ (enterState n s).loop = s.loop ∧
      (enterState n s).trips = s.trips ∧ (enterState n s).port = s.port ∧ (enterState n s).pending = s.pending := by
  unfold enterState
  (try dsimp only)
  (repeat' split) <;> simp

/-- An append touches the Trip Unit alone. -/
@[simp] theorem appendRecord_frame (r : TripRecord) (s : State) :
    (appendRecord r s).power = s.power ∧ (appendRecord r s).time = s.time ∧ (appendRecord r s).inputs = s.inputs ∧
      (appendRecord r s).loader = s.loader ∧ (appendRecord r s).access = s.access ∧
      (appendRecord r s).peers = s.peers ∧ (appendRecord r s).tracker = s.tracker ∧
      (appendRecord r s).envelope = s.envelope ∧ (appendRecord r s).ceiling = s.ceiling ∧
      (appendRecord r s).generator = s.generator ∧ (appendRecord r s).seq = s.seq ∧
      (appendRecord r s).loop = s.loop ∧ (appendRecord r s).brakes = s.brakes ∧ (appendRecord r s).cls = s.cls ∧
      (appendRecord r s).port = s.port ∧ (appendRecord r s).pending = s.pending := by
  unfold appendRecord
  (try dsimp only)
  simp

/-- What raising a cause leaves alone. -/
@[simp] theorem raiseCause_frame (c : Cause) (s : State) :
    (raiseCause c s).power = s.power ∧ (raiseCause c s).time = s.time ∧ (raiseCause c s).inputs = s.inputs ∧
      (raiseCause c s).loader = s.loader ∧ (raiseCause c s).peers = s.peers ∧ (raiseCause c s).loop = s.loop ∧
      (raiseCause c s).port = s.port ∧ (raiseCause c s).pending = s.pending := by
  unfold raiseCause
  (try dsimp only)
  (repeat' split) <;> simp

/-- What a peer trip leaves alone. -/
@[simp] theorem raisePeerTrip_frame (i : NodeId) (c : Cause) (s : State) :
    (raisePeerTrip i c s).power = s.power ∧ (raisePeerTrip i c s).time = s.time ∧
      (raisePeerTrip i c s).inputs = s.inputs ∧ (raisePeerTrip i c s).loader = s.loader ∧
      (raisePeerTrip i c s).peers = s.peers ∧ (raisePeerTrip i c s).loop = s.loop ∧
      (raisePeerTrip i c s).port = s.port ∧ (raisePeerTrip i c s).pending = s.pending := by
  unfold raisePeerTrip
  (try dsimp only)
  (repeat' split) <;> simp

/-- What leaving TRIPPED leaves alone. -/
@[simp] theorem leaveTripped_frame (s : State) :
    (leaveTripped s).power = s.power ∧ (leaveTripped s).time = s.time ∧ (leaveTripped s).inputs = s.inputs ∧
      (leaveTripped s).loader = s.loader ∧ (leaveTripped s).peers = s.peers ∧ (leaveTripped s).loop = s.loop ∧
      (leaveTripped s).port = s.port ∧ (leaveTripped s).pending = s.pending := by
  unfold leaveTripped
  (try dsimp only)
  simp

/-- What an entry to FAULTED leaves alone. -/
@[simp] theorem enterFaulted_frame (c : Cause) (s : State) :
    (enterFaulted c s).power = s.power ∧ (enterFaulted c s).time = s.time ∧ (enterFaulted c s).inputs = s.inputs ∧
      (enterFaulted c s).loader = s.loader ∧ (enterFaulted c s).peers = s.peers ∧ (enterFaulted c s).loop = s.loop ∧
      (enterFaulted c s).port = s.port ∧ (enterFaulted c s).pending = s.pending := by
  unfold enterFaulted
  (try dsimp only)
  simp

end Sys2Proof.Machine
end

