-- ==== Sys2Proof/Laws/Blocks.lean ====
section
/-! SUPPORT. What the work of each block leaves alone, one lemma for each operation (tagged for simp, which takes the
conjunction apart). -/

namespace Sys2Proof.Machine

/-! ## Position Tracker -/

/-- What `sampleChannels` leaves alone. -/
@[simp] theorem sampleChannels_frame (a b : Bool) (s : State) :
    (sampleChannels a b s).power = s.power ∧ (sampleChannels a b s).time = s.time ∧
      (sampleChannels a b s).inputs = s.inputs ∧ (sampleChannels a b s).loader = s.loader ∧
      (sampleChannels a b s).access = s.access ∧ (sampleChannels a b s).peers = s.peers ∧
      (sampleChannels a b s).envelope = s.envelope ∧ (sampleChannels a b s).ceiling = s.ceiling ∧
      (sampleChannels a b s).generator = s.generator ∧ (sampleChannels a b s).seq = s.seq ∧
      (sampleChannels a b s).loop = s.loop ∧ (sampleChannels a b s).brakes = s.brakes ∧
      (sampleChannels a b s).trips = s.trips ∧ (sampleChannels a b s).cls = s.cls ∧
      (sampleChannels a b s).port = s.port ∧ (sampleChannels a b s).pending = s.pending := by
  unfold sampleChannels
  (try dsimp only)
  (repeat' split) <;> simp

/-- What `fold` leaves alone. -/
@[simp] theorem fold_frame (p : Profile) (s : State) :
    (fold p s).power = s.power ∧ (fold p s).time = s.time ∧ (fold p s).inputs = s.inputs ∧
      (fold p s).loader = s.loader ∧ (fold p s).access = s.access ∧ (fold p s).peers = s.peers ∧
      (fold p s).envelope = s.envelope ∧ (fold p s).ceiling = s.ceiling ∧ (fold p s).generator = s.generator ∧
      (fold p s).seq = s.seq ∧ (fold p s).loop = s.loop ∧ (fold p s).brakes = s.brakes ∧ (fold p s).trips = s.trips ∧
      (fold p s).cls = s.cls ∧ (fold p s).port = s.port ∧ (fold p s).pending = s.pending := by
  unfold fold
  (try dsimp only)
  (repeat' split) <;> simp

/-- What `takeStep` leaves alone. -/
@[simp] theorem takeStep_frame (p : Profile) (s : State) :
    (takeStep p s).power = s.power ∧ (takeStep p s).time = s.time ∧ (takeStep p s).inputs = s.inputs ∧
      (takeStep p s).loader = s.loader ∧ (takeStep p s).peers = s.peers ∧ (takeStep p s).loop = s.loop ∧
      (takeStep p s).port = s.port ∧ (takeStep p s).pending = s.pending := by
  unfold takeStep
  (try dsimp only)
  (repeat' split) <;> simp

/-- What `recordStep` leaves alone. -/
@[simp] theorem recordStep_frame (d : Int) (v : Nat) (s : State) :
    (recordStep d v s).power = s.power ∧ (recordStep d v s).time = s.time ∧ (recordStep d v s).inputs = s.inputs ∧
      (recordStep d v s).loader = s.loader ∧ (recordStep d v s).peers = s.peers ∧
      (recordStep d v s).envelope = s.envelope ∧ (recordStep d v s).ceiling = s.ceiling ∧
      (recordStep d v s).generator = s.generator ∧ (recordStep d v s).seq = s.seq ∧
      (recordStep d v s).loop = s.loop ∧ (recordStep d v s).brakes = s.brakes ∧ (recordStep d v s).trips = s.trips ∧
      (recordStep d v s).port = s.port ∧ (recordStep d v s).pending = s.pending := by
  unfold recordStep
  (try dsimp only)
  (repeat' split) <;> simp

/-- What `withdrawMarkers` leaves alone. -/
@[simp] theorem withdrawMarkers_frame (s : State) :
    (withdrawMarkers s).power = s.power ∧ (withdrawMarkers s).time = s.time ∧ (withdrawMarkers s).inputs = s.inputs ∧
      (withdrawMarkers s).loader = s.loader ∧ (withdrawMarkers s).access = s.access ∧
      (withdrawMarkers s).peers = s.peers ∧ (withdrawMarkers s).envelope = s.envelope ∧
      (withdrawMarkers s).ceiling = s.ceiling ∧ (withdrawMarkers s).generator = s.generator ∧
      (withdrawMarkers s).seq = s.seq ∧ (withdrawMarkers s).loop = s.loop ∧ (withdrawMarkers s).brakes = s.brakes ∧
      (withdrawMarkers s).trips = s.trips ∧ (withdrawMarkers s).cls = s.cls ∧ (withdrawMarkers s).port = s.port ∧
      (withdrawMarkers s).pending = s.pending := by
  unfold withdrawMarkers
  (try dsimp only)
  simp

/-- What `judgeMiss` leaves alone. -/
@[simp] theorem judgeMiss_frame (p : Profile) (s : State) :
    (judgeMiss p s).power = s.power ∧ (judgeMiss p s).time = s.time ∧ (judgeMiss p s).inputs = s.inputs ∧
      (judgeMiss p s).loader = s.loader ∧ (judgeMiss p s).peers = s.peers ∧ (judgeMiss p s).loop = s.loop ∧
      (judgeMiss p s).port = s.port ∧ (judgeMiss p s).pending = s.pending := by
  unfold judgeMiss
  (try dsimp only)
  (repeat' split) <;> simp

/-- What `chooseExpected` leaves alone. -/
@[simp] theorem chooseExpected_frame (p : Profile) (s : State) :
    (chooseExpected p s).power = s.power ∧ (chooseExpected p s).time = s.time ∧
      (chooseExpected p s).inputs = s.inputs ∧ (chooseExpected p s).loader = s.loader ∧
      (chooseExpected p s).access = s.access ∧ (chooseExpected p s).peers = s.peers ∧
      (chooseExpected p s).envelope = s.envelope ∧ (chooseExpected p s).ceiling = s.ceiling ∧
      (chooseExpected p s).generator = s.generator ∧ (chooseExpected p s).seq = s.seq ∧
      (chooseExpected p s).loop = s.loop ∧ (chooseExpected p s).brakes = s.brakes ∧
      (chooseExpected p s).trips = s.trips ∧ (chooseExpected p s).cls = s.cls ∧ (chooseExpected p s).port = s.port ∧
      (chooseExpected p s).pending = s.pending := by
  unfold chooseExpected
  (try dsimp only)
  (repeat' split) <;> simp

/-- What `judgeDisagree` leaves alone. -/
@[simp] theorem judgeDisagree_frame (a b : Option Finding) (s : State) :
    (judgeDisagree a b s).power = s.power ∧ (judgeDisagree a b s).time = s.time ∧
      (judgeDisagree a b s).inputs = s.inputs ∧ (judgeDisagree a b s).loader = s.loader ∧
      (judgeDisagree a b s).access = s.access ∧ (judgeDisagree a b s).peers = s.peers ∧
      (judgeDisagree a b s).envelope = s.envelope ∧ (judgeDisagree a b s).ceiling = s.ceiling ∧
      (judgeDisagree a b s).generator = s.generator ∧ (judgeDisagree a b s).seq = s.seq ∧
      (judgeDisagree a b s).loop = s.loop ∧ (judgeDisagree a b s).brakes = s.brakes ∧
      (judgeDisagree a b s).trips = s.trips ∧ (judgeDisagree a b s).cls = s.cls ∧
      (judgeDisagree a b s).port = s.port ∧ (judgeDisagree a b s).pending = s.pending := by
  unfold judgeDisagree
  (try dsimp only)
  (repeat' split) <;> simp

/-- What `judgeConflictA` leaves alone. -/
@[simp] theorem judgeConflictA_frame (f : Option Finding) (s : State) :
    (judgeConflictA f s).power = s.power ∧ (judgeConflictA f s).time = s.time ∧
      (judgeConflictA f s).inputs = s.inputs ∧ (judgeConflictA f s).loader = s.loader ∧
      (judgeConflictA f s).peers = s.peers ∧ (judgeConflictA f s).loop = s.loop ∧
      (judgeConflictA f s).port = s.port ∧ (judgeConflictA f s).pending = s.pending := by
  unfold judgeConflictA
  (try dsimp only)
  (repeat' split) <;> simp

/-- What `judgeConflictB` leaves alone. -/
@[simp] theorem judgeConflictB_frame (f : Option Finding) (s : State) :
    (judgeConflictB f s).power = s.power ∧ (judgeConflictB f s).time = s.time ∧
      (judgeConflictB f s).inputs = s.inputs ∧ (judgeConflictB f s).loader = s.loader ∧
      (judgeConflictB f s).peers = s.peers ∧ (judgeConflictB f s).loop = s.loop ∧
      (judgeConflictB f s).port = s.port ∧ (judgeConflictB f s).pending = s.pending := by
  unfold judgeConflictB
  (try dsimp only)
  (repeat' split) <;> simp

/-- What `compareStep` leaves alone. -/
@[simp] theorem compareStep_frame (p : Profile) (s : State) :
    (compareStep p s).power = s.power ∧ (compareStep p s).time = s.time ∧ (compareStep p s).inputs = s.inputs ∧
      (compareStep p s).loader = s.loader ∧ (compareStep p s).peers = s.peers ∧ (compareStep p s).loop = s.loop ∧
      (compareStep p s).port = s.port ∧ (compareStep p s).pending = s.pending := by
  unfold compareStep
  (try dsimp only)
  simp

/-- What `judgeStill` leaves alone. -/
@[simp] theorem judgeStill_frame (p : Profile) (s : State) :
    (judgeStill p s).power = s.power ∧ (judgeStill p s).time = s.time ∧ (judgeStill p s).inputs = s.inputs ∧
      (judgeStill p s).loader = s.loader ∧ (judgeStill p s).peers = s.peers ∧ (judgeStill p s).loop = s.loop ∧
      (judgeStill p s).port = s.port ∧ (judgeStill p s).pending = s.pending := by
  unfold judgeStill
  (repeat' split) <;> simp

/-- What `countStep` leaves alone. -/
@[simp] theorem countStep_frame (d : Int) (s : State) :
    (countStep d s).power = s.power ∧ (countStep d s).time = s.time ∧ (countStep d s).inputs = s.inputs ∧
      (countStep d s).loader = s.loader ∧ (countStep d s).access = s.access ∧ (countStep d s).peers = s.peers ∧
      (countStep d s).envelope = s.envelope ∧ (countStep d s).ceiling = s.ceiling ∧
      (countStep d s).generator = s.generator ∧ (countStep d s).seq = s.seq ∧ (countStep d s).loop = s.loop ∧
      (countStep d s).brakes = s.brakes ∧ (countStep d s).trips = s.trips ∧ (countStep d s).cls = s.cls ∧
      (countStep d s).port = s.port ∧ (countStep d s).pending = s.pending := by
  unfold countStep
  (try dsimp only)
  simp

/-- What `referenceStep` leaves alone. -/
@[simp] theorem referenceStep_frame (p : Profile) (s : State) :
    (referenceStep p s).power = s.power ∧ (referenceStep p s).time = s.time ∧ (referenceStep p s).inputs = s.inputs ∧
      (referenceStep p s).loader = s.loader ∧ (referenceStep p s).peers = s.peers ∧
      (referenceStep p s).loop = s.loop ∧ (referenceStep p s).port = s.port ∧ (referenceStep p s).pending = s.pending := by
  unfold referenceStep
  (repeat' split) <;> simp

/-- What `trackLoaded` leaves alone. -/
@[simp] theorem trackLoaded_frame (p : Profile) (s : State) :
    (trackLoaded p s).power = s.power ∧ (trackLoaded p s).time = s.time ∧ (trackLoaded p s).inputs = s.inputs ∧
      (trackLoaded p s).loader = s.loader ∧ (trackLoaded p s).peers = s.peers ∧ (trackLoaded p s).loop = s.loop ∧
      (trackLoaded p s).port = s.port ∧ (trackLoaded p s).pending = s.pending := by
  unfold trackLoaded
  (try dsimp only)
  simp

/-- What `trackRaw` leaves alone. -/
@[simp] theorem trackRaw_frame (s : State) :
    (trackRaw s).power = s.power ∧ (trackRaw s).time = s.time ∧ (trackRaw s).inputs = s.inputs ∧
      (trackRaw s).loader = s.loader ∧ (trackRaw s).peers = s.peers ∧ (trackRaw s).envelope = s.envelope ∧
      (trackRaw s).ceiling = s.ceiling ∧ (trackRaw s).generator = s.generator ∧ (trackRaw s).seq = s.seq ∧
      (trackRaw s).loop = s.loop ∧ (trackRaw s).brakes = s.brakes ∧ (trackRaw s).trips = s.trips ∧
      (trackRaw s).port = s.port ∧ (trackRaw s).pending = s.pending := by
  unfold trackRaw
  (try dsimp only)
  (repeat' split) <;> simp

/-- What `trackerWork` leaves alone. -/
@[simp] theorem trackerWork_frame (s : State) :
    (trackerWork s).power = s.power ∧ (trackerWork s).time = s.time ∧ (trackerWork s).inputs = s.inputs ∧
      (trackerWork s).loader = s.loader ∧ (trackerWork s).peers = s.peers ∧ (trackerWork s).loop = s.loop ∧
      (trackerWork s).port = s.port ∧ (trackerWork s).pending = s.pending := by
  unfold trackerWork
  (repeat' split) <;> simp

/-- What `snap` leaves alone. -/
@[simp] theorem snap_frame (p : Profile) (m : Marker) (s : State) :
    (snap p m s).power = s.power ∧ (snap p m s).time = s.time ∧ (snap p m s).inputs = s.inputs ∧
      (snap p m s).loader = s.loader ∧ (snap p m s).access = s.access ∧ (snap p m s).peers = s.peers ∧
      (snap p m s).envelope = s.envelope ∧ (snap p m s).ceiling = s.ceiling ∧ (snap p m s).generator = s.generator ∧
      (snap p m s).seq = s.seq ∧ (snap p m s).loop = s.loop ∧ (snap p m s).brakes = s.brakes ∧
      (snap p m s).trips = s.trips ∧ (snap p m s).cls = s.cls ∧ (snap p m s).port = s.port ∧
      (snap p m s).pending = s.pending := by
  unfold snap
  (try dsimp only)
  simp

/-- What `readMarker` leaves alone. -/
@[simp] theorem readMarker_frame (c : BitVec 5) (p : Profile) (s : State) :
    (readMarker c p s).power = s.power ∧ (readMarker c p s).time = s.time ∧ (readMarker c p s).inputs = s.inputs ∧
      (readMarker c p s).loader = s.loader ∧ (readMarker c p s).access = s.access ∧
      (readMarker c p s).peers = s.peers ∧ (readMarker c p s).envelope = s.envelope ∧
      (readMarker c p s).ceiling = s.ceiling ∧ (readMarker c p s).generator = s.generator ∧
      (readMarker c p s).seq = s.seq ∧ (readMarker c p s).loop = s.loop ∧ (readMarker c p s).brakes = s.brakes ∧
      (readMarker c p s).trips = s.trips ∧ (readMarker c p s).cls = s.cls ∧ (readMarker c p s).port = s.port ∧
      (readMarker c p s).pending = s.pending := by
  unfold readMarker
  (try dsimp only)
  (repeat' split) <;> simp

/-- What `takeMarker` leaves alone. -/
@[simp] theorem takeMarker_frame (c : BitVec 5) (s : State) :
    (takeMarker c s).power = s.power ∧ (takeMarker c s).time = s.time ∧ (takeMarker c s).inputs = s.inputs ∧
      (takeMarker c s).loader = s.loader ∧ (takeMarker c s).access = s.access ∧ (takeMarker c s).peers = s.peers ∧
      (takeMarker c s).envelope = s.envelope ∧ (takeMarker c s).ceiling = s.ceiling ∧
      (takeMarker c s).generator = s.generator ∧ (takeMarker c s).seq = s.seq ∧ (takeMarker c s).loop = s.loop ∧
      (takeMarker c s).brakes = s.brakes ∧ (takeMarker c s).trips = s.trips ∧ (takeMarker c s).cls = s.cls ∧
      (takeMarker c s).port = s.port ∧ (takeMarker c s).pending = s.pending := by
  unfold takeMarker
  (repeat' split) <;> simp

/-- What `endGate` leaves alone. -/
@[simp] theorem endGate_frame (s : State) :
    (endGate s).power = s.power ∧ (endGate s).time = s.time ∧ (endGate s).inputs = s.inputs ∧
      (endGate s).loader = s.loader ∧ (endGate s).access = s.access ∧ (endGate s).peers = s.peers ∧
      (endGate s).envelope = s.envelope ∧ (endGate s).ceiling = s.ceiling ∧ (endGate s).generator = s.generator ∧
      (endGate s).seq = s.seq ∧ (endGate s).loop = s.loop ∧ (endGate s).brakes = s.brakes ∧
      (endGate s).trips = s.trips ∧ (endGate s).cls = s.cls ∧ (endGate s).port = s.port ∧
      (endGate s).pending = s.pending := by
  unfold endGate
  (try dsimp only)
  (repeat' split) <;> simp

/-- What `countPulse` leaves alone. -/
@[simp] theorem countPulse_frame (s : State) :
    (countPulse s).power = s.power ∧ (countPulse s).time = s.time ∧ (countPulse s).inputs = s.inputs ∧
      (countPulse s).loader = s.loader ∧ (countPulse s).access = s.access ∧ (countPulse s).peers = s.peers ∧
      (countPulse s).envelope = s.envelope ∧ (countPulse s).ceiling = s.ceiling ∧
      (countPulse s).generator = s.generator ∧ (countPulse s).seq = s.seq ∧ (countPulse s).loop = s.loop ∧
      (countPulse s).brakes = s.brakes ∧ (countPulse s).trips = s.trips ∧ (countPulse s).cls = s.cls ∧
      (countPulse s).port = s.port ∧ (countPulse s).pending = s.pending := by
  unfold countPulse
  (try dsimp only)
  (repeat' split) <;> simp

/-! ## Envelope Calculator -/

/-- What `stopMarkStep` leaves alone. -/
@[simp] theorem stopMarkStep_frame (p : Profile) (s : State) :
    (stopMarkStep p s).power = s.power ∧ (stopMarkStep p s).time = s.time ∧ (stopMarkStep p s).inputs = s.inputs ∧
      (stopMarkStep p s).loader = s.loader ∧ (stopMarkStep p s).access = s.access ∧
      (stopMarkStep p s).peers = s.peers ∧ (stopMarkStep p s).tracker = s.tracker ∧
      (stopMarkStep p s).ceiling = s.ceiling ∧ (stopMarkStep p s).generator = s.generator ∧
      (stopMarkStep p s).seq = s.seq ∧ (stopMarkStep p s).loop = s.loop ∧ (stopMarkStep p s).brakes = s.brakes ∧
      (stopMarkStep p s).trips = s.trips ∧ (stopMarkStep p s).cls = s.cls ∧ (stopMarkStep p s).port = s.port ∧
      (stopMarkStep p s).pending = s.pending := by
  unfold stopMarkStep
  (try dsimp only)
  (repeat' split) <;> simp

/-- What `distanceStep` leaves alone. -/
@[simp] theorem distanceStep_frame (p : Profile) (s : State) :
    (distanceStep p s).power = s.power ∧ (distanceStep p s).time = s.time ∧ (distanceStep p s).inputs = s.inputs ∧
      (distanceStep p s).loader = s.loader ∧ (distanceStep p s).access = s.access ∧
      (distanceStep p s).peers = s.peers ∧ (distanceStep p s).tracker = s.tracker ∧
      (distanceStep p s).ceiling = s.ceiling ∧ (distanceStep p s).generator = s.generator ∧
      (distanceStep p s).seq = s.seq ∧ (distanceStep p s).loop = s.loop ∧ (distanceStep p s).brakes = s.brakes ∧
      (distanceStep p s).trips = s.trips ∧ (distanceStep p s).cls = s.cls ∧ (distanceStep p s).port = s.port ∧
      (distanceStep p s).pending = s.pending := by
  unfold distanceStep
  (try dsimp only)
  (repeat' split) <;> simp

/-- Outside a run every node but a LOOP keeps its distances (R43). -/
theorem distanceStep_rest (p : Profile) (s : State) (hr : inRun s = false) (hl : isLoop s = false) :
    distanceStep p s = s := by simp [distanceStep, hr, hl]

/-- Outside a run a LOOP keeps the distances that R155 lets stand. -/
theorem distanceStep_loop (p : Profile) (s : State) (hr : inRun s = false) (hl : isLoop s = true) :
    distanceStep p s =
      { s with
        envelope.distA := keptDistance s p .a s.envelope.distA
        envelope.distB := keptDistance s p .b s.envelope.distB } := by simp [distanceStep, hr, hl]

/-- What `decelerationStep` leaves alone. -/
@[simp] theorem decelerationStep_frame (p : Profile) (s : State) :
    (decelerationStep p s).power = s.power ∧ (decelerationStep p s).time = s.time ∧
      (decelerationStep p s).inputs = s.inputs ∧ (decelerationStep p s).loader = s.loader ∧
      (decelerationStep p s).access = s.access ∧ (decelerationStep p s).peers = s.peers ∧
      (decelerationStep p s).tracker = s.tracker ∧ (decelerationStep p s).ceiling = s.ceiling ∧
      (decelerationStep p s).generator = s.generator ∧ (decelerationStep p s).seq = s.seq ∧
      (decelerationStep p s).loop = s.loop ∧ (decelerationStep p s).brakes = s.brakes ∧
      (decelerationStep p s).trips = s.trips ∧ (decelerationStep p s).cls = s.cls ∧
      (decelerationStep p s).port = s.port ∧ (decelerationStep p s).pending = s.pending := by
  unfold decelerationStep
  (try dsimp only)
  simp

/-- What `vpermStep` leaves alone. -/
@[simp] theorem vpermStep_frame (p : Profile) (s : State) :
    (vpermStep p s).power = s.power ∧ (vpermStep p s).time = s.time ∧ (vpermStep p s).inputs = s.inputs ∧
      (vpermStep p s).loader = s.loader ∧ (vpermStep p s).access = s.access ∧ (vpermStep p s).peers = s.peers ∧
      (vpermStep p s).tracker = s.tracker ∧ (vpermStep p s).ceiling = s.ceiling ∧
      (vpermStep p s).generator = s.generator ∧ (vpermStep p s).seq = s.seq ∧ (vpermStep p s).loop = s.loop ∧
      (vpermStep p s).brakes = s.brakes ∧ (vpermStep p s).trips = s.trips ∧ (vpermStep p s).cls = s.cls ∧
      (vpermStep p s).port = s.port ∧ (vpermStep p s).pending = s.pending := by
  unfold vpermStep
  (try dsimp only)
  simp

/-- What `arrivalStep` leaves alone. -/
@[simp] theorem arrivalStep_frame (p : Profile) (s : State) :
    (arrivalStep p s).power = s.power ∧ (arrivalStep p s).time = s.time ∧ (arrivalStep p s).inputs = s.inputs ∧
      (arrivalStep p s).loader = s.loader ∧ (arrivalStep p s).peers = s.peers ∧ (arrivalStep p s).loop = s.loop ∧
      (arrivalStep p s).port = s.port ∧ (arrivalStep p s).pending = s.pending := by
  unfold arrivalStep
  (try dsimp only)
  (repeat' split) <;> simp

/-- What `envelopeEncoder` leaves alone. -/
@[simp] theorem envelopeEncoder_frame (p : Profile) (s : State) :
    (envelopeEncoder p s).power = s.power ∧ (envelopeEncoder p s).time = s.time ∧
      (envelopeEncoder p s).inputs = s.inputs ∧ (envelopeEncoder p s).loader = s.loader ∧
      (envelopeEncoder p s).peers = s.peers ∧ (envelopeEncoder p s).loop = s.loop ∧
      (envelopeEncoder p s).port = s.port ∧ (envelopeEncoder p s).pending = s.pending := by
  unfold envelopeEncoder
  simp

/-- What `envelopeLoop` leaves alone. -/
@[simp] theorem envelopeLoop_frame (p : Profile) (s : State) :
    (envelopeLoop p s).power = s.power ∧ (envelopeLoop p s).time = s.time ∧ (envelopeLoop p s).inputs = s.inputs ∧
      (envelopeLoop p s).loader = s.loader ∧ (envelopeLoop p s).access = s.access ∧
      (envelopeLoop p s).peers = s.peers ∧ (envelopeLoop p s).tracker = s.tracker ∧
      (envelopeLoop p s).ceiling = s.ceiling ∧ (envelopeLoop p s).generator = s.generator ∧
      (envelopeLoop p s).seq = s.seq ∧ (envelopeLoop p s).loop = s.loop ∧ (envelopeLoop p s).brakes = s.brakes ∧
      (envelopeLoop p s).trips = s.trips ∧ (envelopeLoop p s).cls = s.cls ∧ (envelopeLoop p s).port = s.port ∧
      (envelopeLoop p s).pending = s.pending := by
  unfold envelopeLoop
  simp

/-- What `envelopeTerminal` leaves alone. -/
@[simp] theorem envelopeTerminal_frame (p : Profile) (s : State) :
    (envelopeTerminal p s).power = s.power ∧ (envelopeTerminal p s).time = s.time ∧
      (envelopeTerminal p s).inputs = s.inputs ∧ (envelopeTerminal p s).loader = s.loader ∧
      (envelopeTerminal p s).access = s.access ∧ (envelopeTerminal p s).peers = s.peers ∧
      (envelopeTerminal p s).tracker = s.tracker ∧ (envelopeTerminal p s).ceiling = s.ceiling ∧
      (envelopeTerminal p s).generator = s.generator ∧ (envelopeTerminal p s).seq = s.seq ∧
      (envelopeTerminal p s).loop = s.loop ∧ (envelopeTerminal p s).brakes = s.brakes ∧
      (envelopeTerminal p s).trips = s.trips ∧ (envelopeTerminal p s).cls = s.cls ∧
      (envelopeTerminal p s).port = s.port ∧ (envelopeTerminal p s).pending = s.pending := by
  unfold envelopeTerminal
  (try dsimp only)
  (repeat' split) <;> simp

/-- What `envelopeWork` leaves alone. -/
@[simp] theorem envelopeWork_frame (s : State) :
    (envelopeWork s).power = s.power ∧ (envelopeWork s).time = s.time ∧ (envelopeWork s).inputs = s.inputs ∧
      (envelopeWork s).loader = s.loader ∧ (envelopeWork s).peers = s.peers ∧ (envelopeWork s).loop = s.loop ∧
      (envelopeWork s).port = s.port ∧ (envelopeWork s).pending = s.pending := by
  unfold envelopeWork
  (repeat' split) <;> simp

/-! ## Ceiling and Supervision Unit and the Ceiling Output Generator -/

/-- What `interveneStep` leaves alone. -/
@[simp] theorem interveneStep_frame (p : Profile) (s : State) :
    (interveneStep p s).power = s.power ∧ (interveneStep p s).time = s.time ∧ (interveneStep p s).inputs = s.inputs ∧
      (interveneStep p s).loader = s.loader ∧ (interveneStep p s).access = s.access ∧
      (interveneStep p s).peers = s.peers ∧ (interveneStep p s).tracker = s.tracker ∧
      (interveneStep p s).envelope = s.envelope ∧ (interveneStep p s).generator = s.generator ∧
      (interveneStep p s).seq = s.seq ∧ (interveneStep p s).loop = s.loop ∧ (interveneStep p s).trips = s.trips ∧
      (interveneStep p s).cls = s.cls ∧ (interveneStep p s).port = s.port ∧ (interveneStep p s).pending = s.pending := by
  unfold interveneStep
  (try dsimp only)
  (repeat' split) <;> simp

/-- What `reliftStep` leaves alone. -/
@[simp] theorem reliftStep_frame (s : State) :
    (reliftStep s).power = s.power ∧ (reliftStep s).time = s.time ∧ (reliftStep s).inputs = s.inputs ∧
      (reliftStep s).loader = s.loader ∧ (reliftStep s).access = s.access ∧ (reliftStep s).peers = s.peers ∧
      (reliftStep s).tracker = s.tracker ∧ (reliftStep s).envelope = s.envelope ∧
      (reliftStep s).generator = s.generator ∧ (reliftStep s).seq = s.seq ∧ (reliftStep s).loop = s.loop ∧
      (reliftStep s).trips = s.trips ∧ (reliftStep s).cls = s.cls ∧ (reliftStep s).port = s.port ∧
      (reliftStep s).pending = s.pending := by
  unfold reliftStep
  (try dsimp only)
  (repeat' split) <;> simp

/-- What `superviseStep` leaves alone. -/
@[simp] theorem superviseStep_frame (p : Profile) (s : State) :
    (superviseStep p s).power = s.power ∧ (superviseStep p s).time = s.time ∧ (superviseStep p s).inputs = s.inputs ∧
      (superviseStep p s).loader = s.loader ∧ (superviseStep p s).access = s.access ∧
      (superviseStep p s).peers = s.peers ∧ (superviseStep p s).tracker = s.tracker ∧
      (superviseStep p s).envelope = s.envelope ∧ (superviseStep p s).generator = s.generator ∧
      (superviseStep p s).seq = s.seq ∧ (superviseStep p s).loop = s.loop ∧ (superviseStep p s).trips = s.trips ∧
      (superviseStep p s).cls = s.cls ∧ (superviseStep p s).port = s.port ∧ (superviseStep p s).pending = s.pending := by
  unfold superviseStep
  (repeat' split) <;> simp

/-- What `overspeedStep` leaves alone. -/
@[simp] theorem overspeedStep_frame (p : Profile) (s : State) :
    (overspeedStep p s).power = s.power ∧ (overspeedStep p s).time = s.time ∧ (overspeedStep p s).inputs = s.inputs ∧
      (overspeedStep p s).loader = s.loader ∧ (overspeedStep p s).peers = s.peers ∧
      (overspeedStep p s).loop = s.loop ∧ (overspeedStep p s).port = s.port ∧ (overspeedStep p s).pending = s.pending := by
  unfold overspeedStep
  (repeat' split) <;> simp

/-- What `completeStep` leaves alone. -/
@[simp] theorem completeStep_frame (s : State) :
    (completeStep s).power = s.power ∧ (completeStep s).time = s.time ∧ (completeStep s).inputs = s.inputs ∧
      (completeStep s).loader = s.loader ∧ (completeStep s).peers = s.peers ∧ (completeStep s).loop = s.loop ∧
      (completeStep s).trips = s.trips ∧ (completeStep s).port = s.port ∧ (completeStep s).pending = s.pending := by
  unfold completeStep
  (repeat' split) <;> simp

/-- What `limitStep` leaves alone. -/
@[simp] theorem limitStep_frame (s : State) :
    (limitStep s).power = s.power ∧ (limitStep s).time = s.time ∧ (limitStep s).inputs = s.inputs ∧
      (limitStep s).loader = s.loader ∧ (limitStep s).access = s.access ∧ (limitStep s).peers = s.peers ∧
      (limitStep s).tracker = s.tracker ∧ (limitStep s).envelope = s.envelope ∧
      (limitStep s).generator = s.generator ∧ (limitStep s).seq = s.seq ∧ (limitStep s).loop = s.loop ∧
      (limitStep s).brakes = s.brakes ∧ (limitStep s).trips = s.trips ∧ (limitStep s).cls = s.cls ∧
      (limitStep s).port = s.port ∧ (limitStep s).pending = s.pending := by
  unfold limitStep
  (repeat' split) <;> simp

/-- What `ceilingWork` leaves alone. -/
@[simp] theorem ceilingWork_frame (s : State) :
    (ceilingWork s).power = s.power ∧ (ceilingWork s).time = s.time ∧ (ceilingWork s).inputs = s.inputs ∧
      (ceilingWork s).loader = s.loader ∧ (ceilingWork s).peers = s.peers ∧ (ceilingWork s).loop = s.loop ∧
      (ceilingWork s).port = s.port ∧ (ceilingWork s).pending = s.pending := by
  unfold ceilingWork
  (repeat' split) <;> simp

/-- What `applyCeiling` leaves alone. -/
@[simp] theorem applyCeiling_frame (s : State) :
    (applyCeiling s).power = s.power ∧ (applyCeiling s).time = s.time ∧ (applyCeiling s).inputs = s.inputs ∧
      (applyCeiling s).loader = s.loader ∧ (applyCeiling s).access = s.access ∧ (applyCeiling s).peers = s.peers ∧
      (applyCeiling s).tracker = s.tracker ∧ (applyCeiling s).envelope = s.envelope ∧
      (applyCeiling s).ceiling = s.ceiling ∧ (applyCeiling s).seq = s.seq ∧ (applyCeiling s).loop = s.loop ∧
      (applyCeiling s).brakes = s.brakes ∧ (applyCeiling s).trips = s.trips ∧ (applyCeiling s).cls = s.cls ∧
      (applyCeiling s).port = s.port ∧ (applyCeiling s).pending = s.pending := by
  unfold applyCeiling
  (repeat' split) <;> simp

/-- What `endHigh` leaves alone. -/
@[simp] theorem endHigh_frame (s : State) :
    (endHigh s).power = s.power ∧ (endHigh s).time = s.time ∧ (endHigh s).inputs = s.inputs ∧
      (endHigh s).loader = s.loader ∧ (endHigh s).access = s.access ∧ (endHigh s).peers = s.peers ∧
      (endHigh s).tracker = s.tracker ∧ (endHigh s).envelope = s.envelope ∧ (endHigh s).ceiling = s.ceiling ∧
      (endHigh s).seq = s.seq ∧ (endHigh s).loop = s.loop ∧ (endHigh s).brakes = s.brakes ∧
      (endHigh s).trips = s.trips ∧ (endHigh s).cls = s.cls ∧ (endHigh s).port = s.port ∧
      (endHigh s).pending = s.pending := by
  unfold endHigh
  (try dsimp only)
  (repeat' split) <;> simp

/-- What `endPeriod` leaves alone. -/
@[simp] theorem endPeriod_frame (s : State) :
    (endPeriod s).power = s.power ∧ (endPeriod s).time = s.time ∧ (endPeriod s).inputs = s.inputs ∧
      (endPeriod s).loader = s.loader ∧ (endPeriod s).access = s.access ∧ (endPeriod s).peers = s.peers ∧
      (endPeriod s).tracker = s.tracker ∧ (endPeriod s).envelope = s.envelope ∧ (endPeriod s).ceiling = s.ceiling ∧
      (endPeriod s).seq = s.seq ∧ (endPeriod s).loop = s.loop ∧ (endPeriod s).brakes = s.brakes ∧
      (endPeriod s).trips = s.trips ∧ (endPeriod s).cls = s.cls ∧ (endPeriod s).port = s.port ∧
      (endPeriod s).pending = s.pending := by
  unfold endPeriod
  (repeat' split) <;> simp

/-- What `passMicros` leaves alone. -/
@[simp] theorem passMicros_frame (n : Nat) (s : State) :
    (passMicros n s).power = s.power ∧ (passMicros n s).time = s.time ∧ (passMicros n s).inputs = s.inputs ∧
      (passMicros n s).loader = s.loader ∧ (passMicros n s).access = s.access ∧ (passMicros n s).peers = s.peers ∧
      (passMicros n s).tracker = s.tracker ∧ (passMicros n s).envelope = s.envelope ∧
      (passMicros n s).ceiling = s.ceiling ∧ (passMicros n s).seq = s.seq ∧ (passMicros n s).loop = s.loop ∧
      (passMicros n s).brakes = s.brakes ∧ (passMicros n s).trips = s.trips ∧ (passMicros n s).cls = s.cls ∧
      (passMicros n s).port = s.port ∧ (passMicros n s).pending = s.pending := by
  unfold passMicros
  (try dsimp only)
  simp

/-! ## Loop Monitor -/

/-- What `setTrack` leaves alone. -/
@[simp] theorem setTrack_frame (x : Side) (k : Track) (s : State) :
    (setTrack x k s).power = s.power ∧ (setTrack x k s).time = s.time ∧ (setTrack x k s).inputs = s.inputs ∧
      (setTrack x k s).loader = s.loader ∧ (setTrack x k s).peers = s.peers ∧ (setTrack x k s).tracker = s.tracker ∧
      (setTrack x k s).envelope = s.envelope ∧ (setTrack x k s).ceiling = s.ceiling ∧
      (setTrack x k s).generator = s.generator ∧ (setTrack x k s).seq = s.seq ∧ (setTrack x k s).brakes = s.brakes ∧
      (setTrack x k s).trips = s.trips ∧ (setTrack x k s).cls = s.cls ∧ (setTrack x k s).port = s.port ∧
      (setTrack x k s).pending = s.pending := by
  unfold setTrack
  (try dsimp only)
  (repeat' split) <;> simp

/-- What `takeRise` leaves alone. -/
@[simp] theorem takeRise_frame (p : Profile) (d : Detector) (s : State) :
    (takeRise p d s).power = s.power ∧ (takeRise p d s).time = s.time ∧ (takeRise p d s).inputs = s.inputs ∧
      (takeRise p d s).loader = s.loader ∧ (takeRise p d s).peers = s.peers ∧ (takeRise p d s).port = s.port ∧
      (takeRise p d s).pending = s.pending := by
  unfold takeRise
  (try dsimp only)
  (repeat' split) <;> simp

/-- What `takeFall` leaves alone. -/
@[simp] theorem takeFall_frame (p : Profile) (d : Detector) (s : State) :
    (takeFall p d s).power = s.power ∧ (takeFall p d s).time = s.time ∧ (takeFall p d s).inputs = s.inputs ∧
      (takeFall p d s).loader = s.loader ∧ (takeFall p d s).peers = s.peers ∧ (takeFall p d s).port = s.port ∧
      (takeFall p d s).pending = s.pending := by
  unfold takeFall
  (repeat' split) <;> simp

/-- What `confirmTrack` leaves alone. -/
@[simp] theorem confirmTrack_frame (p : Profile) (x : Side) (s : State) :
    (confirmTrack p x s).power = s.power ∧ (confirmTrack p x s).time = s.time ∧
      (confirmTrack p x s).inputs = s.inputs ∧ (confirmTrack p x s).loader = s.loader ∧
      (confirmTrack p x s).peers = s.peers ∧ (confirmTrack p x s).tracker = s.tracker ∧
      (confirmTrack p x s).envelope = s.envelope ∧ (confirmTrack p x s).ceiling = s.ceiling ∧
      (confirmTrack p x s).generator = s.generator ∧ (confirmTrack p x s).seq = s.seq ∧
      (confirmTrack p x s).brakes = s.brakes ∧ (confirmTrack p x s).trips = s.trips ∧
      (confirmTrack p x s).cls = s.cls ∧ (confirmTrack p x s).port = s.port ∧ (confirmTrack p x s).pending = s.pending := by
  unfold confirmTrack
  (repeat' split) <;> simp

/-- What `loopWork` leaves alone. -/
@[simp] theorem loopWork_frame (s : State) :
    (loopWork s).power = s.power ∧ (loopWork s).time = s.time ∧ (loopWork s).inputs = s.inputs ∧
      (loopWork s).loader = s.loader ∧ (loopWork s).peers = s.peers ∧ (loopWork s).tracker = s.tracker ∧
      (loopWork s).envelope = s.envelope ∧ (loopWork s).ceiling = s.ceiling ∧ (loopWork s).generator = s.generator ∧
      (loopWork s).seq = s.seq ∧ (loopWork s).brakes = s.brakes ∧ (loopWork s).trips = s.trips ∧
      (loopWork s).cls = s.cls ∧ (loopWork s).port = s.port ∧ (loopWork s).pending = s.pending := by
  unfold loopWork
  (repeat' split) <;> simp

/-! ## Run Sequencer -/

/-- What `leaveArmed` leaves alone. -/
@[simp] theorem leaveArmed_frame (s : State) :
    (leaveArmed s).power = s.power ∧ (leaveArmed s).time = s.time ∧ (leaveArmed s).inputs = s.inputs ∧
      (leaveArmed s).loader = s.loader ∧ (leaveArmed s).peers = s.peers ∧ (leaveArmed s).loop = s.loop ∧
      (leaveArmed s).trips = s.trips ∧ (leaveArmed s).port = s.port ∧ (leaveArmed s).pending = s.pending := by
  unfold leaveArmed
  simp

/-- What `judgeConsent` leaves alone. -/
@[simp] theorem judgeConsent_frame (s : State) :
    (judgeConsent s).power = s.power ∧ (judgeConsent s).time = s.time ∧ (judgeConsent s).inputs = s.inputs ∧
      (judgeConsent s).loader = s.loader ∧ (judgeConsent s).peers = s.peers ∧ (judgeConsent s).loop = s.loop ∧
      (judgeConsent s).trips = s.trips ∧ (judgeConsent s).port = s.port ∧ (judgeConsent s).pending = s.pending := by
  unfold judgeConsent
  (repeat' split) <;> simp

/-- What `judgeLineStart` leaves alone. -/
@[simp] theorem judgeLineStart_frame (s : State) :
    (judgeLineStart s).power = s.power ∧ (judgeLineStart s).time = s.time ∧ (judgeLineStart s).inputs = s.inputs ∧
      (judgeLineStart s).loader = s.loader ∧ (judgeLineStart s).access = s.access ∧
      (judgeLineStart s).peers = s.peers ∧ (judgeLineStart s).tracker = s.tracker ∧
      (judgeLineStart s).envelope = s.envelope ∧ (judgeLineStart s).ceiling = s.ceiling ∧
      (judgeLineStart s).generator = s.generator ∧ (judgeLineStart s).loop = s.loop ∧
      (judgeLineStart s).trips = s.trips ∧ (judgeLineStart s).cls = s.cls ∧ (judgeLineStart s).port = s.port ∧
      (judgeLineStart s).pending = s.pending := by
  unfold judgeLineStart
  (try dsimp only)
  (repeat' split) <;> simp

/-- What `stageLifted` leaves alone. -/
@[simp] theorem stageLifted_frame (b : BrakeId) (s : State) :
    (stageLifted b s).power = s.power ∧ (stageLifted b s).time = s.time ∧ (stageLifted b s).inputs = s.inputs ∧
      (stageLifted b s).loader = s.loader ∧ (stageLifted b s).peers = s.peers ∧ (stageLifted b s).loop = s.loop ∧
      (stageLifted b s).trips = s.trips ∧ (stageLifted b s).port = s.port ∧ (stageLifted b s).pending = s.pending := by
  unfold stageLifted
  (try dsimp only)
  (repeat' split) <;> simp

/-- What `refusePress` leaves alone. -/
@[simp] theorem refusePress_frame (s : State) :
    (refusePress s).power = s.power ∧ (refusePress s).time = s.time ∧ (refusePress s).inputs = s.inputs ∧
      (refusePress s).loader = s.loader ∧ (refusePress s).access = s.access ∧ (refusePress s).peers = s.peers ∧
      (refusePress s).tracker = s.tracker ∧ (refusePress s).envelope = s.envelope ∧
      (refusePress s).ceiling = s.ceiling ∧ (refusePress s).generator = s.generator ∧ (refusePress s).loop = s.loop ∧
      (refusePress s).brakes = s.brakes ∧ (refusePress s).trips = s.trips ∧ (refusePress s).cls = s.cls ∧
      (refusePress s).port = s.port ∧ (refusePress s).pending = s.pending := by
  unfold refusePress
  (try dsimp only)
  simp

/-- What `takeRun` leaves alone. -/
@[simp] theorem takeRun_frame (n : RunNo) (d : Direction) (k : Option (Fin 5)) (r q : Bool) (i : NodeId) (p : Profile) (s : State) :
    (takeRun n d k r q i p s).power = s.power ∧ (takeRun n d k r q i p s).time = s.time ∧
      (takeRun n d k r q i p s).inputs = s.inputs ∧ (takeRun n d k r q i p s).loader = s.loader ∧
      (takeRun n d k r q i p s).access = s.access ∧ (takeRun n d k r q i p s).peers = s.peers ∧
      (takeRun n d k r q i p s).tracker = s.tracker ∧ (takeRun n d k r q i p s).envelope = s.envelope ∧
      (takeRun n d k r q i p s).ceiling = s.ceiling ∧ (takeRun n d k r q i p s).generator = s.generator ∧
      (takeRun n d k r q i p s).loop = s.loop ∧ (takeRun n d k r q i p s).brakes = s.brakes ∧
      (takeRun n d k r q i p s).trips = s.trips ∧ (takeRun n d k r q i p s).cls = s.cls ∧
      (takeRun n d k r q i p s).port = s.port ∧ (takeRun n d k r q i p s).pending = s.pending := by
  unfold takeRun
  (try dsimp only)
  simp

/-- What `arm` leaves alone. -/
@[simp] theorem arm_frame (s : State) :
    (arm s).power = s.power ∧ (arm s).time = s.time ∧ (arm s).inputs = s.inputs ∧ (arm s).loader = s.loader ∧
      (arm s).peers = s.peers ∧ (arm s).loop = s.loop ∧ (arm s).trips = s.trips ∧ (arm s).port = s.port ∧
      (arm s).pending = s.pending := by
  unfold arm
  (try dsimp only)
  simp

/-- What `dispatch` leaves alone. -/
@[simp] theorem dispatch_frame (d : RunDir) (s : State) :
    (dispatch d s).power = s.power ∧ (dispatch d s).time = s.time ∧ (dispatch d s).inputs = s.inputs ∧
      (dispatch d s).loader = s.loader ∧ (dispatch d s).peers = s.peers ∧ (dispatch d s).loop = s.loop ∧
      (dispatch d s).trips = s.trips ∧ (dispatch d s).port = s.port ∧ (dispatch d s).pending = s.pending := by
  unfold dispatch
  (repeat' split) <;> simp

/-- What `adopt` leaves alone. -/
@[simp] theorem adopt_frame (i : NodeId) (r : BeaconRec) (p : Profile) (s : State) :
    (adopt i r p s).power = s.power ∧ (adopt i r p s).time = s.time ∧ (adopt i r p s).inputs = s.inputs ∧
      (adopt i r p s).loader = s.loader ∧ (adopt i r p s).peers = s.peers ∧ (adopt i r p s).loop = s.loop ∧
      (adopt i r p s).trips = s.trips ∧ (adopt i r p s).port = s.port ∧ (adopt i r p s).pending = s.pending := by
  unfold adopt
  (repeat' split) <;> simp

/-- What `replaceProposal` leaves alone. -/
@[simp] theorem replaceProposal_frame (i : NodeId) (r : BeaconRec) (p : Profile) (s : State) :
    (replaceProposal i r p s).power = s.power ∧ (replaceProposal i r p s).time = s.time ∧
      (replaceProposal i r p s).inputs = s.inputs ∧ (replaceProposal i r p s).loader = s.loader ∧
      (replaceProposal i r p s).peers = s.peers ∧ (replaceProposal i r p s).loop = s.loop ∧
      (replaceProposal i r p s).trips = s.trips ∧ (replaceProposal i r p s).port = s.port ∧
      (replaceProposal i r p s).pending = s.pending := by
  unfold replaceProposal
  (try dsimp only)
  (repeat' split) <;> simp

/-- What `moveToNewer` leaves alone. -/
@[simp] theorem moveToNewer_frame (i : NodeId) (r : BeaconRec) (p : Profile) (s : State) :
    (moveToNewer i r p s).power = s.power ∧ (moveToNewer i r p s).time = s.time ∧
      (moveToNewer i r p s).inputs = s.inputs ∧ (moveToNewer i r p s).loader = s.loader ∧
      (moveToNewer i r p s).peers = s.peers ∧ (moveToNewer i r p s).loop = s.loop ∧
      (moveToNewer i r p s).trips = s.trips ∧ (moveToNewer i r p s).port = s.port ∧
      (moveToNewer i r p s).pending = s.pending := by
  unfold moveToNewer
  (repeat' split) <;> simp

/-- What `dispatchInArmed` leaves alone. -/
@[simp] theorem dispatchInArmed_frame (i : NodeId) (r : BeaconRec) (p : Profile) (s : State) :
    (dispatchInArmed i r p s).power = s.power ∧ (dispatchInArmed i r p s).time = s.time ∧
      (dispatchInArmed i r p s).inputs = s.inputs ∧ (dispatchInArmed i r p s).loader = s.loader ∧
      (dispatchInArmed i r p s).peers = s.peers ∧ (dispatchInArmed i r p s).loop = s.loop ∧
      (dispatchInArmed i r p s).trips = s.trips ∧ (dispatchInArmed i r p s).port = s.port ∧
      (dispatchInArmed i r p s).pending = s.pending := by
  unfold dispatchInArmed
  (repeat' split) <;> simp

/-- What `followRunning` leaves alone. -/
@[simp] theorem followRunning_frame (r : BeaconRec) (s : State) :
    (followRunning r s).power = s.power ∧ (followRunning r s).time = s.time ∧ (followRunning r s).inputs = s.inputs ∧
      (followRunning r s).loader = s.loader ∧ (followRunning r s).peers = s.peers ∧
      (followRunning r s).loop = s.loop ∧ (followRunning r s).trips = s.trips ∧ (followRunning r s).port = s.port ∧
      (followRunning r s).pending = s.pending := by
  unfold followRunning
  (try dsimp only)
  (repeat' split) <;> simp

/-- What `enterStopping` leaves alone. -/
@[simp] theorem enterStopping_frame (s : State) :
    (enterStopping s).power = s.power ∧ (enterStopping s).time = s.time ∧ (enterStopping s).inputs = s.inputs ∧
      (enterStopping s).loader = s.loader ∧ (enterStopping s).peers = s.peers ∧ (enterStopping s).loop = s.loop ∧
      (enterStopping s).trips = s.trips ∧ (enterStopping s).port = s.port ∧ (enterStopping s).pending = s.pending := by
  unfold enterStopping
  (try dsimp only)
  (repeat' split) <;> simp

/-- What `driveDwell` leaves alone. -/
@[simp] theorem driveDwell_frame (s : State) :
    (driveDwell s).power = s.power ∧ (driveDwell s).time = s.time ∧ (driveDwell s).inputs = s.inputs ∧
      (driveDwell s).loader = s.loader ∧ (driveDwell s).peers = s.peers ∧ (driveDwell s).loop = s.loop ∧
      (driveDwell s).trips = s.trips ∧ (driveDwell s).port = s.port ∧ (driveDwell s).pending = s.pending := by
  unfold driveDwell
  (repeat' split) <;> simp

/-- What `carDwell` leaves alone. -/
@[simp] theorem carDwell_frame (s : State) :
    (carDwell s).power = s.power ∧ (carDwell s).time = s.time ∧ (carDwell s).inputs = s.inputs ∧
      (carDwell s).loader = s.loader ∧ (carDwell s).peers = s.peers ∧ (carDwell s).loop = s.loop ∧
      (carDwell s).trips = s.trips ∧ (carDwell s).port = s.port ∧ (carDwell s).pending = s.pending := by
  unfold carDwell
  (try dsimp only)
  (repeat' split) <;> simp

/-- What `judgeDoor` leaves alone. -/
@[simp] theorem judgeDoor_frame (s : State) :
    (judgeDoor s).power = s.power ∧ (judgeDoor s).time = s.time ∧ (judgeDoor s).inputs = s.inputs ∧
      (judgeDoor s).loader = s.loader ∧ (judgeDoor s).access = s.access ∧ (judgeDoor s).peers = s.peers ∧
      (judgeDoor s).tracker = s.tracker ∧ (judgeDoor s).envelope = s.envelope ∧ (judgeDoor s).ceiling = s.ceiling ∧
      (judgeDoor s).generator = s.generator ∧ (judgeDoor s).loop = s.loop ∧ (judgeDoor s).brakes = s.brakes ∧
      (judgeDoor s).trips = s.trips ∧ (judgeDoor s).cls = s.cls ∧ (judgeDoor s).port = s.port ∧
      (judgeDoor s).pending = s.pending := by
  unfold judgeDoor
  (try dsimp only)
  (repeat' split) <;> simp

/-- What `sequencerTick` leaves alone. -/
@[simp] theorem sequencerTick_frame (s : State) :
    (sequencerTick s).power = s.power ∧ (sequencerTick s).time = s.time ∧ (sequencerTick s).inputs = s.inputs ∧
      (sequencerTick s).loader = s.loader ∧ (sequencerTick s).peers = s.peers ∧ (sequencerTick s).loop = s.loop ∧
      (sequencerTick s).port = s.port ∧ (sequencerTick s).pending = s.pending := by
  unfold sequencerTick
  (try dsimp only)
  (repeat' split) <;> simp

/-- What `sequencerWork` leaves alone. -/
@[simp] theorem sequencerWork_frame (s : State) :
    (sequencerWork s).power = s.power ∧ (sequencerWork s).time = s.time ∧ (sequencerWork s).inputs = s.inputs ∧
      (sequencerWork s).loader = s.loader ∧ (sequencerWork s).peers = s.peers ∧ (sequencerWork s).loop = s.loop ∧
      (sequencerWork s).port = s.port ∧ (sequencerWork s).pending = s.pending := by
  unfold sequencerWork
  (repeat' split) <;> simp

/-- What `sequencerSignal` leaves alone. -/
@[simp] theorem sequencerSignal_frame (e : Entry) (s : State) :
    (sequencerSignal e s).power = s.power ∧ (sequencerSignal e s).time = s.time ∧
      (sequencerSignal e s).inputs = s.inputs ∧ (sequencerSignal e s).loader = s.loader ∧
      (sequencerSignal e s).peers = s.peers ∧ (sequencerSignal e s).loop = s.loop ∧
      (sequencerSignal e s).trips = s.trips ∧ (sequencerSignal e s).port = s.port ∧
      (sequencerSignal e s).pending = s.pending := by
  unfold sequencerSignal
  (try dsimp only)
  (repeat' split) <;> simp

/-- What `beaconInArmed` leaves alone. -/
@[simp] theorem beaconInArmed_frame (e : Entry) (r : BeaconRec) (p : Profile) (s : State) :
    (beaconInArmed e r p s).power = s.power ∧ (beaconInArmed e r p s).time = s.time ∧
      (beaconInArmed e r p s).inputs = s.inputs ∧ (beaconInArmed e r p s).loader = s.loader ∧
      (beaconInArmed e r p s).peers = s.peers ∧ (beaconInArmed e r p s).loop = s.loop ∧
      (beaconInArmed e r p s).trips = s.trips ∧ (beaconInArmed e r p s).port = s.port ∧
      (beaconInArmed e r p s).pending = s.pending := by
  unfold beaconInArmed
  (try dsimp only)
  (repeat' split) <;> simp

/-- What `sequencerBeacon` leaves alone. -/
@[simp] theorem sequencerBeacon_frame (e : Entry) (r : BeaconRec) (s : State) :
    (sequencerBeacon e r s).power = s.power ∧ (sequencerBeacon e r s).time = s.time ∧
      (sequencerBeacon e r s).inputs = s.inputs ∧ (sequencerBeacon e r s).loader = s.loader ∧
      (sequencerBeacon e r s).peers = s.peers ∧ (sequencerBeacon e r s).loop = s.loop ∧
      (sequencerBeacon e r s).trips = s.trips ∧ (sequencerBeacon e r s).port = s.port ∧
      (sequencerBeacon e r s).pending = s.pending := by
  unfold sequencerBeacon
  (try dsimp only)
  (repeat' split) <;> simp

/-! ## Trip Unit -/

/-- What `judgeClear` leaves alone. -/
@[simp] theorem judgeClear_frame (s : State) :
    (judgeClear s).power = s.power ∧ (judgeClear s).time = s.time ∧ (judgeClear s).inputs = s.inputs ∧
      (judgeClear s).loader = s.loader ∧ (judgeClear s).peers = s.peers ∧ (judgeClear s).loop = s.loop ∧
      (judgeClear s).port = s.port ∧ (judgeClear s).pending = s.pending := by
  unfold judgeClear
  (try dsimp only)
  (repeat' split) <;> simp

/-- What `tripBeacon` leaves alone. -/
@[simp] theorem tripBeacon_frame (e : Entry) (r : BeaconRec) (s : State) :
    (tripBeacon e r s).power = s.power ∧ (tripBeacon e r s).time = s.time ∧ (tripBeacon e r s).inputs = s.inputs ∧
      (tripBeacon e r s).loader = s.loader ∧ (tripBeacon e r s).peers = s.peers ∧ (tripBeacon e r s).loop = s.loop ∧
      (tripBeacon e r s).port = s.port ∧ (tripBeacon e r s).pending = s.pending := by
  unfold tripBeacon
  (try dsimp only)
  (repeat' split) <;> simp

/-- What `acceptAck` leaves alone. -/
@[simp] theorem acceptAck_frame (s : State) :
    (acceptAck s).power = s.power ∧ (acceptAck s).time = s.time ∧ (acceptAck s).inputs = s.inputs ∧
      (acceptAck s).loader = s.loader ∧ (acceptAck s).peers = s.peers ∧ (acceptAck s).loop = s.loop ∧
      (acceptAck s).port = s.port ∧ (acceptAck s).pending = s.pending := by
  unfold acceptAck
  (try dsimp only)
  (repeat' split) <;> simp

/-- What `acknowledge` leaves alone. -/
@[simp] theorem acknowledge_frame (s : State) :
    (acknowledge s).power = s.power ∧ (acknowledge s).time = s.time ∧ (acknowledge s).inputs = s.inputs ∧
      (acknowledge s).loader = s.loader ∧ (acknowledge s).peers = s.peers ∧ (acknowledge s).loop = s.loop ∧
      (acknowledge s).port = s.port ∧ (acknowledge s).pending = s.pending := by
  unfold acknowledge
  (repeat' split) <;> simp

/-- What `takeAck` leaves alone. -/
@[simp] theorem takeAck_frame (s : State) :
    (takeAck s).power = s.power ∧ (takeAck s).time = s.time ∧ (takeAck s).loader = s.loader ∧
      (takeAck s).peers = s.peers ∧ (takeAck s).loop = s.loop ∧ (takeAck s).port = s.port ∧
      (takeAck s).pending = s.pending := by
  unfold takeAck
  (try dsimp only)
  (repeat' split) <;> simp

/-- What `assertEstop` leaves alone. -/
@[simp] theorem assertEstop_frame (s : State) :
    (assertEstop s).power = s.power ∧ (assertEstop s).time = s.time ∧ (assertEstop s).inputs = s.inputs ∧
      (assertEstop s).loader = s.loader ∧ (assertEstop s).peers = s.peers ∧ (assertEstop s).loop = s.loop ∧
      (assertEstop s).port = s.port ∧ (assertEstop s).pending = s.pending := by
  unfold assertEstop
  (try dsimp only)
  (repeat' split) <;> simp

/-- What `releaseEstop` leaves alone. -/
@[simp] theorem releaseEstop_frame (s : State) :
    (releaseEstop s).power = s.power ∧ (releaseEstop s).time = s.time ∧ (releaseEstop s).inputs = s.inputs ∧
      (releaseEstop s).loader = s.loader ∧ (releaseEstop s).access = s.access ∧ (releaseEstop s).peers = s.peers ∧
      (releaseEstop s).tracker = s.tracker ∧ (releaseEstop s).envelope = s.envelope ∧
      (releaseEstop s).ceiling = s.ceiling ∧ (releaseEstop s).generator = s.generator ∧
      (releaseEstop s).seq = s.seq ∧ (releaseEstop s).loop = s.loop ∧ (releaseEstop s).brakes = s.brakes ∧
      (releaseEstop s).cls = s.cls ∧ (releaseEstop s).port = s.port ∧ (releaseEstop s).pending = s.pending := by
  unfold releaseEstop
  (try dsimp only)
  (repeat' split) <;> simp

/-- What `endAlert` leaves alone. -/
@[simp] theorem endAlert_frame (s : State) :
    (endAlert s).power = s.power ∧ (endAlert s).time = s.time ∧ (endAlert s).inputs = s.inputs ∧
      (endAlert s).loader = s.loader ∧ (endAlert s).access = s.access ∧ (endAlert s).peers = s.peers ∧
      (endAlert s).tracker = s.tracker ∧ (endAlert s).envelope = s.envelope ∧ (endAlert s).ceiling = s.ceiling ∧
      (endAlert s).generator = s.generator ∧ (endAlert s).seq = s.seq ∧ (endAlert s).loop = s.loop ∧
      (endAlert s).brakes = s.brakes ∧ (endAlert s).cls = s.cls ∧ (endAlert s).port = s.port ∧
      (endAlert s).pending = s.pending := by
  unfold endAlert
  (try dsimp only)
  (repeat' split) <;> simp

/-! ## Class Controller -/

/-- What `standUp` leaves alone. -/
@[simp] theorem standUp_frame (s : State) :
    (standUp s).power = s.power ∧ (standUp s).time = s.time ∧ (standUp s).inputs = s.inputs ∧
      (standUp s).loader = s.loader ∧ (standUp s).peers = s.peers ∧ (standUp s).loop = s.loop ∧
      (standUp s).trips = s.trips ∧ (standUp s).port = s.port ∧ (standUp s).pending = s.pending := by
  unfold standUp
  simp

/-- What `takeStandUp` leaves alone. -/
@[simp] theorem takeStandUp_frame (s : State) :
    (takeStandUp s).power = s.power ∧ (takeStandUp s).time = s.time ∧ (takeStandUp s).loader = s.loader ∧
      (takeStandUp s).peers = s.peers ∧ (takeStandUp s).loop = s.loop ∧ (takeStandUp s).trips = s.trips ∧
      (takeStandUp s).port = s.port ∧ (takeStandUp s).pending = s.pending := by
  unfold takeStandUp
  (try dsimp only)
  (repeat' split) <;> simp

/-- What `initiate` leaves alone. -/
@[simp] theorem initiate_frame (p : Profile) (s : State) :
    (initiate p s).power = s.power ∧ (initiate p s).time = s.time ∧ (initiate p s).inputs = s.inputs ∧
      (initiate p s).loader = s.loader ∧ (initiate p s).peers = s.peers ∧ (initiate p s).tracker = s.tracker ∧
      (initiate p s).envelope = s.envelope ∧ (initiate p s).ceiling = s.ceiling ∧
      (initiate p s).generator = s.generator ∧ (initiate p s).seq = s.seq ∧ (initiate p s).loop = s.loop ∧
      (initiate p s).brakes = s.brakes ∧ (initiate p s).trips = s.trips ∧ (initiate p s).port = s.port ∧
      (initiate p s).pending = s.pending := by
  unfold initiate
  (try dsimp only)
  simp

/-- What `standDown` leaves alone. -/
@[simp] theorem standDown_frame (s : State) :
    (standDown s).power = s.power ∧ (standDown s).time = s.time ∧ (standDown s).inputs = s.inputs ∧
      (standDown s).loader = s.loader ∧ (standDown s).peers = s.peers ∧ (standDown s).tracker = s.tracker ∧
      (standDown s).envelope = s.envelope ∧ (standDown s).ceiling = s.ceiling ∧
      (standDown s).generator = s.generator ∧ (standDown s).loop = s.loop ∧ (standDown s).brakes = s.brakes ∧
      (standDown s).trips = s.trips ∧ (standDown s).port = s.port ∧ (standDown s).pending = s.pending := by
  unfold standDown
  (repeat' split) <;> simp

/-- What `takeStandDown` leaves alone. -/
@[simp] theorem takeStandDown_frame (s : State) :
    (takeStandDown s).power = s.power ∧ (takeStandDown s).time = s.time ∧ (takeStandDown s).loader = s.loader ∧
      (takeStandDown s).peers = s.peers ∧ (takeStandDown s).tracker = s.tracker ∧
      (takeStandDown s).envelope = s.envelope ∧ (takeStandDown s).ceiling = s.ceiling ∧
      (takeStandDown s).generator = s.generator ∧ (takeStandDown s).loop = s.loop ∧
      (takeStandDown s).brakes = s.brakes ∧ (takeStandDown s).trips = s.trips ∧ (takeStandDown s).port = s.port ∧
      (takeStandDown s).pending = s.pending := by
  unfold takeStandDown
  (try dsimp only)
  (repeat' split) <;> simp

/-- What `commit` leaves alone. -/
@[simp] theorem commit_frame (s : State) :
    (commit s).power = s.power ∧ (commit s).time = s.time ∧ (commit s).inputs = s.inputs ∧
      (commit s).loader = s.loader ∧ (commit s).peers = s.peers ∧ (commit s).loop = s.loop ∧
      (commit s).trips = s.trips ∧ (commit s).port = s.port ∧ (commit s).pending = s.pending := by
  unfold commit
  (try dsimp only)
  simp

/-- What `follow` leaves alone. -/
@[simp] theorem follow_frame (s : State) :
    (follow s).power = s.power ∧ (follow s).time = s.time ∧ (follow s).inputs = s.inputs ∧
      (follow s).loader = s.loader ∧ (follow s).peers = s.peers ∧ (follow s).loop = s.loop ∧
      (follow s).trips = s.trips ∧ (follow s).port = s.port ∧ (follow s).pending = s.pending := by
  unfold follow
  simp

/-- What `judgeInitiator` leaves alone. -/
@[simp] theorem judgeInitiator_frame (s : State) :
    (judgeInitiator s).power = s.power ∧ (judgeInitiator s).time = s.time ∧ (judgeInitiator s).inputs = s.inputs ∧
      (judgeInitiator s).loader = s.loader ∧ (judgeInitiator s).peers = s.peers ∧ (judgeInitiator s).loop = s.loop ∧
      (judgeInitiator s).trips = s.trips ∧ (judgeInitiator s).port = s.port ∧ (judgeInitiator s).pending = s.pending := by
  unfold judgeInitiator
  (repeat' split) <;> simp

/-- What `answer` leaves alone. -/
@[simp] theorem answer_frame (i : NodeId) (p : Profile) (s : State) :
    (answer i p s).power = s.power ∧ (answer i p s).time = s.time ∧ (answer i p s).inputs = s.inputs ∧
      (answer i p s).loader = s.loader ∧ (answer i p s).peers = s.peers ∧ (answer i p s).tracker = s.tracker ∧
      (answer i p s).envelope = s.envelope ∧ (answer i p s).ceiling = s.ceiling ∧
      (answer i p s).generator = s.generator ∧ (answer i p s).seq = s.seq ∧ (answer i p s).loop = s.loop ∧
      (answer i p s).brakes = s.brakes ∧ (answer i p s).trips = s.trips ∧ (answer i p s).port = s.port ∧
      (answer i p s).pending = s.pending := by
  unfold answer
  (try dsimp only)
  simp

/-- What `takeRequest` leaves alone. -/
@[simp] theorem takeRequest_frame (i : NodeId) (p : Profile) (s : State) :
    (takeRequest i p s).power = s.power ∧ (takeRequest i p s).time = s.time ∧ (takeRequest i p s).inputs = s.inputs ∧
      (takeRequest i p s).loader = s.loader ∧ (takeRequest i p s).peers = s.peers ∧
      (takeRequest i p s).tracker = s.tracker ∧ (takeRequest i p s).envelope = s.envelope ∧
      (takeRequest i p s).ceiling = s.ceiling ∧ (takeRequest i p s).generator = s.generator ∧
      (takeRequest i p s).seq = s.seq ∧ (takeRequest i p s).loop = s.loop ∧ (takeRequest i p s).brakes = s.brakes ∧
      (takeRequest i p s).trips = s.trips ∧ (takeRequest i p s).port = s.port ∧
      (takeRequest i p s).pending = s.pending := by
  unfold takeRequest
  (try dsimp only)
  (repeat' split) <;> simp

/-- What `judgeAcker` leaves alone. -/
@[simp] theorem judgeAcker_frame (e : Entry) (r : BeaconRec) (s : State) :
    (judgeAcker e r s).power = s.power ∧ (judgeAcker e r s).time = s.time ∧ (judgeAcker e r s).inputs = s.inputs ∧
      (judgeAcker e r s).loader = s.loader ∧ (judgeAcker e r s).peers = s.peers ∧ (judgeAcker e r s).loop = s.loop ∧
      (judgeAcker e r s).trips = s.trips ∧ (judgeAcker e r s).port = s.port ∧ (judgeAcker e r s).pending = s.pending := by
  unfold judgeAcker
  (repeat' split) <;> simp

/-- What `takeWake` leaves alone. -/
@[simp] theorem takeWake_frame (s : State) :
    (takeWake s).power = s.power ∧ (takeWake s).time = s.time ∧ (takeWake s).inputs = s.inputs ∧
      (takeWake s).loader = s.loader ∧ (takeWake s).peers = s.peers ∧ (takeWake s).loop = s.loop ∧
      (takeWake s).trips = s.trips ∧ (takeWake s).port = s.port ∧ (takeWake s).pending = s.pending := by
  unfold takeWake
  (try dsimp only)
  (repeat' split) <;> simp

/-- What `classBeacon` leaves alone. -/
@[simp] theorem classBeacon_frame (e : Entry) (r : BeaconRec) (s : State) :
    (classBeacon e r s).power = s.power ∧ (classBeacon e r s).time = s.time ∧ (classBeacon e r s).inputs = s.inputs ∧
      (classBeacon e r s).loader = s.loader ∧ (classBeacon e r s).peers = s.peers ∧
      (classBeacon e r s).loop = s.loop ∧ (classBeacon e r s).trips = s.trips ∧ (classBeacon e r s).port = s.port ∧
      (classBeacon e r s).pending = s.pending := by
  unfold classBeacon
  (try dsimp only)
  (repeat' split) <;> simp

/-- What `downshift` leaves alone. -/
@[simp] theorem downshift_frame (s : State) :
    (downshift s).power = s.power ∧ (downshift s).time = s.time ∧ (downshift s).inputs = s.inputs ∧
      (downshift s).loader = s.loader ∧ (downshift s).peers = s.peers ∧ (downshift s).tracker = s.tracker ∧
      (downshift s).envelope = s.envelope ∧ (downshift s).ceiling = s.ceiling ∧
      (downshift s).generator = s.generator ∧ (downshift s).seq = s.seq ∧ (downshift s).loop = s.loop ∧
      (downshift s).brakes = s.brakes ∧ (downshift s).trips = s.trips ∧ (downshift s).port = s.port ∧
      (downshift s).pending = s.pending := by
  unfold downshift
  (repeat' split) <;> simp

/-- What `expireStandDown` leaves alone. -/
@[simp] theorem expireStandDown_frame (s : State) :
    (expireStandDown s).power = s.power ∧ (expireStandDown s).time = s.time ∧ (expireStandDown s).inputs = s.inputs ∧
      (expireStandDown s).loader = s.loader ∧ (expireStandDown s).peers = s.peers ∧
      (expireStandDown s).tracker = s.tracker ∧ (expireStandDown s).envelope = s.envelope ∧
      (expireStandDown s).ceiling = s.ceiling ∧ (expireStandDown s).generator = s.generator ∧
      (expireStandDown s).seq = s.seq ∧ (expireStandDown s).loop = s.loop ∧ (expireStandDown s).brakes = s.brakes ∧
      (expireStandDown s).trips = s.trips ∧ (expireStandDown s).port = s.port ∧
      (expireStandDown s).pending = s.pending := by
  unfold expireStandDown
  (repeat' split) <;> simp

/-- What `endRefusal` leaves alone. -/
@[simp] theorem endRefusal_frame (s : State) :
    (endRefusal s).power = s.power ∧ (endRefusal s).time = s.time ∧ (endRefusal s).inputs = s.inputs ∧
      (endRefusal s).loader = s.loader ∧ (endRefusal s).access = s.access ∧ (endRefusal s).peers = s.peers ∧
      (endRefusal s).tracker = s.tracker ∧ (endRefusal s).envelope = s.envelope ∧
      (endRefusal s).ceiling = s.ceiling ∧ (endRefusal s).generator = s.generator ∧ (endRefusal s).loop = s.loop ∧
      (endRefusal s).brakes = s.brakes ∧ (endRefusal s).trips = s.trips ∧ (endRefusal s).cls = s.cls ∧
      (endRefusal s).port = s.port ∧ (endRefusal s).pending = s.pending := by
  unfold endRefusal
  (try dsimp only)
  (repeat' split) <;> simp

/-- What `takeDispatch` leaves alone. -/
@[simp] theorem takeDispatch_frame (d : RunDir) (s : State) :
    (takeDispatch d s).power = s.power ∧ (takeDispatch d s).time = s.time ∧ (takeDispatch d s).loader = s.loader ∧
      (takeDispatch d s).peers = s.peers ∧ (takeDispatch d s).loop = s.loop ∧ (takeDispatch d s).trips = s.trips ∧
      (takeDispatch d s).port = s.port ∧ (takeDispatch d s).pending = s.pending := by
  unfold takeDispatch
  (try dsimp only)
  (repeat' split) <;> simp

/-- What `expireArming` leaves alone. -/
@[simp] theorem expireArming_frame (s : State) :
    (expireArming s).power = s.power ∧ (expireArming s).time = s.time ∧ (expireArming s).inputs = s.inputs ∧
      (expireArming s).loader = s.loader ∧ (expireArming s).peers = s.peers ∧ (expireArming s).loop = s.loop ∧
      (expireArming s).trips = s.trips ∧ (expireArming s).port = s.port ∧ (expireArming s).pending = s.pending := by
  unfold expireArming
  (repeat' split) <;> simp

/-- What `changeDoor` leaves alone. -/
@[simp] theorem changeDoor_frame (s : State) :
    (changeDoor s).power = s.power ∧ (changeDoor s).time = s.time ∧ (changeDoor s).loader = s.loader ∧
      (changeDoor s).peers = s.peers ∧ (changeDoor s).loop = s.loop ∧ (changeDoor s).trips = s.trips ∧
      (changeDoor s).port = s.port ∧ (changeDoor s).pending = s.pending := by
  unfold changeDoor
  (try dsimp only)
  (repeat' split) <;> simp

/-- What `changeGate` leaves alone. -/
@[simp] theorem changeGate_frame (s : State) :
    (changeGate s).power = s.power ∧ (changeGate s).time = s.time ∧ (changeGate s).loader = s.loader ∧
      (changeGate s).peers = s.peers ∧ (changeGate s).loop = s.loop ∧ (changeGate s).trips = s.trips ∧
      (changeGate s).port = s.port ∧ (changeGate s).pending = s.pending := by
  unfold changeGate
  (try dsimp only)
  (repeat' split) <;> simp

/-- What `holdLevel` leaves alone. -/
@[simp] theorem holdLevel_frame (d : Detector) (b : Bool) (s : State) :
    (holdLevel d b s).power = s.power ∧ (holdLevel d b s).time = s.time ∧ (holdLevel d b s).inputs = s.inputs ∧
      (holdLevel d b s).loader = s.loader ∧ (holdLevel d b s).access = s.access ∧ (holdLevel d b s).peers = s.peers ∧
      (holdLevel d b s).tracker = s.tracker ∧ (holdLevel d b s).envelope = s.envelope ∧
      (holdLevel d b s).ceiling = s.ceiling ∧ (holdLevel d b s).generator = s.generator ∧
      (holdLevel d b s).seq = s.seq ∧ (holdLevel d b s).brakes = s.brakes ∧ (holdLevel d b s).trips = s.trips ∧
      (holdLevel d b s).cls = s.cls ∧ (holdLevel d b s).port = s.port ∧ (holdLevel d b s).pending = s.pending := by
  unfold holdLevel
  (try dsimp only)
  simp

/-- What `riseEdge` leaves alone. -/
@[simp] theorem riseEdge_frame (d : Detector) (s : State) :
    (riseEdge d s).power = s.power ∧ (riseEdge d s).time = s.time ∧ (riseEdge d s).inputs = s.inputs ∧
      (riseEdge d s).loader = s.loader ∧ (riseEdge d s).peers = s.peers ∧ (riseEdge d s).port = s.port ∧
      (riseEdge d s).pending = s.pending := by
  unfold riseEdge
  (repeat' split) <;> simp

/-- What `fallEdge` leaves alone. -/
@[simp] theorem fallEdge_frame (d : Detector) (s : State) :
    (fallEdge d s).power = s.power ∧ (fallEdge d s).time = s.time ∧ (fallEdge d s).inputs = s.inputs ∧
      (fallEdge d s).loader = s.loader ∧ (fallEdge d s).peers = s.peers ∧ (fallEdge d s).port = s.port ∧
      (fallEdge d s).pending = s.pending := by
  unfold fallEdge
  (repeat' split) <;> simp

/-! ## Brake Controller -/

/-- What `becomeLifted` leaves alone. -/
@[simp] theorem becomeLifted_frame (b : BrakeId) (s : State) :
    (becomeLifted b s).power = s.power ∧ (becomeLifted b s).time = s.time ∧ (becomeLifted b s).inputs = s.inputs ∧
      (becomeLifted b s).loader = s.loader ∧ (becomeLifted b s).peers = s.peers ∧ (becomeLifted b s).loop = s.loop ∧
      (becomeLifted b s).trips = s.trips ∧ (becomeLifted b s).port = s.port ∧ (becomeLifted b s).pending = s.pending := by
  unfold becomeLifted
  (try dsimp only)
  simp

/-- What `liftByFeedback` leaves alone. -/
@[simp] theorem liftByFeedback_frame (b : BrakeId) (s : State) :
    (liftByFeedback b s).power = s.power ∧ (liftByFeedback b s).time = s.time ∧
      (liftByFeedback b s).inputs = s.inputs ∧ (liftByFeedback b s).loader = s.loader ∧
      (liftByFeedback b s).peers = s.peers ∧ (liftByFeedback b s).loop = s.loop ∧
      (liftByFeedback b s).trips = s.trips ∧ (liftByFeedback b s).port = s.port ∧
      (liftByFeedback b s).pending = s.pending := by
  unfold liftByFeedback
  (try dsimp only)
  (repeat' split) <;> simp

/-- What `liftByTime` leaves alone. -/
@[simp] theorem liftByTime_frame (b : BrakeId) (s : State) :
    (liftByTime b s).power = s.power ∧ (liftByTime b s).time = s.time ∧ (liftByTime b s).inputs = s.inputs ∧
      (liftByTime b s).loader = s.loader ∧ (liftByTime b s).peers = s.peers ∧ (liftByTime b s).loop = s.loop ∧
      (liftByTime b s).trips = s.trips ∧ (liftByTime b s).port = s.port ∧ (liftByTime b s).pending = s.pending := by
  unfold liftByTime
  (try dsimp only)
  (repeat' split) <;> simp

/-- What `barRelift` leaves alone. -/
@[simp] theorem barRelift_frame (b : BrakeId) (s : State) :
    (barRelift b s).power = s.power ∧ (barRelift b s).time = s.time ∧ (barRelift b s).inputs = s.inputs ∧
      (barRelift b s).loader = s.loader ∧ (barRelift b s).access = s.access ∧ (barRelift b s).peers = s.peers ∧
      (barRelift b s).tracker = s.tracker ∧ (barRelift b s).envelope = s.envelope ∧
      (barRelift b s).generator = s.generator ∧ (barRelift b s).seq = s.seq ∧ (barRelift b s).loop = s.loop ∧
      (barRelift b s).brakes = s.brakes ∧ (barRelift b s).trips = s.trips ∧ (barRelift b s).cls = s.cls ∧
      (barRelift b s).port = s.port ∧ (barRelift b s).pending = s.pending := by
  unfold barRelift
  (try dsimp only)
  (repeat' split) <;> simp

/-- What `timeOutLift` leaves alone. -/
@[simp] theorem timeOutLift_frame (b : BrakeId) (s : State) :
    (timeOutLift b s).power = s.power ∧ (timeOutLift b s).time = s.time ∧ (timeOutLift b s).inputs = s.inputs ∧
      (timeOutLift b s).loader = s.loader ∧ (timeOutLift b s).peers = s.peers ∧ (timeOutLift b s).loop = s.loop ∧
      (timeOutLift b s).trips = s.trips ∧ (timeOutLift b s).port = s.port ∧ (timeOutLift b s).pending = s.pending := by
  unfold timeOutLift
  (try dsimp only)
  (repeat' split) <;> simp

/-- What `clearReleaseLatch` leaves alone. -/
@[simp] theorem clearReleaseLatch_frame (b : BrakeId) (s : State) :
    (clearReleaseLatch b s).power = s.power ∧ (clearReleaseLatch b s).time = s.time ∧
      (clearReleaseLatch b s).inputs = s.inputs ∧ (clearReleaseLatch b s).loader = s.loader ∧
      (clearReleaseLatch b s).access = s.access ∧ (clearReleaseLatch b s).peers = s.peers ∧
      (clearReleaseLatch b s).tracker = s.tracker ∧ (clearReleaseLatch b s).envelope = s.envelope ∧
      (clearReleaseLatch b s).ceiling = s.ceiling ∧ (clearReleaseLatch b s).generator = s.generator ∧
      (clearReleaseLatch b s).seq = s.seq ∧ (clearReleaseLatch b s).loop = s.loop ∧
      (clearReleaseLatch b s).trips = s.trips ∧ (clearReleaseLatch b s).cls = s.cls ∧
      (clearReleaseLatch b s).port = s.port ∧ (clearReleaseLatch b s).pending = s.pending := by
  unfold clearReleaseLatch
  (try dsimp only)
  (repeat' split) <;> simp

/-- What `holdCheck` leaves alone. -/
@[simp] theorem holdCheck_frame (b : BrakeId) (s : State) :
    (holdCheck b s).power = s.power ∧ (holdCheck b s).time = s.time ∧ (holdCheck b s).inputs = s.inputs ∧
      (holdCheck b s).loader = s.loader ∧ (holdCheck b s).peers = s.peers ∧ (holdCheck b s).loop = s.loop ∧
      (holdCheck b s).port = s.port ∧ (holdCheck b s).pending = s.pending := by
  unfold holdCheck
  (try dsimp only)
  (repeat' split) <;> simp

/-- What `releaseCheck` leaves alone. -/
@[simp] theorem releaseCheck_frame (b : BrakeId) (s : State) :
    (releaseCheck b s).power = s.power ∧ (releaseCheck b s).time = s.time ∧ (releaseCheck b s).inputs = s.inputs ∧
      (releaseCheck b s).loader = s.loader ∧ (releaseCheck b s).peers = s.peers ∧ (releaseCheck b s).loop = s.loop ∧
      (releaseCheck b s).port = s.port ∧ (releaseCheck b s).pending = s.pending := by
  unfold releaseCheck
  (try dsimp only)
  (repeat' split) <;> simp

/-! ## Peer View -/

/-- What `putEntry` leaves alone. -/
@[simp] theorem putEntry_frame (e : Entry) (s : State) :
    (putEntry e s).power = s.power ∧ (putEntry e s).time = s.time ∧ (putEntry e s).inputs = s.inputs ∧
      (putEntry e s).loader = s.loader ∧ (putEntry e s).access = s.access ∧ (putEntry e s).tracker = s.tracker ∧
      (putEntry e s).envelope = s.envelope ∧ (putEntry e s).ceiling = s.ceiling ∧
      (putEntry e s).generator = s.generator ∧ (putEntry e s).seq = s.seq ∧ (putEntry e s).loop = s.loop ∧
      (putEntry e s).brakes = s.brakes ∧ (putEntry e s).trips = s.trips ∧ (putEntry e s).cls = s.cls ∧
      (putEntry e s).port = s.port ∧ (putEntry e s).pending = s.pending := by
  unfold putEntry
  (try dsimp only)
  simp

/-- What `ceilingSignal` leaves alone. -/
@[simp] theorem ceilingSignal_frame (b : Bool) (s : State) :
    (ceilingSignal b s).power = s.power ∧ (ceilingSignal b s).time = s.time ∧ (ceilingSignal b s).inputs = s.inputs ∧
      (ceilingSignal b s).loader = s.loader ∧ (ceilingSignal b s).access = s.access ∧
      (ceilingSignal b s).peers = s.peers ∧ (ceilingSignal b s).tracker = s.tracker ∧
      (ceilingSignal b s).envelope = s.envelope ∧ (ceilingSignal b s).seq = s.seq ∧
      (ceilingSignal b s).loop = s.loop ∧ (ceilingSignal b s).brakes = s.brakes ∧
      (ceilingSignal b s).trips = s.trips ∧ (ceilingSignal b s).cls = s.cls ∧ (ceilingSignal b s).port = s.port ∧
      (ceilingSignal b s).pending = s.pending := by
  unfold ceilingSignal
  (repeat' split) <;> simp

/-- What `classSignal` leaves alone. -/
@[simp] theorem classSignal_frame (s : State) :
    (classSignal s).power = s.power ∧ (classSignal s).time = s.time ∧ (classSignal s).inputs = s.inputs ∧
      (classSignal s).loader = s.loader ∧ (classSignal s).peers = s.peers ∧ (classSignal s).loop = s.loop ∧
      (classSignal s).trips = s.trips ∧ (classSignal s).port = s.port ∧ (classSignal s).pending = s.pending := by
  unfold classSignal
  (repeat' split) <;> simp

/-- What `changeSignal` leaves alone. -/
@[simp] theorem changeSignal_frame (e : Entry) (b : Bool) (s : State) :
    (changeSignal e b s).power = s.power ∧ (changeSignal e b s).time = s.time ∧
      (changeSignal e b s).inputs = s.inputs ∧ (changeSignal e b s).loader = s.loader ∧
      (changeSignal e b s).peers = s.peers ∧ (changeSignal e b s).loop = s.loop ∧
      (changeSignal e b s).port = s.port ∧ (changeSignal e b s).pending = s.pending := by
  unfold changeSignal
  simp

/-- What `honour` leaves alone. -/
@[simp] theorem honour_frame (s : State) :
    (honour s).power = s.power ∧ (honour s).time = s.time ∧ (honour s).inputs = s.inputs ∧
      (honour s).loader = s.loader ∧ (honour s).peers = s.peers ∧ (honour s).tracker = s.tracker ∧
      (honour s).envelope = s.envelope ∧ (honour s).ceiling = s.ceiling ∧ (honour s).generator = s.generator ∧
      (honour s).seq = s.seq ∧ (honour s).loop = s.loop ∧ (honour s).brakes = s.brakes ∧ (honour s).trips = s.trips ∧
      (honour s).cls = s.cls ∧ (honour s).port = s.port ∧ (honour s).pending = s.pending := by
  unfold honour
  (try dsimp only)
  (repeat' split) <;> simp

/-- What `ceilingBeacon` leaves alone. -/
@[simp] theorem ceilingBeacon_frame (v : Nat) (e : Entry) (r : BeaconRec) (s : State) :
    (ceilingBeacon v e r s).power = s.power ∧ (ceilingBeacon v e r s).time = s.time ∧
      (ceilingBeacon v e r s).inputs = s.inputs ∧ (ceilingBeacon v e r s).loader = s.loader ∧
      (ceilingBeacon v e r s).access = s.access ∧ (ceilingBeacon v e r s).peers = s.peers ∧
      (ceilingBeacon v e r s).tracker = s.tracker ∧ (ceilingBeacon v e r s).envelope = s.envelope ∧
      (ceilingBeacon v e r s).seq = s.seq ∧ (ceilingBeacon v e r s).loop = s.loop ∧
      (ceilingBeacon v e r s).brakes = s.brakes ∧ (ceilingBeacon v e r s).trips = s.trips ∧
      (ceilingBeacon v e r s).cls = s.cls ∧ (ceilingBeacon v e r s).port = s.port ∧
      (ceilingBeacon v e r s).pending = s.pending := by
  unfold ceilingBeacon
  (try dsimp only)
  (repeat' split) <;> simp

/-- What `acceptanceEvent` leaves alone. -/
@[simp] theorem acceptanceEvent_frame (v : Nat) (e : Entry) (r : BeaconRec) (s : State) :
    (acceptanceEvent v e r s).power = s.power ∧ (acceptanceEvent v e r s).time = s.time ∧
      (acceptanceEvent v e r s).inputs = s.inputs ∧ (acceptanceEvent v e r s).loader = s.loader ∧
      (acceptanceEvent v e r s).peers = s.peers ∧ (acceptanceEvent v e r s).loop = s.loop ∧
      (acceptanceEvent v e r s).port = s.port ∧ (acceptanceEvent v e r s).pending = s.pending := by
  unfold acceptanceEvent
  simp

/-- What `acceptBeacon` leaves alone. -/
@[simp] theorem acceptBeacon_frame (n : SeqNo) (r : BeaconRec) (e : Entry) (s : State) :
    (acceptBeacon n r e s).power = s.power ∧ (acceptBeacon n r e s).time = s.time ∧
      (acceptBeacon n r e s).inputs = s.inputs ∧ (acceptBeacon n r e s).loader = s.loader ∧
      (acceptBeacon n r e s).loop = s.loop ∧ (acceptBeacon n r e s).port = s.port ∧
      (acceptBeacon n r e s).pending = s.pending := by
  unfold acceptBeacon
  (try dsimp only)
  (repeat' split) <;> simp

/-- What `acceptAnnounce` leaves alone. -/
@[simp] theorem acceptAnnounce_frame (n : SeqNo) (a : AnnounceFrame) (p : Profile) (e : Entry) (s : State) :
    (acceptAnnounce n a p e s).power = s.power ∧ (acceptAnnounce n a p e s).time = s.time ∧
      (acceptAnnounce n a p e s).inputs = s.inputs ∧ (acceptAnnounce n a p e s).loader = s.loader ∧
      (acceptAnnounce n a p e s).loop = s.loop ∧ (acceptAnnounce n a p e s).port = s.port ∧
      (acceptAnnounce n a p e s).pending = s.pending := by
  unfold acceptAnnounce
  (try dsimp only)
  (repeat' split) <;> simp

/-- What `endFrame` leaves alone. -/
@[simp] theorem endFrame_frame (s : State) :
    (endFrame s).power = s.power ∧ (endFrame s).time = s.time ∧ (endFrame s).inputs = s.inputs ∧
      (endFrame s).loader = s.loader ∧ (endFrame s).peers = s.peers ∧ (endFrame s).tracker = s.tracker ∧
      (endFrame s).envelope = s.envelope ∧ (endFrame s).ceiling = s.ceiling ∧ (endFrame s).generator = s.generator ∧
      (endFrame s).seq = s.seq ∧ (endFrame s).loop = s.loop ∧ (endFrame s).brakes = s.brakes ∧
      (endFrame s).trips = s.trips ∧ (endFrame s).cls = s.cls ∧ (endFrame s).port = s.port ∧
      (endFrame s).pending = s.pending := by
  unfold endFrame
  (try dsimp only)
  simp

/-- What `takeOwnId` leaves alone. -/
@[simp] theorem takeOwnId_frame (f : RxFrame) (s : State) :
    (takeOwnId f s).power = s.power ∧ (takeOwnId f s).time = s.time ∧ (takeOwnId f s).inputs = s.inputs ∧
      (takeOwnId f s).loader = s.loader ∧ (takeOwnId f s).peers = s.peers ∧ (takeOwnId f s).loop = s.loop ∧
      (takeOwnId f s).port = s.port ∧ (takeOwnId f s).pending = s.pending := by
  unfold takeOwnId
  (repeat' split) <;> simp

/-- What `takeBeacon` leaves alone. -/
@[simp] theorem takeBeacon_frame (f : RxFrame) (p : Profile) (e : Entry) (s : State) :
    (takeBeacon f p e s).power = s.power ∧ (takeBeacon f p e s).time = s.time ∧
      (takeBeacon f p e s).inputs = s.inputs ∧ (takeBeacon f p e s).loader = s.loader ∧
      (takeBeacon f p e s).loop = s.loop ∧ (takeBeacon f p e s).port = s.port ∧
      (takeBeacon f p e s).pending = s.pending := by
  unfold takeBeacon
  (repeat' split) <;> simp

/-- What `takeAnnounce` leaves alone. -/
@[simp] theorem takeAnnounce_frame (f : RxFrame) (p : Profile) (e : Entry) (s : State) :
    (takeAnnounce f p e s).power = s.power ∧ (takeAnnounce f p e s).time = s.time ∧
      (takeAnnounce f p e s).inputs = s.inputs ∧ (takeAnnounce f p e s).loader = s.loader ∧
      (takeAnnounce f p e s).loop = s.loop ∧ (takeAnnounce f p e s).port = s.port ∧
      (takeAnnounce f p e s).pending = s.pending := by
  unfold takeAnnounce
  simp

/-- What `takeBadFrame` leaves alone. -/
@[simp] theorem takeBadFrame_frame (f : RxFrame) (s : State) :
    (takeBadFrame f s).power = s.power ∧ (takeBadFrame f s).time = s.time ∧ (takeBadFrame f s).inputs = s.inputs ∧
      (takeBadFrame f s).loader = s.loader ∧ (takeBadFrame f s).peers = s.peers ∧ (takeBadFrame f s).tracker = s.tracker ∧
      (takeBadFrame f s).envelope = s.envelope ∧ (takeBadFrame f s).ceiling = s.ceiling ∧
      (takeBadFrame f s).generator = s.generator ∧ (takeBadFrame f s).seq = s.seq ∧ (takeBadFrame f s).loop = s.loop ∧
      (takeBadFrame f s).brakes = s.brakes ∧ (takeBadFrame f s).trips = s.trips ∧ (takeBadFrame f s).cls = s.cls ∧
      (takeBadFrame f s).port = s.port ∧ (takeBadFrame f s).pending = s.pending := by
  unfold takeBadFrame
  (repeat' split) <;> simp

/-- What a received BEACON leaves alone. -/
@[simp] theorem receiveBeacon_frame (f : RxFrame) (s : State) :
    (receive .beacon takeBeacon f s).power = s.power ∧ (receive .beacon takeBeacon f s).time = s.time ∧
      (receive .beacon takeBeacon f s).inputs = s.inputs ∧ (receive .beacon takeBeacon f s).loader = s.loader ∧
      (receive .beacon takeBeacon f s).loop = s.loop ∧ (receive .beacon takeBeacon f s).port = s.port ∧
      (receive .beacon takeBeacon f s).pending = s.pending := by
  unfold receive judgeFrame
  (repeat' split) <;> simp

/-- What a received ANNOUNCE leaves alone. -/
@[simp] theorem receiveAnnounce_frame (f : RxFrame) (s : State) :
    (receive .announce takeAnnounce f s).power = s.power ∧ (receive .announce takeAnnounce f s).time = s.time ∧
      (receive .announce takeAnnounce f s).inputs = s.inputs ∧ (receive .announce takeAnnounce f s).loader = s.loader ∧
      (receive .announce takeAnnounce f s).loop = s.loop ∧ (receive .announce takeAnnounce f s).port = s.port ∧
      (receive .announce takeAnnounce f s).pending = s.pending := by
  unfold receive judgeFrame
  (repeat' split) <;> simp

/-- What `makeStale` leaves alone. -/
@[simp] theorem makeStale_frame (i : NodeId) (s : State) :
    (makeStale i s).power = s.power ∧ (makeStale i s).time = s.time ∧ (makeStale i s).inputs = s.inputs ∧
      (makeStale i s).loader = s.loader ∧ (makeStale i s).loop = s.loop ∧ (makeStale i s).port = s.port ∧
      (makeStale i s).pending = s.pending := by
  unfold makeStale
  (try dsimp only)
  (repeat' split) <;> simp

/-- What `makeLost` leaves alone. -/
@[simp] theorem makeLost_frame (i : NodeId) (s : State) :
    (makeLost i s).power = s.power ∧ (makeLost i s).time = s.time ∧ (makeLost i s).inputs = s.inputs ∧
      (makeLost i s).loader = s.loader ∧ (makeLost i s).loop = s.loop ∧ (makeLost i s).port = s.port ∧
      (makeLost i s).pending = s.pending := by
  unfold makeLost
  (try dsimp only)
  (repeat' split) <;> simp

/-! ## Line Access Unit -/

/-- What `takeDue` leaves alone. -/
@[simp] theorem takeDue_frame (s : State) :
    (takeDue s).power = s.power ∧ (takeDue s).time = s.time ∧ (takeDue s).inputs = s.inputs ∧
      (takeDue s).loader = s.loader ∧ (takeDue s).peers = s.peers ∧ (takeDue s).tracker = s.tracker ∧
      (takeDue s).envelope = s.envelope ∧ (takeDue s).ceiling = s.ceiling ∧ (takeDue s).generator = s.generator ∧
      (takeDue s).seq = s.seq ∧ (takeDue s).loop = s.loop ∧ (takeDue s).brakes = s.brakes ∧
      (takeDue s).trips = s.trips ∧ (takeDue s).cls = s.cls ∧ (takeDue s).port = s.port ∧
      (takeDue s).pending = s.pending := by
  unfold takeDue
  (try dsimp only)
  (repeat' split) <;> simp

/-- What `beginAttempt` leaves alone. -/
@[simp] theorem beginAttempt_frame (k : FrameKind) (s : State) :
    (beginAttempt k s).power = s.power ∧ (beginAttempt k s).time = s.time ∧ (beginAttempt k s).inputs = s.inputs ∧
      (beginAttempt k s).loader = s.loader ∧ (beginAttempt k s).peers = s.peers ∧
      (beginAttempt k s).tracker = s.tracker ∧ (beginAttempt k s).envelope = s.envelope ∧
      (beginAttempt k s).ceiling = s.ceiling ∧ (beginAttempt k s).generator = s.generator ∧
      (beginAttempt k s).seq = s.seq ∧ (beginAttempt k s).loop = s.loop ∧ (beginAttempt k s).brakes = s.brakes ∧
      (beginAttempt k s).trips = s.trips ∧ (beginAttempt k s).cls = s.cls ∧ (beginAttempt k s).port = s.port ∧
      (beginAttempt k s).pending = s.pending := by
  unfold beginAttempt
  (try dsimp only)
  (repeat' split) <;> simp

/-- What `startAttempt` leaves alone. -/
@[simp] theorem startAttempt_frame (s : State) :
    (startAttempt s).power = s.power ∧ (startAttempt s).time = s.time ∧ (startAttempt s).inputs = s.inputs ∧
      (startAttempt s).loader = s.loader ∧ (startAttempt s).peers = s.peers ∧ (startAttempt s).tracker = s.tracker ∧
      (startAttempt s).envelope = s.envelope ∧ (startAttempt s).ceiling = s.ceiling ∧
      (startAttempt s).generator = s.generator ∧ (startAttempt s).seq = s.seq ∧ (startAttempt s).loop = s.loop ∧
      (startAttempt s).brakes = s.brakes ∧ (startAttempt s).trips = s.trips ∧ (startAttempt s).cls = s.cls ∧
      (startAttempt s).port = s.port ∧ (startAttempt s).pending = s.pending := by
  unfold startAttempt
  (repeat' split) <;> simp

/-- What `repeatCommit` leaves alone. -/
@[simp] theorem repeatCommit_frame (s : State) :
    (repeatCommit s).power = s.power ∧ (repeatCommit s).time = s.time ∧ (repeatCommit s).inputs = s.inputs ∧
      (repeatCommit s).loader = s.loader ∧ (repeatCommit s).peers = s.peers ∧ (repeatCommit s).tracker = s.tracker ∧
      (repeatCommit s).envelope = s.envelope ∧ (repeatCommit s).ceiling = s.ceiling ∧
      (repeatCommit s).generator = s.generator ∧ (repeatCommit s).seq = s.seq ∧ (repeatCommit s).loop = s.loop ∧
      (repeatCommit s).brakes = s.brakes ∧ (repeatCommit s).trips = s.trips ∧ (repeatCommit s).cls = s.cls ∧
      (repeatCommit s).port = s.port ∧ (repeatCommit s).pending = s.pending := by
  unfold repeatCommit
  (repeat' split) <;> simp

/-- What `loseLine` leaves alone. -/
@[simp] theorem loseLine_frame (s : State) :
    (loseLine s).power = s.power ∧ (loseLine s).time = s.time ∧ (loseLine s).inputs = s.inputs ∧
      (loseLine s).loader = s.loader ∧ (loseLine s).peers = s.peers ∧ (loseLine s).tracker = s.tracker ∧
      (loseLine s).envelope = s.envelope ∧ (loseLine s).ceiling = s.ceiling ∧ (loseLine s).generator = s.generator ∧
      (loseLine s).seq = s.seq ∧ (loseLine s).loop = s.loop ∧ (loseLine s).brakes = s.brakes ∧
      (loseLine s).trips = s.trips ∧ (loseLine s).cls = s.cls ∧ (loseLine s).port = s.port ∧
      (loseLine s).pending = s.pending := by
  unfold loseLine
  (try dsimp only)
  (repeat' split) <;> simp

/-- What `countDown` leaves alone. -/
@[simp] theorem countDown_frame (l : List Byte) (s : State) :
    (countDown l s).power = s.power ∧ (countDown l s).time = s.time ∧ (countDown l s).inputs = s.inputs ∧
      (countDown l s).loader = s.loader ∧ (countDown l s).peers = s.peers ∧ (countDown l s).tracker = s.tracker ∧
      (countDown l s).envelope = s.envelope ∧ (countDown l s).ceiling = s.ceiling ∧
      (countDown l s).generator = s.generator ∧ (countDown l s).seq = s.seq ∧ (countDown l s).loop = s.loop ∧
      (countDown l s).brakes = s.brakes ∧ (countDown l s).trips = s.trips ∧ (countDown l s).port = s.port ∧
      (countDown l s).pending = s.pending := by
  unfold countDown
  (try dsimp only)
  (repeat' split) <;> simp

/-- What `clearOwed` leaves alone. -/
@[simp] theorem clearOwed_frame (s : State) :
    (clearOwed s).power = s.power ∧ (clearOwed s).time = s.time ∧ (clearOwed s).inputs = s.inputs ∧
      (clearOwed s).loader = s.loader ∧ (clearOwed s).access = s.access ∧ (clearOwed s).tracker = s.tracker ∧
      (clearOwed s).envelope = s.envelope ∧ (clearOwed s).ceiling = s.ceiling ∧
      (clearOwed s).generator = s.generator ∧ (clearOwed s).seq = s.seq ∧ (clearOwed s).loop = s.loop ∧
      (clearOwed s).brakes = s.brakes ∧ (clearOwed s).trips = s.trips ∧ (clearOwed s).cls = s.cls ∧
      (clearOwed s).port = s.port ∧ (clearOwed s).pending = s.pending := by
  unfold clearOwed
  (try dsimp only)
  simp

/-- What `completeAttempt` leaves alone. -/
@[simp] theorem completeAttempt_frame (s : State) :
    (completeAttempt s).power = s.power ∧ (completeAttempt s).time = s.time ∧ (completeAttempt s).inputs = s.inputs ∧
      (completeAttempt s).loader = s.loader ∧ (completeAttempt s).tracker = s.tracker ∧
      (completeAttempt s).envelope = s.envelope ∧ (completeAttempt s).ceiling = s.ceiling ∧
      (completeAttempt s).generator = s.generator ∧ (completeAttempt s).seq = s.seq ∧
      (completeAttempt s).loop = s.loop ∧ (completeAttempt s).brakes = s.brakes ∧
      (completeAttempt s).trips = s.trips ∧ (completeAttempt s).port = s.port ∧
      (completeAttempt s).pending = s.pending := by
  unfold completeAttempt
  (try dsimp only)
  (repeat' split) <;> simp

end Sys2Proof.Machine
end

