-- ==== Sys2Proof/Laws/State.lean ====
section
/-! SUPPORT. One lemma for each field that a named update of the state writes, true by unfolding and tagged for simp;
what the updates of the start and of the ticks leave alone. -/

namespace Sys2Proof.Machine

/-! ## Frames of the updates of the start and of the ticks -/

/-- What `endLoad` leaves alone. -/
@[simp] theorem endLoad_frame (o : LoadOutcome) (s : State) :
    (endLoad o s).power = s.power ∧ (endLoad o s).inputs = s.inputs ∧ (endLoad o s).access = s.access ∧
      (endLoad o s).peers = s.peers ∧ (endLoad o s).tracker = s.tracker ∧ (endLoad o s).envelope = s.envelope ∧
      (endLoad o s).ceiling = s.ceiling ∧ (endLoad o s).generator = s.generator ∧ (endLoad o s).seq = s.seq ∧
      (endLoad o s).loop = s.loop ∧ (endLoad o s).brakes = s.brakes ∧ (endLoad o s).trips = s.trips ∧
      (endLoad o s).cls = s.cls ∧ (endLoad o s).port = s.port ∧ (endLoad o s).pending = s.pending := by
  simp [endLoad]

/-- What `giveModes` leaves alone. -/
@[simp] theorem giveModes_frame (p : Profile) (s : State) :
    (giveModes p s).power = s.power ∧ (giveModes p s).time = s.time ∧ (giveModes p s).inputs = s.inputs ∧
      (giveModes p s).loader = s.loader ∧ (giveModes p s).access = s.access ∧ (giveModes p s).peers = s.peers ∧
      (giveModes p s).tracker = s.tracker ∧ (giveModes p s).envelope = s.envelope ∧
      (giveModes p s).ceiling = s.ceiling ∧ (giveModes p s).generator = s.generator ∧ (giveModes p s).seq = s.seq ∧
      (giveModes p s).loop = s.loop ∧ (giveModes p s).trips = s.trips ∧ (giveModes p s).cls = s.cls ∧
      (giveModes p s).port = s.port ∧ (giveModes p s).pending = s.pending := by
  simp [giveModes]

/-- What `takeInputs` leaves alone. -/
@[simp] theorem takeInputs_frame (s : State) :
    (takeInputs s).power = s.power ∧ (takeInputs s).time = s.time ∧ (takeInputs s).loader = s.loader ∧
      (takeInputs s).access = s.access ∧ (takeInputs s).peers = s.peers ∧ (takeInputs s).tracker = s.tracker ∧
      (takeInputs s).envelope = s.envelope ∧ (takeInputs s).ceiling = s.ceiling ∧
      (takeInputs s).generator = s.generator ∧ (takeInputs s).seq = s.seq ∧ (takeInputs s).loop = s.loop ∧
      (takeInputs s).brakes = s.brakes ∧ (takeInputs s).trips = s.trips ∧ (takeInputs s).cls = s.cls ∧
      (takeInputs s).port = s.port ∧ (takeInputs s).pending = s.pending := by
  simp [takeInputs]

/-- What `advance` leaves alone. -/
@[simp] theorem advance_frame (s : State) :
    (advance s).power = s.power ∧ (advance s).inputs = s.inputs ∧ (advance s).loader = s.loader ∧
      (advance s).access = s.access ∧ (advance s).peers = s.peers ∧ (advance s).tracker = s.tracker ∧
      (advance s).envelope = s.envelope ∧ (advance s).ceiling = s.ceiling ∧ (advance s).generator = s.generator ∧
      (advance s).seq = s.seq ∧ (advance s).loop = s.loop ∧ (advance s).brakes = s.brakes ∧
      (advance s).trips = s.trips ∧ (advance s).cls = s.cls ∧ (advance s).port = s.port ∧
      (advance s).pending = s.pending := by
  simp [advance]

/-- What `samplePins` leaves alone. -/
@[simp] theorem samplePins_frame (i : Pins) (s : State) :
    (samplePins i s).power = s.power ∧ (samplePins i s).time = s.time ∧ (samplePins i s).loader = s.loader ∧
      (samplePins i s).access = s.access ∧ (samplePins i s).peers = s.peers ∧ (samplePins i s).tracker = s.tracker ∧
      (samplePins i s).envelope = s.envelope ∧ (samplePins i s).ceiling = s.ceiling ∧
      (samplePins i s).generator = s.generator ∧ (samplePins i s).seq = s.seq ∧ (samplePins i s).loop = s.loop ∧
      (samplePins i s).brakes = s.brakes ∧ (samplePins i s).trips = s.trips ∧ (samplePins i s).cls = s.cls ∧
      (samplePins i s).port = s.port ∧ (samplePins i s).pending = s.pending := by
  simp [samplePins]

/-- What `sampleEstop` leaves alone. -/
@[simp] theorem sampleEstop_frame (i : Pins) (s : State) :
    (sampleEstop i s).power = s.power ∧ (sampleEstop i s).time = s.time ∧ (sampleEstop i s).loader = s.loader ∧
      (sampleEstop i s).access = s.access ∧ (sampleEstop i s).peers = s.peers ∧
      (sampleEstop i s).tracker = s.tracker ∧ (sampleEstop i s).envelope = s.envelope ∧
      (sampleEstop i s).ceiling = s.ceiling ∧ (sampleEstop i s).generator = s.generator ∧
      (sampleEstop i s).seq = s.seq ∧ (sampleEstop i s).loop = s.loop ∧ (sampleEstop i s).brakes = s.brakes ∧
      (sampleEstop i s).trips = s.trips ∧ (sampleEstop i s).cls = s.cls ∧ (sampleEstop i s).port = s.port ∧
      (sampleEstop i s).pending = s.pending := by
  simp [sampleEstop]

/-- What `passLine` leaves alone. -/
@[simp] theorem passLine_frame (n : Nat) (s : State) :
    (passLine n s).power = s.power ∧ (passLine n s).time = s.time ∧ (passLine n s).loader = s.loader ∧
      (passLine n s).peers = s.peers ∧ (passLine n s).tracker = s.tracker ∧ (passLine n s).envelope = s.envelope ∧
      (passLine n s).ceiling = s.ceiling ∧ (passLine n s).generator = s.generator ∧ (passLine n s).seq = s.seq ∧
      (passLine n s).loop = s.loop ∧ (passLine n s).brakes = s.brakes ∧ (passLine n s).trips = s.trips ∧
      (passLine n s).cls = s.cls ∧ (passLine n s).port = s.port ∧ (passLine n s).pending = s.pending := by
  simp [passLine]

/-- What `passLoader` leaves alone. -/
@[simp] theorem passLoader_frame (n : Nat) (s : State) :
    (passLoader n s).power = s.power ∧ (passLoader n s).time = s.time ∧ (passLoader n s).inputs = s.inputs ∧
      (passLoader n s).access = s.access ∧ (passLoader n s).peers = s.peers ∧ (passLoader n s).tracker = s.tracker ∧
      (passLoader n s).envelope = s.envelope ∧ (passLoader n s).ceiling = s.ceiling ∧
      (passLoader n s).generator = s.generator ∧ (passLoader n s).seq = s.seq ∧ (passLoader n s).loop = s.loop ∧
      (passLoader n s).brakes = s.brakes ∧ (passLoader n s).trips = s.trips ∧ (passLoader n s).cls = s.cls ∧
      (passLoader n s).port = s.port ∧ (passLoader n s).pending = s.pending := by
  unfold passLoader
  (repeat' split) <;> simp

/-- What `passTime` leaves alone. -/
@[simp] theorem passTime_frame (n : Nat) (s : State) :
    (passTime n s).power = s.power ∧ (passTime n s).time = s.time ∧ (passTime n s).peers = s.peers ∧
      (passTime n s).tracker = s.tracker ∧ (passTime n s).envelope = s.envelope ∧
      (passTime n s).ceiling = s.ceiling ∧ (passTime n s).seq = s.seq ∧ (passTime n s).loop = s.loop ∧
      (passTime n s).brakes = s.brakes ∧ (passTime n s).trips = s.trips ∧ (passTime n s).cls = s.cls ∧
      (passTime n s).port = s.port ∧ (passTime n s).pending = s.pending := by
  simp [passTime]

/-- What `endOctet` leaves alone. -/
@[simp] theorem endOctet_frame (o : Byte) (s : State) :
    (endOctet o s).power = s.power ∧ (endOctet o s).time = s.time ∧ (endOctet o s).inputs = s.inputs ∧
      (endOctet o s).loader = s.loader ∧ (endOctet o s).access = s.access ∧ (endOctet o s).peers = s.peers ∧
      (endOctet o s).tracker = s.tracker ∧ (endOctet o s).envelope = s.envelope ∧
      (endOctet o s).ceiling = s.ceiling ∧ (endOctet o s).generator = s.generator ∧ (endOctet o s).seq = s.seq ∧
      (endOctet o s).loop = s.loop ∧ (endOctet o s).brakes = s.brakes ∧ (endOctet o s).trips = s.trips ∧
      (endOctet o s).cls = s.cls := by
  unfold endOctet
  (repeat' split) <;> simp

/-- What `shiftBit` leaves alone. -/
@[simp] theorem shiftBit_frame (b : Bool) (s : State) :
    (shiftBit b s).power = s.power ∧ (shiftBit b s).time = s.time ∧ (shiftBit b s).inputs = s.inputs ∧
      (shiftBit b s).loader = s.loader ∧ (shiftBit b s).access = s.access ∧ (shiftBit b s).peers = s.peers ∧
      (shiftBit b s).tracker = s.tracker ∧ (shiftBit b s).envelope = s.envelope ∧
      (shiftBit b s).ceiling = s.ceiling ∧ (shiftBit b s).generator = s.generator ∧ (shiftBit b s).seq = s.seq ∧
      (shiftBit b s).loop = s.loop ∧ (shiftBit b s).brakes = s.brakes ∧ (shiftBit b s).trips = s.trips ∧
      (shiftBit b s).cls = s.cls := by
  unfold shiftBit
  (repeat' split) <;> simp

/-- What `clockPort` leaves alone. -/
@[simp] theorem clockPort_frame (s : State) :
    (clockPort s).power = s.power ∧ (clockPort s).time = s.time ∧ (clockPort s).loader = s.loader ∧
      (clockPort s).access = s.access ∧ (clockPort s).peers = s.peers ∧ (clockPort s).tracker = s.tracker ∧
      (clockPort s).envelope = s.envelope ∧ (clockPort s).ceiling = s.ceiling ∧
      (clockPort s).generator = s.generator ∧ (clockPort s).seq = s.seq ∧ (clockPort s).loop = s.loop ∧
      (clockPort s).brakes = s.brakes ∧ (clockPort s).trips = s.trips ∧ (clockPort s).cls = s.cls := by
  unfold clockPort
  (repeat' split) <;> simp

/-! ## Fields written -/

@[simp] theorem endFrame_sent (s : State) : (endFrame s).access.sent = [] := rfl
@[simp] theorem endFrame_idleCount (s : State) : (endFrame s).access.idleCount = s.access.idleCount := rfl
@[simp] theorem endFrame_rxBits (s : State) : (endFrame s).access.rxBits = s.access.rxBits := rfl
@[simp] theorem endFrame_txBits (s : State) : (endFrame s).access.txBits = s.access.txBits := rfl
@[simp] theorem endFrame_lost (s : State) : (endFrame s).access.lost = s.access.lost := rfl
@[simp] theorem endFrame_rxBuffer (s : State) : (endFrame s).access.rxBuffer = [] := rfl
@[simp] theorem endFrame_framing (s : State) : (endFrame s).access.rxFramingError = false := rfl
@[simp] theorem endFrame_overlong (s : State) : (endFrame s).access.rxOverlong = false := rfl
@[simp] theorem endFrame_tx (s : State) : (endFrame s).access.tx = s.access.tx := rfl
@[simp] theorem endFrame_inHand (s : State) : (endFrame s).access.inHand = s.access.inHand := rfl
@[simp] theorem endFrame_txFrame (s : State) : (endFrame s).access.txFrame = s.access.txFrame := rfl
@[simp] theorem endFrame_pendingBeacon (s : State) : (endFrame s).access.pendingBeacon = s.access.pendingBeacon := rfl
@[simp] theorem endFrame_pendingAnnounce (s : State) :
    (endFrame s).access.pendingAnnounce = s.access.pendingAnnounce := rfl
@[simp] theorem endFrame_ownSeq (s : State) : (endFrame s).access.ownSeq = s.access.ownSeq := rfl

@[simp] theorem putEntry_peers (e : Entry) (s : State) :
    (putEntry e s).peers = s.peers.map fun x => if x.id == e.id then e else x := rfl

@[simp] theorem refusePress_refusal (s : State) :
    (refusePress s).seq.refusal = some (after s.time.now Config.refusalMs) := rfl
@[simp] theorem refusePress_state (s : State) : (refusePress s).seq.state = s.seq.state := rfl
@[simp] theorem refusePress_run (s : State) : (refusePress s).seq.run = s.seq.run := rfl
@[simp] theorem refusePress_dir (s : State) : (refusePress s).seq.dir = s.seq.dir := rfl

@[simp] theorem takeRun_state (n : RunNo) (d : Direction) (k : Option (Fin 5)) (r q : Bool) (i : NodeId) (p : Profile) (s : State) :
    (takeRun n d k r q i p s).seq.state = s.seq.state := rfl
@[simp] theorem takeRun_run (n : RunNo) (d : Direction) (k : Option (Fin 5)) (r q : Bool) (i : NodeId) (p : Profile) (s : State) :
    (takeRun n d k r q i p s).seq.run = n := rfl
@[simp] theorem takeRun_dir (n : RunNo) (d : Direction) (k : Option (Fin 5)) (r q : Bool) (i : NodeId) (p : Profile) (s : State) :
    (takeRun n d k r q i p s).seq.dir = d := rfl
@[simp] theorem takeRun_leg (n : RunNo) (d : Direction) (k : Option (Fin 5)) (r q : Bool) (i : NodeId) (p : Profile) (s : State) :
    (takeRun n d k r q i p s).seq.leg = k := rfl
@[simp] theorem takeRun_recovery (n : RunNo) (d : Direction) (k : Option (Fin 5)) (r q : Bool) (i : NodeId) (p : Profile) (s : State) :
    (takeRun n d k r q i p s).seq.recovery = r := rfl
@[simp] theorem takeRun_dispatch (n : RunNo) (d : Direction) (k : Option (Fin 5)) (r q : Bool) (i : NodeId) (p : Profile) (s : State) :
    (takeRun n d k r q i p s).seq.dispatch = q := rfl
@[simp] theorem takeRun_consent (n : RunNo) (d : Direction) (k : Option (Fin 5)) (r q : Bool) (i : NodeId) (p : Profile) (s : State) :
    (takeRun n d k r q i p s).seq.consent = true := rfl
@[simp] theorem takeRun_source (n : RunNo) (d : Direction) (k : Option (Fin 5)) (r q : Bool) (i : NodeId) (p : Profile) (s : State) :
    (takeRun n d k r q i p s).seq.dispatchOrigin = some i := rfl
@[simp] theorem takeRun_deadline (n : RunNo) (d : Direction) (k : Option (Fin 5)) (r q : Bool) (i : NodeId) (p : Profile) (s : State) :
    (takeRun n d k r q i p s).seq.deadline = some (armingDeadline s p) := rfl
@[simp] theorem takeRun_origin (n : RunNo) (d : Direction) (k : Option (Fin 5)) (r q : Bool) (i : NodeId) (p : Profile) (s : State) :
    (takeRun n d k r q i p s).seq.origin = s.seq.origin := rfl

@[simp] theorem clearLiftFail_eb (s : State) :
    (clearLiftFail s).brakes.eb = { s.brakes.eb with liftFail := false } := rfl
@[simp] theorem clearLiftFail_sb (s : State) :
    (clearLiftFail s).brakes.sb = { s.brakes.sb with liftFail := false } := rfl
@[simp] theorem clearLiftFail_tb (s : State) :
    (clearLiftFail s).brakes.tb = { s.brakes.tb with liftFail := false } := rfl

@[simp] theorem withdrawMarkers_quality (s : State) : (withdrawMarkers s).tracker.quality = .none := rfl
@[simp] theorem withdrawMarkers_misses (s : State) : (withdrawMarkers s).tracker.misses = 0 := rfl
@[simp] theorem withdrawMarkers_nextExpected (s : State) : (withdrawMarkers s).tracker.nextExpected = none := rfl
@[simp] theorem withdrawMarkers_lastMatched (s : State) : (withdrawMarkers s).tracker.lastMatched = none := rfl
@[simp] theorem withdrawMarkers_counts (s : State) : (withdrawMarkers s).tracker.counts = s.tracker.counts := rfl

@[simp] theorem appendRecord_own (r : TripRecord) (s : State) : (appendRecord r s).trips.own = s.trips.own := rfl
@[simp] theorem appendRecord_primary (r : TripRecord) (s : State) :
    (appendRecord r s).trips.primary = s.trips.primary := rfl
@[simp] theorem appendRecord_origin (r : TripRecord) (s : State) :
    (appendRecord r s).trips.origin = s.trips.origin := rfl
@[simp] theorem appendRecord_estop (r : TripRecord) (s : State) : (appendRecord r s).trips.estop = s.trips.estop := rfl
@[simp] theorem appendRecord_nextSerial (r : TripRecord) (s : State) :
    (appendRecord r s).trips.nextSerial = nextSerialAfter s.trips.nextSerial := rfl

@[simp] theorem endLoad_outcome (o : LoadOutcome) (s : State) : (endLoad o s).loader.outcome = o := rfl
@[simp] theorem endLoad_stage (o : LoadOutcome) (s : State) : (endLoad o s).loader.stage = .ended := rfl
@[simp] theorem endLoad_store (o : LoadOutcome) (s : State) : (endLoad o s).loader.store = s.loader.store := rfl
@[simp] theorem endLoad_heldLength (o : LoadOutcome) (s : State) :
    (endLoad o s).loader.heldLength = s.loader.heldLength := rfl
@[simp] theorem endLoad_sampleDue (o : LoadOutcome) (s : State) : (endLoad o s).time.sampleDue = false := rfl
@[simp] theorem endLoad_now (o : LoadOutcome) (s : State) : (endLoad o s).time.now = s.time.now := rfl

@[simp] theorem advance_now (s : State) : (advance s).time.now = s.time.now + 1 := rfl
@[simp] theorem advance_micros (s : State) : (advance s).time.micros = 0 := rfl
@[simp] theorem advance_sampleDue (s : State) :
    (advance s).time.sampleDue = decide ((s.time.now + 1).toNat % 10 = 0) := rfl

@[simp] theorem samplePins_pins (i : Pins) (s : State) : (samplePins i s).inputs.pins = i := rfl
@[simp] theorem samplePins_previous (i : Pins) (s : State) : (samplePins i s).inputs.previous = s.inputs.pins := rfl

@[simp] theorem takeInputs_pins (s : State) : (takeInputs s).inputs.pins = s.inputs.pins := rfl
@[simp] theorem takeInputs_previous (s : State) : (takeInputs s).inputs.previous = s.inputs.pins := rfl
@[simp] theorem takeInputs_doorTaken (s : State) : (takeInputs s).inputs.doorTaken = s.inputs.pins.doorShut := rfl
@[simp] theorem takeInputs_gateTaken (s : State) : (takeInputs s).inputs.gateTaken = s.inputs.pins.gateShut := rfl

@[simp] theorem passMicros_current (n : Nat) (s : State) :
    (passMicros n s).generator.current = s.generator.current := rfl
@[simp] theorem passMicros_next (n : Nat) (s : State) : (passMicros n s).generator.next = s.generator.next := rfl
@[simp] theorem passMicros_phase (n : Nat) (s : State) : (passMicros n s).generator.phase = s.generator.phase := rfl

@[simp] theorem clearOwed_peers (s : State) :
    (clearOwed s).peers = s.peers.map fun e => { e with owed := false } := rfl

@[simp] theorem countStep_counts (d : Int) (s : State) :
    (countStep d s).tracker.counts = sat32 (s.tracker.counts + d) := rfl
@[simp] theorem countStep_delta (d : Int) (s : State) : (countStep d s).tracker.delta = s.tracker.delta := rfl
@[simp] theorem countStep_quality (d : Int) (s : State) : (countStep d s).tracker.quality = s.tracker.quality := rfl

@[simp] theorem holdLevel_loop (d : Detector) (b : Bool) (s : State) :
    (holdLevel d b s).loop = setDetector d { level := b, differing := 0 } s.loop := rfl

/-! ## Entries -/

/-- The Run Sequencer's part of an entry sets the state. -/
@[simp] theorem enterSequencer_state (n : NodeState) (s : State) : (enterSequencer n s).seq.state = n := by
  cases n <;> rfl

/-- The door's part of an entry keeps the state. -/
@[simp] theorem enterDoor_state (p n : NodeState) (s : State) : (enterDoor p n s).seq.state = s.seq.state := by
  unfold enterDoor
  (repeat' split) <;> rfl

/-- An entry ends in the state entered. -/
@[simp] theorem enterState_state (n : NodeState) (s : State) : (enterState n s).seq.state = n := by
  unfold enterState
  (try dsimp only)
  (repeat' split) <;> simp

/-- A drop leaves the unit APPLIED. -/
@[simp] theorem dropUnit_state (now : Time) (u : BrakeUnit) : (dropUnit now u).state = .applied := by
  unfold dropUnit
  split <;> simp_all

/-- A drop of every unit leaves every unit APPLIED. -/
theorem dropAll_applied (s : State) : allApplied (dropAll s).brakes = true := by
  simp [allApplied, dropAll, dropBrake, setUnit, brakeUnit]

end Sys2Proof.Machine
end

