-- ==== Sys2Proof/Laws/Store.lean ====
section
/-! SUPPORT. The image store: what a load reads back, and that every operation keeps the canonical form. -/

namespace Sys2Proof.Machine

/-- The octet a load leaves at an offset that it wrote. -/
theorem read_cellsFrom (l : List Byte) (a i : Nat) (h : a + i < Config.storeOctets) (hi : i < l.length)
    (m : List Host.Cell) (hm : ∀ c ∈ m, a + l.length ≤ c.1) :
    Store.read (Store.cellsFrom a l ++ m) (a + i) = l.getD i 0 := by
  induction l generalizing a i with
  | nil => simp at hi
  | cons b bs ih =>
    have absent : ∀ (k : List Host.Cell), (∀ c ∈ k, a < c.1) → Store.read k a = 0 := by
      intro k hk
      induction k with
      | nil => rfl
      | cons c k ihk =>
        obtain ⟨x, y⟩ := c
        have hx := hk (x, y) (by simp)
        have : x ≠ a := by simp at hx; omega
        simp only [Store.read, if_neg this]
        exact ihk fun c hc => hk c (by simp [hc])
    have above : ∀ (k : List Byte) (n : Nat), a < n → ∀ c ∈ Store.cellsFrom n k, a < c.1 := by
      intro k
      induction k with
      | nil => simp [Store.cellsFrom]
      | cons x xs ihx =>
        intro n hn c hc
        simp only [Store.cellsFrom] at hc
        split at hc
        · exact ihx (n + 1) (by omega) c hc
        · rcases List.mem_cons.1 hc with rfl | hc
          · exact hn
          · exact ihx (n + 1) (by omega) c hc
    have rest : Store.read (Store.cellsFrom (a + 1) bs ++ m) a = 0 := by
      refine absent _ fun c hc => ?_
      rcases List.mem_append.1 hc with hc | hc
      · exact above bs (a + 1) (by omega) c hc
      · have := hm c hc; simp at this; omega
    have hm' : ∀ c ∈ m, a + 1 + bs.length ≤ c.1 := fun c hc => by have := hm c hc; simp at this; omega
    cases i with
    | zero =>
      simp only [Nat.add_zero] at h ⊢
      simp only [Store.cellsFrom]
      split
      · next hb =>
        rcases hb with hb | hb
        · simp [rest, hb]
        · omega
      · simp [Store.read]
    | succ i =>
      have hi' : i < bs.length := by simpa using hi
      have e : a + (i + 1) = a + 1 + i := by omega
      have := ih (a + 1) i (by omega) hi' hm'
      simp only [Store.cellsFrom]
      split
      · rw [e, this]; simp
      · simp only [List.cons_append, Store.read]
        rw [if_neg (by omega), e, this]; simp

/-- Every offset of the canonical form lies above a bound that all of its cells pass. -/
theorem cellsFrom_wf (l : List Byte) (a : Nat) (m : List Host.Cell) (hm : Store.wf m = true)
    (hk : ∀ c ∈ m, a + l.length ≤ c.1) : Store.wf (Store.cellsFrom a l ++ m) = true := by
  induction l generalizing a with
  | nil => simpa [Store.cellsFrom] using hm
  | cons b bs ih =>
    have hk' : ∀ c ∈ m, a + 1 + bs.length ≤ c.1 := fun c hc => by have := hk c hc; simp at this; omega
    have above : ∀ (k : List Byte) (n : Nat), a < n → ∀ c ∈ Store.cellsFrom n k, a < c.1 := by
      intro k
      induction k with
      | nil => simp [Store.cellsFrom]
      | cons x xs ihx =>
        intro n hn c hc
        simp only [Store.cellsFrom] at hc
        split at hc
        · exact ihx (n + 1) (by omega) c hc
        · rcases List.mem_cons.1 hc with rfl | hc
          · exact hn
          · exact ihx (n + 1) (by omega) c hc
    simp only [Store.cellsFrom]
    split
    · exact ih (a + 1) hk'
    · next hb =>
      simp only [not_or, not_le] at hb
      simp only [List.cons_append, Store.wf, Bool.and_eq_true, decide_eq_true_eq, List.all_eq_true]
      refine ⟨⟨⟨hb.1, hb.2⟩, fun c hc => ?_⟩, ih (a + 1) hk'⟩
      rcases List.mem_append.1 hc with hc | hc
      · exact above bs (a + 1) (by omega) c hc
      · have := hk' c hc; omega

/-- A part of a canonical store that keeps some cells is canonical. -/
theorem filter_wf (q : Host.Cell → Bool) (m : List Host.Cell) (hm : Store.wf m = true) :
    Store.wf (m.filter q) = true := by
  induction m with
  | nil => simpa using hm
  | cons c m ih =>
    obtain ⟨k, v⟩ := c
    simp only [Store.wf, Bool.and_eq_true, decide_eq_true_eq, List.all_eq_true] at hm
    have rest := ih hm.2
    simp only [List.filter_cons]
    split
    · simp only [Store.wf, Bool.and_eq_true, decide_eq_true_eq, List.all_eq_true]
      exact ⟨⟨hm.1.1, fun c hc => hm.1.2 c (List.mem_filter.1 hc).1⟩, rest⟩
    · exact rest

/-- A load keeps the canonical form. -/
theorem load_wf (m : List Host.Cell) (l : List Byte) (hm : Store.wf m = true) : Store.wf (Store.load m l) = true := by
  refine cellsFrom_wf l 0 _ (filter_wf _ m hm) fun c hc => ?_
  have := (List.mem_filter.1 hc).2
  simp only [decide_eq_true_eq] at this
  omega

/-- A load is read back. -/
theorem read_load (m : List Host.Cell) (l : List Byte) (i : Nat) (hi : i < l.length) (h : i < Config.storeOctets) :
    Store.read (Store.load m l) i = l.getD i 0 := by
  have := read_cellsFrom l 0 i (by omega) hi (m.filter (fun c => decide (l.length ≤ c.1))) fun c hc => by
    have := (List.mem_filter.1 hc).2
    simp only [decide_eq_true_eq] at this
    omega
  simpa [Store.load] using this

/-- The store after reset is canonical. -/
theorem reset_wf : Store.wf State.reset.loader.store = true := rfl

end Sys2Proof.Machine
end

