-- ==== Sys2Proof/WellFormed.lean ====
section
/-! DEFINITION. Which terms of `Instr` are commands the part can be given: an image's remainder fits the store, and a
receive buffer holds no more than its 23 octets. -/

namespace Sys2Proof

/-- The image store holds 512 octets, of which the header has taken four (R7). -/
def imageFits (octets : List Byte) : Bool := decide (octets.length ≤ 508)

/-- The receive buffer holds at most 23 octets (R66). -/
def RxFrame.fits (f : RxFrame) : Bool := decide (f.octets.length ≤ 23)

/-- The operands are ones the part can meet. -/
def Instr.wellFormed : Instr → Bool
  | .profileReadDone octets _ => imageFits octets
  | .receiveBadFrame f => f.fits
  | .receiveBeacon f => f.fits
  | .receiveAnnounce f => f.fits
  | .powerOn _ => true
  | .supplyLow => true
  | .supplyRecover _ => true
  | .resetNAssert => true
  | .resetNRelease _ => true
  | .headerRead _ _ _ _ => true
  | .startingExit => true
  | .msTick _ => true
  | .sampleTick => true
  | .quadratureEdge _ _ => true
  | .markerRead _ => true
  | .weighingGateEnd => true
  | .estopAssert => true
  | .estopRelease => true
  | .ackPress => true
  | .dispatchPress _ => true
  | .standDownPress => true
  | .standUpPress => true
  | .doorContactChange => true
  | .gateContactChange => true
  | .detectorRise _ => true
  | .detectorFall _ => true
  | .feedbackLifted _ => true
  | .feedbackApplied _ => true
  | .fixedLiftDone _ => true
  | .liftTimeout _ => true
  | .holdCheck _ => true
  | .releaseCheck _ => true
  | .beaconDue => true
  | .attemptStart => true
  | .lineLost => true
  | .attemptComplete => true
  | .entryStale _ => true
  | .entryLost _ => true
  | .armingDeadline => true
  | .refusalWindowEnd => true
  | .downshift => true
  | .standDownDeadline => true
  | .alertPulseEnd => true
  | .ceilingApply => true
  | .highPhaseEnd => true
  | .periodEnd => true
  | .serviceSelect => true
  | .serviceDeselect _ => true
  | .status _ => true
  | .peer _ => true
  | .trip _ => true
  | .profile _ => true
  | .restart _ => true
  | .clearHistory _ => true
  | .unknown _ _ => true
  | .weighingPulseEdge => true

end Sys2Proof
end

