-- ==== Sys2Proof/Tests/Slice0.lean ====
section
/-! SUPPORT. Tests. First the smoke tests of `Instr.wellFormed`; then the worked examples that the manual prints, each with
the place it is printed at; then, for every statement with hypotheses, a named state and operands that meet them
(`witness_<statement>`). -/

namespace Sys2Proof.Tests

set_option Elab.async false

open Sys2Proof Sys2Proof.Machine

/-! ## WellFormed refuses what the part cannot meet -/

theorem test_wellFormed_refuses_long_image :
    Instr.wellFormed (.profileReadDone (List.replicate 509 0) none) = false := by decide +kernel

theorem test_wellFormed_refuses_long_bad_frame :
    Instr.wellFormed (.receiveBadFrame ⟨List.replicate 24 0, false, true⟩) = false := by decide +kernel

theorem test_wellFormed_refuses_long_beacon :
    Instr.wellFormed (.receiveBeacon ⟨List.replicate 24 0, false, false⟩) = false := by decide +kernel

theorem test_wellFormed_refuses_long_announce :
    Instr.wellFormed (.receiveAnnounce ⟨List.replicate 24 0, false, false⟩) = false := by decide +kernel

theorem test_wellFormed_admits_full_image :
    Instr.wellFormed (.profileReadDone (List.replicate 508 0) none) = true := by decide +kernel

/-! ## The service port's command octets (R191) -/

theorem test_octet_trip_2 : decodeService 0b01100010#8 = .trip 2 := by decide +kernel

theorem test_octet_profile_31 : decodeService 0b10011111#8 = .profile 31 := by decide +kernel

theorem test_octet_unknown_7 : decodeService 0b11100000#8 = .unknown true 0 := by decide +kernel

theorem test_octet_clear : encodeService (.clearHistory 0) = some 0xC0#8 := by decide +kernel

/-! ## A small line -/

/-- The profile of "Worked case: car A approaching the loop", 03_the_braking_envelope.md, with the comparison values of
"Worked comparison at the DRIVE" and the markers of "Worked sequence: markers on the upper slope",
02_position_and_speed.md. -/
def profile0 : Profile where
  revision := 7
  length := 140000
  vLineMax := 1000
  vCrawl := 100
  vCreep := 40
  vStaleCap := 500
  bRate := 120
  bFloor := 40
  dMargin := 300
  wStop := 15
  wMark := 60
  wDet := 400
  dAgree := 150
  sStretch := 40
  dStill := 50
  rRope := 180
  wMax := 8000
  tInt := 20
  tTrip := 60
  cpmSheave := 1000
  cpmOdo := 1000
  invertSheave := false
  invertOdoA := false
  invertOdoB := false
  loadOffset := 200
  loadScale := 5
  liftSB := .feedback
  liftEB := .feedback
  liftTB := .feedback
  tArm := 15
  tStill := 5
  tDeep := 1
  tSd := 30
  alert := .pulse
  nodes :=
    [⟨0, .drive, .a, true, false⟩, ⟨1, .loop, .a, false, false⟩, ⟨2, .car, .a, true, false⟩, ⟨3, .car, .b, true, false⟩,
      ⟨5, .terminal, .a, true, true⟩]
  segments := [⟨0, 400, 10⟩, ⟨2000, 1000, 12⟩, ⟨68000, 500, 12⟩, ⟨72000, 1000, 14⟩, ⟨137000, 400, 16⟩]
  stopsA := [⟨500, 0⟩, ⟨70400, 1⟩, ⟨139500, 0⟩]
  stopsB := [⟨500, 0⟩, ⟨69600, 1⟩, ⟨139500, 0⟩]
  markersA := [⟨9, 90000⟩, ⟨10, 95000⟩, ⟨11, 100000⟩, ⟨12, 105000⟩]
  markersB := [⟨20, 90000⟩, ⟨21, 95000⟩]
  detALow := 68400
  detAUp := 71600
  detBLow := 68400
  detBUp := 71600

/-- What a peer shows at rest in DWELL. -/
def shown0 : BeaconRec where
  state := .dwell
  cls := .still
  wake := false
  annReq := false
  run := 1
  dir := .none
  leg := none
  dispatch := false
  consent := false
  recovery := false
  sdCode := .none
  sdId := 15
  position := none
  quality := .none
  motion := .stopped
  occA := .clear
  occB := .clear
  speed := none
  vperm := 1000
  load := none
  cause := none
  overhaul := false
  atMark := false
  misaligned := false
  disagree := false
  doorsShut := true
  brakesLifted := false
  gateOpen := false
  commsStop := false
  origin := none

/-- A MATCHED entry, FRESH with age 10, last number 5. -/
def entry0 (id : NodeId) (role : Role) (side : Side) (r : BeaconRec) : Entry where
  id := id
  role := role
  side := side
  fresh := .fresh
  verif := .matched
  age := 10
  cls := some r.cls
  lastSeq := some 5
  beacon := some r
  announce := none
  owed := false

/-- The entries of the line's nodes but one, all showing the same. -/
def peers0 (own : NodeId) (r : BeaconRec) : List Entry :=
  [entry0 0 .drive .a r, entry0 1 .loop .a r, entry0 2 .car .a r, entry0 3 .car .b r, entry0 5 .terminal .a r].filter
    (fun e => e.id != own)

/-- A loaded node in a node state, at rest at the lower stop with quality MARKED, at node time 100,000. -/
def node0 (x : Straps) (st : NodeState) (r : BeaconRec) : State :=
  { State.reset with
    time.now := 100000
    time.sampleDue := true
    inputs.pins.doorShut := true
    inputs.pins.gateShut := true
    loader.straps := x
    loader.stage := .ended
    loader.outcome := .loaded
    loader.fingerprint := 0x1234
    loader.revision := 7
    loader.profile := some profile0
    peers := peers0 x.id r
    tracker.counts := 5000
    tracker.quality := .marked
    tracker.history := List.replicate 50 ⟨0, 0⟩
    envelope.bEff := some 101
    seq.state := st
    seq.run := 1 }

/-- The straps of the line's nodes. -/
def driveX : Straps := ⟨.drive, .a, 0⟩
def loopX : Straps := ⟨.loop, .a, 1⟩
def carX : Straps := ⟨.car, .a, 2⟩
def terminalX : Straps := ⟨.terminal, .a, 5⟩

def drive0 (st : NodeState) : State := node0 driveX st shown0
def loop0 (st : NodeState) : State := node0 loopX st shown0
def car0 (st : NodeState) : State := node0 carX st shown0
def terminal0 (st : NodeState) : State := node0 terminalX st shown0

/-- What a command leaves. -/
def next (c : Instr) (s : State) : State :=
  match exec c s with
  | .next t => t
  | .fault _ => s
  | .refused _ => s

/-! ## The manual's worked examples -/

/-- 01_the_track_profile.md, R7: the check value of the nine octets 123456789. -/
theorem test_crc_check_value :
    crc16 [0x31#8, 0x32#8, 0x33#8, 0x34#8, 0x35#8, 0x36#8, 0x37#8, 0x38#8, 0x39#8] = 0x29B1#16 := by decide +kernel

/-- 02_position_and_speed.md, R21: with CPM 1,000 counts of −250 give −25 cm, reported as 0. -/
theorem test_position_below_zero :
    positionCm { car0 .dwell with tracker.counts := -250 } profile0 = -25
      ∧ reported { car0 .dwell with tracker.counts := -250 } profile0 = 0 := by decide +kernel

/-- 02_position_and_speed.md, worked markers: code 10 read at present position 94,978 snaps to counts 950,000. -/
theorem test_marker_snaps :
    (next (.markerRead 10) { car0 .running with tracker.counts := 949780, tracker.quality := .reckoned }).tracker.counts
      = 950000 := by decide +kernel

/-- 02_position_and_speed.md, worked markers: code 27 is not in car A's table. -/
theorem test_marker_of_no_table :
    (next (.markerRead 27) { car0 .running with tracker.counts := 1014000 }).tracker.unexpected = true := by
  decide +kernel

/-- 02_position_and_speed.md, worked comparison: 72,105 cm of rope give the allowance 179. -/
theorem test_allowance : allowance profile0 67895 = 179 := by decide +kernel

/-- 02_position_and_speed.md, R36: 501 counts from the reference raise nothing. -/
theorem test_still_501 :
    (next .sampleTick { car0 .dwell with tracker.stillRef := some 4499 }).seq.state = .dwell := by decide +kernel

/-- 02_position_and_speed.md, R36: 510 counts from the reference raise UNCOMMANDED_MOTION. -/
theorem test_still_510 :
    (next .sampleTick { car0 .dwell with tracker.stillRef := some 4490 }).trips.primary = some .uncommandedMotion := by
  decide +kernel

/-- Car A's node in the worked case of 03_the_braking_envelope.md, RUNNING A_UP toward leg 1 at a position. -/
def approaching (position : Nat) (speed : Nat) : State :=
  { node0 carX .running
      { shown0 with state := .running, cls := .run, dir := .aUp, leg := some 1, load := some 6200 } with
    seq.dir := .aUp
    seq.leg := some 1
    tracker.counts := position * 10
    tracker.load := some 4800
    tracker.speed := speed
    tracker.history := List.replicate 50 ⟨1, speed⟩
    ceiling.limit := 1000 }

/-- 03_the_braking_envelope.md, the car A node at 67,900: b_eff 101, vperm 500. -/
theorem test_approach_67900 :
    (next .sampleTick (approaching 67900 500)).envelope.bEff = some 101
      ∧ (next .sampleTick (approaching 67900 500)).envelope.vperm = 500 := by decide +kernel

/-- 03_the_braking_envelope.md, the car A node at 69,900: b_eff 103, vperm 206. -/
theorem test_approach_69900 :
    (next .sampleTick (approaching 69900 200)).envelope.bEff = some 103
      ∧ (next .sampleTick (approaching 69900 200)).envelope.vperm = 206 := by decide +kernel

/-- 03_the_braking_envelope.md, the last metres: at 70,386, 14 cm short, the node judges AT_MARK and enters STOPPING. -/
theorem test_arrival_70386 : (next .sampleTick (approaching 70386 38)).seq.state = .stopping := by decide +kernel

/-- 03_the_braking_envelope.md, the last metres: at 70,416 the distance is −16, and OVERRUN is raised. -/
theorem test_overrun_70416 : (next .sampleTick (approaching 70416 38)).trips.primary = some .overrun := by decide +kernel

/-- 06_the_line_ceiling_and_speed_supervision.md, worked comms stop: 500 − floor(101 × 1,554 / 1,000) = 344. -/
theorem test_ramp_344 : rampValue 2402100 ⟨500, 101, 2400546⟩ = 344 := by decide +kernel

/-- 06_the_line_ceiling_and_speed_supervision.md, the output: ceiling 667 with the period 200 waits as period 150. -/
theorem test_output_pending :
    (next .ceilingApply
      { drive0 .running with
        ceiling.line := 667
        generator := ⟨some 200, none, .low, 50⟩ }).generator = ⟨some 200, some 150, .low, 50⟩ := by decide +kernel

/-- 06_the_line_ceiling_and_speed_supervision.md, the output: ceiling 206 applies at once, with the period 486. -/
theorem test_output_at_once :
    (next .ceilingApply
      { drive0 .running with
        ceiling.line := 206
        generator := ⟨some 150, none, .low, 35⟩ }).generator = ⟨some 486, none, .high, 0⟩ := by decide +kernel

/-- 07_runs_dispatch_consent_and_dwell.md, R124: own 65,534, peers 65,535, 65,534 and 3 give the new number 4. -/
theorem test_run_number :
    newRunNumber
      { car0 .dwell with
        seq.run := 65534
        peers :=
          [entry0 0 .drive .a { shown0 with run := 65535 }, entry0 1 .loop .a { shown0 with run := 65534 },
            entry0 3 .car .b { shown0 with run := 3 }] } = 4 := by decide +kernel

/-- 05_the_peer_view.md, R86: 43 after 41 is newer and accepted; 41 again is a duplicate. -/
theorem test_sequence_jump :
    sequenceAccepts { entry0 2 .car .a shown0 with lastSeq := some 41 } 43 = true
      ∧ sequenceAccepts { entry0 2 .car .a shown0 with lastSeq := some 41 } 41 = false := by decide +kernel

/-- A line access unit at rest that has seen 40 idle bit times. -/
def idleUnit : LineAccess := { (car0 .dwell).access with idleCount := 40 }

/-- 04_line_access_and_framing.md, R65 and R66: the ten bit times of 0x16, least significant bit first between a DOMINANT
start bit and a RECESSIVE stop bit, give the octet 0x16. -/
theorem test_octet_gathered :
    (bitTimes 30 10
      [.dominant, .dominant, .recessive, .recessive, .dominant, .recessive, .dominant, .dominant, .dominant, .recessive]
      idleUnit).rxBuffer = [0x16#8] := by decide +kernel

/-- 04_line_access_and_framing.md, R66: a stop bit that shows DOMINANT is a framing error. -/
theorem test_framing_error :
    (bitTimes 30 10 (List.replicate 10 .dominant) idleUnit).rxFramingError = true := by decide +kernel

/-- 04_line_access_and_framing.md, R71: node id 2 defers 54 bit times. -/
theorem test_deferral_gap :
    deferralGap 2 = 54
      ∧ (bitTimes 54 13 [] { idleUnit with tx := .deferring }).gapReached = false
      ∧ (bitTimes 54 14 [] { idleUnit with tx := .deferring }).gapReached = true := by decide +kernel

/-- 11_service_port.md, R190 and R191: the octet 0x62, clocked in bit by bit, asks for TRIP 2. -/
theorem test_command_octet :
    ([false, true, true, false, false, false, true, false].foldl (fun s b => shiftBit b s)
      { car0 .dwell with port := ⟨true, .command, [], [], 0, false⟩ }).pending = [.trip 2] := by decide +kernel

/-- 01_the_track_profile.md, R6: the read begins with the octet 0x03 and the offset 0, most significant bit first. -/
theorem test_read_instruction :
    (List.range 25).map (fun n => memoryOut { State.reset with loader.bits := n })
      = List.replicate 6 (some false) ++ [some true, some true] ++ List.replicate 16 (some false) ++ [none] := by
  decide +kernel

/-! ## Witnesses: the hypotheses of the statements are met -/

theorem witness_StepTakesTheFrontCommand :
    ({ car0 .dwell with pending := [.sampleTick] } : State).pending = .sampleTick :: [] := by decide +kernel

/-- The last data bit of a command octet waits at a selected port, at the microsecond that ends a bit time. -/
def clocking : State :=
  { car0 .dwell with
    time.micros := 7
    inputs.line := [.dominant]
    inputs.service := [false]
    port := ⟨true, .command, [false, true, true, false, false, false, true], [], 0, false⟩ }

theorem witness_EmptyQueueCountsAMicrosecond :
    clocking.pending = [] ∧ held clocking = false ∧ clocking.time.micros < 999 ∧ (clocking.time.micros + 1) % 8 = 0
      ∧ clocking.port.selected = true ∧ clocking.inputs.service.head? = some false
      ∧ clocking.port.shift.length = 7 ∧ clocking.port.state = .command
      ∧ (car0 .dwell).inputs.service = [] ∧ (car0 .dwell).time.micros < 999
      ∧ held { car0 .dwell with power.hold := some .warmLine } = true
      ∧ coldHold { car0 .dwell with power.hold := some .warmLine } = false
      ∧ coldHold { car0 .dwell with power.hold := some .coldSupply } = true
      ∧ 999 ≤ ({ car0 .dwell with time.micros := 999 } : State).time.micros := by decide +kernel

theorem witness_HoldKeepsThePart :
    held { car0 .dwell with power.hold := some .warmLine } = true ∧ forBlocks .sampleTick = true
      ∧ ({ car0 .dwell with power := ⟨true, true, some .coldSupply⟩ } : State).power.resetLow = true
      ∧ ({ car0 .dwell with power := ⟨true, true, some .coldSupply⟩ } : State).power.supplyLow = true := by
  decide +kernel

theorem witness_ColdStartBeginsAfresh :
    (car0 .dwell).power.resetLow = false
      ∧ ({ car0 .dwell with power := ⟨true, false, some .coldSupply⟩ } : State).power.supplyLow = true
      ∧ ({ car0 .dwell with power := ⟨false, true, some .coldSupply⟩ } : State).power.hold = some .coldSupply := by
  decide +kernel

/-- A part held by RESET_N alone, and one whose RESTART has been accepted. -/
def resetHeld : State := { car0 .dwell with power := ⟨false, true, some .warmLine⟩ }
def restartTaken : State := { car0 .dwell with port := ⟨true, .answer, [], [], 0, true⟩ }

theorem witness_WarmStartRetains :
    (resetHeld.power.resetLow = true ∧ resetHeld.power.supplyLow = false ∧ resetHeld.power.hold = some .warmLine)
      ∧ held restartTaken = false ∧ restartTaken.port.selected = true ∧ restartTaken.port.restart = true := by
  decide +kernel

theorem witness_HeaderIsHeldAndJudged :
    held State.reset = false ∧ State.reset.seq.state = .starting ∧ State.reset.loader.stage = .header
      ∧ State.reset.loader.bits < 24 ∧ 24 ≤ ({ State.reset with loader.bits := 24 } : State).loader.bits := by
  decide +kernel

/-- An image with four nodes, one segment, two stops and one marker for each car: the smallest the layout allows, 106
octets, without its check sequence. -/
def imageBody : List Byte :=
  [0x2C#8, 1#8] ++ be16 106 ++ be24 140000 ++ be16 1000 ++ be16 100 ++ [octet 40] ++ be16 500 ++ [octet 120, octet 40]
    ++ be16 300 ++ [octet 15, octet 60] ++ be16 400 ++ be16 150 ++ [octet 40, octet 50] ++ be16 180 ++ be16 8000
    ++ [octet 20, octet 60] ++ be16 1000 ++ be16 1000 ++ [octet 0] ++ be16 200
    ++ [octet 5, octet 0, octet 0, octet 0, octet 15, octet 5, octet 1, octet 30, octet 0]
    ++ [octet 4, octet 0, octet 0, octet 1, octet 2, octet 2, octet 1, octet 3, octet 5]
    ++ [octet 1] ++ be24 0 ++ be16 1000 ++ [octet 10]
    ++ [octet 2] ++ be24 500 ++ [octet 1] ++ be24 139500 ++ [octet 0]
    ++ [octet 2] ++ be24 500 ++ [octet 0] ++ be24 139500 ++ [octet 1]
    ++ [octet 1, octet 0] ++ be24 500 ++ [octet 1, octet 1] ++ be24 500
    ++ be24 68400 ++ be24 71600 ++ be24 68400 ++ be24 71600

/-- The image with its check sequence. -/
def image0 : List Byte := withCheck imageBody

/-- A node that has read the header of an image of 106 octets. -/
def headerHeld (x : Straps) (head : List Byte) : State :=
  { State.reset with
    loader.straps := x
    loader.stage := .body
    loader.imageLength := 106
    loader.heldLength := 4
    loader.store := Store.load [] head }

theorem test_image_length : image0.length = 106 ∧ Store.take (headerHeld carX (image0.take 4)).loader.store 4
    = image0.take 4 := by decide +kernel

set_option maxRecDepth 200000 in
theorem witness_GoodImageIsHandedOff :
    ∃ p, held (headerHeld carX (image0.take 4)) = false
      ∧ (headerHeld carX (image0.take 4)).seq.state = .starting
      ∧ (headerHeld carX (image0.take 4)).loader.stage = .body
      ∧ (headerHeld carX (image0.take 4)).loader.imageLength = (image0.drop 4).length + 4
      ∧ (headerHeld carX (image0.take 4)).loader.imageLength ≤ 512
      ∧ imageChecks (Store.take (headerHeld carX (image0.take 4)).loader.store 4 ++ image0.drop 4) = true
      ∧ validProfile (Store.take (headerHeld carX (image0.take 4)).loader.store 4 ++ image0.drop 4) = some p
      ∧ (ownEntry p (headerHeld carX (image0.take 4)).loader.straps).isSome = true := by
  have h : (validProfile (Store.take (headerHeld carX (image0.take 4)).loader.store 4 ++ image0.drop 4)).any
      (fun p => (ownEntry p (headerHeld carX (image0.take 4)).loader.straps).isSome) = true := by decide +kernel
  obtain ⟨p, hp, ho⟩ := (Option.any_eq_true _ _).mp h
  exact ⟨p, by decide +kernel, by decide +kernel, by decide +kernel, by decide +kernel, by decide +kernel,
    by decide +kernel, hp, ho⟩

set_option maxRecDepth 200000 in
/-- Three images that fail: a check octet changed, content out of range (revision 0), and straps of an id not listed. -/
theorem witness_BadImageEndsTheLoad :
    imageChecks (Store.take (headerHeld carX (image0.take 4)).loader.store 4 ++ (image0.drop 4).set 101 0) = false
      ∧ imageChecks (withCheck (imageBody.set 1 0)) = true ∧ validProfile (withCheck (imageBody.set 1 0)) = none
      ∧ (validProfile image0).any (fun p => (ownEntry p terminalX).isNone) = true
      ∧ Store.take (headerHeld terminalX (image0.take 4)).loader.store 4 ++ image0.drop 4 = image0 := by decide +kernel

theorem witness_PeerTableFollowsTheList :
    nodesHold profile0 = true ∧ profile0.nodes.any (fun n => n.id == (2 : NodeId).val) = true := by decide +kernel

/-- A loaded node about to leave STARTING, its sample history empty. -/
def leaving (x : Straps) : State := { node0 x .starting shown0 with tracker.history := [] }

theorem witness_LoadedNodeLeavesStarting :
    held (leaving carX) = false ∧ (leaving carX).seq.state = .starting ∧ (leaving carX).time.sampleDue = true
      ∧ (leaving carX).loader.stage = .ended ∧ (leaving carX).loader.profile = some profile0
      ∧ standstill (leaving carX) = false ∧ hasEncoder (leaving carX) = true ∧ isTerminal (leaving terminalX) = true
      ∧ isLoop (leaving loopX) = true ∧ (leaving carX).trips.estop = false
      ∧ (leaving carX).inputs.pins.estop = false := by decide +kernel

/-- Car A's node about to leave STARTING at a number of counts, its lowest stop at the lower end of the track. -/
def leavingAt (counts : Int) : State :=
  { leaving carX with
    loader.profile := some { profile0 with stopsA := [⟨0, 0⟩, ⟨70400, 1⟩, ⟨139500, 0⟩] }
    tracker.counts := counts }

/-- 01_the_track_profile.md, R15: 15 cm below the lower end, W_stop from the stop there, the node enters DWELL; one cm further
it enters HOLD. -/
theorem test_exit_below_the_track :
    (next .startingExit (leavingAt (-150))).seq.state = .dwell
      ∧ (next .startingExit (leavingAt (-151))).seq.state = .hold := by decide +kernel

/-- The LOOP about to leave STARTING, no peer heard and both tracks as the start left them, with track A's detectors. -/
def leavingLoop (low up : Bool) : State :=
  { leaving loopX with
    peers := buildPeers profile0 1
    inputs.pins.aLow := low
    inputs.pins.aUp := up }

/-- No detector of track A active, one of them, and both. -/
theorem witness_LoadedNodeLeavesStarting_loop :
    (held (leavingLoop true false) = false ∧ isLoop (leavingLoop true false) = true
      ∧ (leavingLoop true false).loop = State.reset.loop
      ∧ (leavingLoop true false).peers.all (fun e => e.fresh == .empty) = true
      ∧ (leavingLoop true false).loader.profile = some profile0 ∧ standstill (leavingLoop true false) = false)
      ∧ (next .startingExit (leavingLoop false false)).loop.trackA.occ = .clear
      ∧ (next .startingExit (leavingLoop true false)).loop.trackA.last = some .low
      ∧ (next .startingExit (leavingLoop true false)).seq.state = .dwell
      ∧ (next .startingExit (leavingLoop true true)).trips.own = [.loopSequence] := by decide +kernel

/-- A node whose load ended with PROFILE_CHECK. -/
def unloaded : State := { leaving carX with loader.profile := none, loader.outcome := .profileCheck }

theorem witness_FailedLoadFaults :
    held unloaded = false ∧ unloaded.seq.state = .starting ∧ unloaded.time.sampleDue = true
      ∧ unloaded.loader.stage = .ended ∧ unloaded.loader.profile = none
      ∧ unloaded.loader.outcome = .profileCheck := by decide +kernel

/-- A car one millisecond before a multiple of 100 ms, its TB lifted and showing applied, and the LOOP with a detector whose
input has differed twice. -/
def beforeGate (running : Bool) : State :=
  { car0 .running with
    time.now := 99999
    tracker.gateRunning := running
    brakes.tb := { BrakeUnit.start 0 with state := .lifted, mode := some .feedback } }

def differing : State := { loop0 .dwell with loop.aLow := ⟨false, 2⟩ }

theorem witness_MillisecondTickAdvances :
    held (beforeGate true) = false ∧ isCar (beforeGate true) = true ∧ inService (beforeGate true) = true
      ∧ (next (.msTick (beforeGate true).inputs.pins) (beforeGate true)).tracker.gateDue = true
      ∧ (next (.msTick (beforeGate true).inputs.pins) (beforeGate false)).tracker.gateRunning = true
      ∧ (next (.msTick (beforeGate true).inputs.pins) (beforeGate true)).brakes.tb.appliedSince = some 100000
      ∧ (next (.msTick { differing.inputs.pins with aLow := true }) differing).loop.aLow.differing = 3
      ∧ (next (.msTick differing.inputs.pins) differing).loop.aLow.differing = 0 := by decide +kernel

theorem witness_EncoderTakesItsCounts :
    held (car0 .dwell) = false ∧ hasEncoder (car0 .dwell) = true ∧ (car0 .dwell).seq.state ≠ .starting
      ∧ (car0 .dwell).time.sampleDue = true ∧ (car0 .dwell).loader.profile = some profile0
      ∧ hasEncoder (drive0 .running) = true ∧ located (drive0 .running) = true
      ∧ max (-2047) (min 2047 (invertedDelta { car0 .dwell with tracker.delta := 2048 } profile0)) = 2047 := by
  decide +kernel

theorem witness_SampleTickFormsEnvelopeAndCeiling :
    held (drive0 .running) = false ∧ inService (drive0 .running) = true ∧ (drive0 .running).time.sampleDue = true
      ∧ (drive0 .running).loader.profile = some profile0 ∧ profile0.bFloor ≤ profile0.bRate
      ∧ originGated (drive0 .running) = true := by decide +kernel

/-- A car 16 cm short of its mark goes on, 15 cm short it is at it; 15 cm past it is no overrun, 16 cm past it is one. -/
theorem witness_SampleTickFormsEnvelopeAndCeiling_arrival :
    hasEncoder (approaching 70384 40) = true ∧ moving (approaching 70384 40) = true
      ∧ (next .sampleTick (approaching 70384 40)).seq.state = .running
      ∧ (aim (next .sampleTick (approaching 70384 40)) profile0 .a).isSome = true
      ∧ (next .sampleTick (approaching 70385 40)).seq.state = .stopping
      ∧ (next .sampleTick (approaching 70385 40)).envelope.distA = some 15
      ∧ (next .sampleTick (approaching 70415 40)).seq.state = .stopping
      ∧ (next .sampleTick (approaching 70416 40)).trips.primary = some .overrun
      ∧ judgedDistances (next .sampleTick (approaching 70416 40)) = [-16] := by decide +kernel

/-- The TERMINAL in RUNNING with its gate shut or open. -/
def gated (shut : Bool) : State :=
  { node0 terminalX .running { shown0 with state := .running } with inputs.pins.gateShut := shut }

theorem witness_SampleTickFormsEnvelopeAndCeiling_gate :
    originGated (gated true) = true ∧ isTerminal (gated true) = true
      ∧ (next .sampleTick (gated false)).seq.state = .running
      ∧ (next .sampleTick (gated false)).envelope.vperm = 0
      ∧ (next .sampleTick (gated true)).envelope.vperm = 1000 := by decide +kernel

/-- The LOOP in HOLD with a distance held for each car, car A's position usable and car B's not. -/
def loopHolding : State :=
  { loop0 .hold with
    peers :=
      [entry0 2 .car .a { shown0 with position := some 70400, quality := .marked }, entry0 3 .car .b shown0]
    envelope.choiceA := .leg
    envelope.choiceB := .leg
    envelope.distA := some 9
    envelope.distB := some 9 }

/-- 08_passing_loop_supervision.md, R155: the distance is absent while the position is not usable. -/
theorem witness_SampleTickFormsEnvelopeAndCeiling_distance :
    inService loopHolding = true ∧ isLoop loopHolding = true ∧ inRun loopHolding = false
      ∧ (next .sampleTick loopHolding).envelope.distA = some 9
      ∧ (next .sampleTick loopHolding).envelope.distB = none
      ∧ (next .sampleTick { loopHolding with envelope.choiceA := .undecided }).envelope.distA = none := by
  decide +kernel

/-- A car running, and one stopping, with its door open; a LOOP whose comms stop is complete; a DRIVE stopped. -/
def doorOpen (st : NodeState) : State := { car0 st with inputs.pins.doorShut := false }

def commsEnded : State := { loop0 .running with ceiling.comms := some ⟨500, 101, 90000⟩ }

theorem witness_SampleTickEndsTheRun :
    (held (doorOpen .running) = false ∧ isCar (doorOpen .running) = true ∧ moving (doorOpen .running) = true
      ∧ (doorOpen .running).time.sampleDue = true ∧ (doorOpen .running).loader.profile = some profile0)
      ∧ (next .sampleTick (doorOpen .stopping)).seq.state = .tripped
      ∧ moving commsEnded = true ∧ (next .sampleTick commsEnded).seq.state = .dwell
      ∧ moving (drive0 .stopping) = true ∧ (next .sampleTick (drive0 .stopping)).seq.state = .dwell
      ∧ (next .sampleTick (node0 loopX .running { shown0 with state := .running, motion := .up })).seq.state
          = .running := by
  decide +kernel

/-- Car A's node in STOPPING at rest below the loop stop at 70,400, all other nodes in DWELL, the LOOP showing an occupancy. -/
def arriving (position : Nat) (occ : Occupancy) : State :=
  { node0 carX .stopping { shown0 with occA := occ } with
    seq.dir := .aUp
    seq.leg := some 1
    tracker.counts := position * 10 }

/-- 07_runs_dispatch_consent_and_dwell.md, the worked sequence: at 70,391 the distance is 9 and MISALIGNED is clear; the loop
stop is released once the LOOP shows OCCUPIED. 16 cm short, MISALIGNED is set. -/
theorem witness_SampleTickEndsTheRun_door :
    (moving (arriving 70391 .occupied) = true ∧ held (arriving 70391 .occupied) = false)
      ∧ (next .sampleTick (arriving 70391 .occupied)).seq.state = .dwell
      ∧ (next .sampleTick (arriving 70391 .occupied)).envelope.distA = some 9
      ∧ (next .sampleTick (arriving 70391 .occupied)).seq.doorRelease = true
      ∧ (next .sampleTick (arriving 70391 .entering)).seq.misaligned = false
      ∧ (next .sampleTick (arriving 70391 .entering)).seq.doorRelease = false
      ∧ (next .sampleTick (arriving 70384 .occupied)).seq.misaligned = true
      ∧ (next .sampleTick (arriving 70384 .occupied)).seq.doorRelease = false := by decide +kernel

/-- Car A running up past its marker 9 at 90,000, or with none expected yet. -/
def passing (counts : Int) (misses : Nat) (m : Option (Marker × Travel)) : State :=
  { node0 carX .running { shown0 with state := .running, dir := .aUp, leg := some 2 } with
    tracker.counts := counts
    tracker.misses := misses
    tracker.nextExpected := m
    tracker.history := List.replicate 50 ⟨8, 200⟩
    seq.dir := .aUp
    seq.leg := some 2
    ceiling.limit := 1000 }

/-- 60 cm past the marker is no miss, 61 cm is one; the second raises MARKER_LOST. -/
theorem witness_PassedMarkerIsMissed :
    (held (passing 900600 0 none) = false ∧ isCar (passing 900600 0 none) = true
      ∧ (passing 900600 0 none).seq.state ≠ .starting ∧ (passing 900600 0 none).time.sampleDue = true
      ∧ (passing 900600 0 none).loader.profile = some profile0)
      ∧ (next .sampleTick (passing 900600 0 none)).tracker.nextExpected = some (⟨10, 95000⟩, .up)
      ∧ markerPassed (afterTake profile0 (passing 900600 0 none)) profile0 ⟨9, 90000⟩ .up = false
      ∧ markerPassed (afterTake profile0 (passing 900610 0 none)) profile0 ⟨9, 90000⟩ .up = true
      ∧ (next .sampleTick (passing 900610 0 (some (⟨9, 90000⟩, .up)))).tracker.quality = .reckoned
      ∧ (next .sampleTick (passing 900610 1 (some (⟨9, 90000⟩, .up)))).trips.primary = some .markerLost := by
  decide +kernel

/-- A DRIVE at 50,000 cm whose FRESH record of car A shows a position, its comparison with car A nine samples outside or
inside. -/
def comparing (posA : Nat) (q : Quality) (disagree : Bool) : State :=
  { node0 driveX .dwell { shown0 with position := some posA, quality := .marked } with
    tracker.counts := 500000
    tracker.quality := q
    tracker.disagree := disagree
    tracker.cmpA := ⟨9, 9, false⟩
    tracker.cmpB := ⟨0, 9, false⟩ }

/-- At car A's 50,000 the allowance is 186: 187 cm disagree, 186 do not; three times it, 558, is no conflict, and at 50,559,
with the allowance 186, there is one. -/
theorem witness_RopeAndCarsAreCompared :
    (held (comparing 50187 .marked false) = false ∧ hasEncoder (comparing 50187 .marked false) = true
      ∧ inService (comparing 50187 .marked false) = true ∧ (comparing 50187 .marked false).time.sampleDue = true
      ∧ (comparing 50187 .marked false).loader.profile = some profile0 ∧ isCar (comparing 50187 .marked false) = false)
      ∧ (findingA (afterTake profile0 (comparing 50187 .marked false)) profile0).isSome = true
      ∧ (next .sampleTick (comparing 50187 .marked false)).tracker.disagree = true
      ∧ (next .sampleTick (comparing 50186 .marked false)).tracker.cmpA.outside = 0
      ∧ (next .sampleTick (comparing 50559 .marked false)).tracker.cmpA.conflict = true
      ∧ referencePosition (comparing 50187 .none false) profile0 = some 50187
      ∧ (next .sampleTick (comparing 50187 .none false)).tracker.counts = 501870 := by decide +kernel

/-- A DRIVE running at a speed, with the limit that its RUNNING peers give. -/
def supervised (speed m n : Nat) (flag : Bool) : State :=
  { node0 driveX .running { shown0 with state := .running, vperm := 500, gateOpen := false } with
    seq.recovery := true
    tracker.quality := .none
    tracker.history := List.replicate 50 ⟨speed / 10, speed⟩
    tracker.delta := speed / 10
    ceiling.line := 100
    ceiling.limit := 100
    ceiling.overCount := m
    ceiling.underCount := n
    ceiling.intervention := flag
    brakes.sb.state := if flag then .applied else .lifted }

/-- With V_crawl 100 the limit is 100: the third sample at 130, more than T_int over it, drops SB; the tenth at 100 lifts it
again; 510 counts from the still-entry reference trip the node. -/
theorem witness_SampleTickSupervises :
    (held (supervised 130 2 0 false) = false ∧ hasEncoder (supervised 130 2 0 false) = true
      ∧ inService (supervised 130 2 0 false) = true ∧ (supervised 130 2 0 false).time.sampleDue = true
      ∧ (supervised 130 2 0 false).loader.profile = some profile0)
      ∧ (next .sampleTick (supervised 130 2 0 false)).seq.state = .running
      ∧ (next .sampleTick (supervised 130 2 0 false)).ceiling.intervention = true
      ∧ (next .sampleTick (supervised 130 1 0 false)).ceiling.overCount = 2
      ∧ (next .sampleTick (supervised 100 0 9 true)).ceiling.intervention = false
      ∧ (next .sampleTick (supervised 100 0 8 true)).ceiling.underCount = 9
      ∧ (next .sampleTick (supervised 170 0 0 false)).trips.primary = some .overspeed
      ∧ profile0.dStill < ((afterTake profile0 (car0 .dwell)).tracker.counts - 4490).natAbs * 100 / profile0.cpmOdo := by
  decide +kernel

/-- The LOOP at rest with track A unconfirmed, its detectors inactive and car A standing at a position. -/
def confirming (posA : Nat) : State :=
  { node0 loopX .dwell { shown0 with position := some posA, quality := .marked } with loop.trackA.unconfirmed := true }

/-- Strictly between the detectors, as at 68,401, the car is inside; at 68,400 it is not. -/
theorem witness_LoopTrackIsConfirmed :
    (held (confirming 68401) = false ∧ isLoop (confirming 68401) = true ∧ inService (confirming 68401) = true
      ∧ (confirming 68401).time.sampleDue = true ∧ (confirming 68401).loader.profile = some profile0)
      ∧ (track (confirming 68401).loop .a).unconfirmed = true
      ∧ freshShows (carEntry (confirming 68401) .a) (fun r => r.motion == .stopped) = true
      ∧ usablePosition profile0 (carEntry (confirming 68401) .a) = some 68401
      ∧ (next .sampleTick (confirming 68401)).loop.trackA.occ = .occupied
      ∧ (next .sampleTick (confirming 68400)).loop.trackA.occ = .clear := by decide +kernel

theorem witness_QuadratureEdgeCounts :
    hasEncoder (car0 .dwell) = true ∧ coldHold (car0 .dwell) = false ∧ hasEncoder (loop0 .dwell) = false := by
  decide +kernel

/-- The entry 60 cm away, the last that matches, and the one 61 cm away, which does not. -/
theorem witness_MarkerReadSnapsOrWarns :
    held (car0 .running) = false ∧ isCar (car0 .running) = true ∧ (car0 .running).seq.state ≠ .starting
      ∧ (car0 .running).loader.profile = some profile0 ∧ markerOf (car0 .running) profile0 10 = some ⟨10, 95000⟩
      ∧ (next (.markerRead 10) { car0 .running with tracker.counts := 950600 }).tracker.unexpected = false
      ∧ (next (.markerRead 10) { car0 .running with tracker.counts := 950610 }).tracker.unexpected = true := by
  decide +kernel

theorem witness_WeighingGateGivesTheLoad :
    held (car0 .dwell) = false ∧ (car0 .dwell).loader.profile = some profile0
      ∧ ({ car0 .dwell with tracker.gateRunning := true } : State).tracker.gateRunning = true
      ∧ ({ car0 .dwell with tracker.gateDue := true, tracker.gateCount := 99 } : State).tracker.gateCount
          < profile0.loadOffset / 2 := by decide +kernel

/-- ESTOP pressed, in a state that trips, in TRIPPED and in FAULTED. -/
def estopped (st : NodeState) : State := { car0 st with inputs.pins.estop := true }

theorem witness_EstopTrips :
    held (estopped .running) = false ∧ (estopped .running).inputs.pins.estop = true
      ∧ (estopped .running).trips.estop = false ∧ (estopped .running).seq.state ≠ .starting
      ∧ (estopped .tripped).seq.state = .tripped ∧ (estopped .faulted).seq.state = .faulted := by decide +kernel

/-- A node at which every level and window of the statement ends. -/
def ending : State :=
  { car0 .dwell with
    inputs.estopReleased := 3
    trips.estop := true
    trips.alertEnd := some 100000
    seq.refusal := some 100000
    brakes.tb.mode := some .feedback
    brakes.tb.releaseLatch := true }

theorem witness_LevelsAndWindowsEnd :
    held ending = false ∧ ending.trips.estop = true ∧ 3 ≤ ending.inputs.estopReleased
      ∧ (ending.time.now - 100000).toNat < 2147483648 ∧ checkedUnit .tb ending = true
      ∧ (brakeUnit ending.brakes .tb).state = .applied ∧ feedbackPin ending.inputs.pins .tb = false := by decide +kernel

/-- 07_runs_dispatch_consent_and_dwell.md, R145: a window in NIGHT leaves STOP dark, in TRIPPED lit, in DWELL and ARMED
blinking, where GO keeps its mode. -/
theorem test_lamps :
    stopLamp { ending with seq.state := .night } = .off ∧ stopLamp { ending with seq.state := .tripped } = .on
      ∧ stopLamp ending = .blink ∧ stopLamp { ending with seq.state := .armed } = .blink
      ∧ goLamp { ending with seq.state := .armed } = .on ∧ goLamp (car0 .running) = .blink
      ∧ stopLamp (next .refusalWindowEnd ending) = .off ∧ stopLamp (car0 .hold) = .blink
      ∧ lampLit .blink 1499 = true ∧ lampLit .blink 1500 = false := by decide +kernel

/-- ACK pressed at a node at rest. -/
def acked (st : NodeState) : State := { car0 st with inputs.pins.ack := true }

theorem witness_AcknowledgementClearsTheTrip :
    held (acked .tripped) = false ∧ (acked .tripped).inputs.pins.ack = true
      ∧ (acked .tripped).inputs.previous.ack = false ∧ (acked .tripped).seq.state = .tripped
      ∧ stands (acked .tripped) = true ∧ (acked .tripped).trips.estop = false
      ∧ [Cause.overspeed].all (conditionGone (acked .tripped)) = true := by decide +kernel

/-- The three conditions of a press that fails: the node does not stand, ESTOP is asserted, an own cause's condition lasts. -/
theorem witness_AcknowledgementClearsTheTrip_refused :
    stands { acked .tripped with tracker.history := [⟨0, 0⟩] } = false
      ∧ (next .ackPress { acked .tripped with trips.estop := true, trips.own := [.stopInput] }).trips.own = [.stopInput]
      ∧ [Cause.doorOpen].all (conditionGone { acked .tripped with inputs.pins.doorShut := false }) = false := by
  decide +kernel

/-- Car A's node in TRIPPED on the trip of car B, whose entry shows a record; with an own cause of its own or without. -/
def peerTripped (own : List Cause) (r : BeaconRec) : State :=
  { car0 .tripped with
    peers := [entry0 0 .drive .a shown0, entry0 3 .car .b r]
    trips.own := own
    trips.primary := some .peerTrip
    trips.origin := some (3, .overspeed) }

/-- With car B still TRIPPED on its own cause the origin stays; with car B TRIPPED on PEER_TRIP or in HOLD it clears, and the
node leaves unless it has an own cause. -/
theorem witness_AcknowledgementClearsTheTrip_peer :
    held (peerTripped [] shown0) = false ∧ (peerTripped [] shown0).time.sampleDue = true
      ∧ (peerTripped [] shown0).trips.origin.isSome = true
      ∧ (next .sampleTick (peerTripped [] shown0)).seq.state = .dwell
      ∧ (next .sampleTick (peerTripped [.overspeed] shown0)).seq.state = .tripped
      ∧ (next .sampleTick (peerTripped [.overspeed] shown0)).trips.origin = none
      ∧ (next .sampleTick
          (peerTripped [] { shown0 with state := .tripped, cause := some .overspeed })).seq.state = .tripped
      ∧ (next .sampleTick
          (peerTripped [] { shown0 with state := .tripped, cause := some .peerTrip })).seq.state = .dwell := by
  decide +kernel

theorem witness_AcknowledgementAtRest :
    held (acked .hold) = false ∧ (acked .hold).seq.state ≠ .starting ∧ (acked .hold).seq.state ≠ .tripped
      ∧ resting (acked .hold) = true ∧ stands (acked .hold) = true ∧ resting (acked .running) = false
      ∧ wakes (acked .hold) = true ∧ wakes (acked .night) = false := by decide +kernel

/-- A frame of car B with number 6: showing a trip, and showing it at rest. -/
def tripShown : BeaconRec := { shown0 with state := .tripped, cls := .run, cause := some .overspeed, vperm := 0 }
def carBFrame (r : BeaconRec) : RxFrame := ⟨beaconFrame 3 6 r, false, false⟩

/-- A node whose receiver has gathered a frame, 20 idle bit times ago. -/
def received (f : RxFrame) (s : State) : State :=
  { s with
    access.idleCount := 20
    access.rxBuffer := f.octets
    access.rxFramingError := f.framingError
    access.rxOverlong := f.overlong }

theorem witness_PeerTripIsRaised :
    framed .beacon (carBFrame tripShown) (entry0 3 .car .b shown0) (received (carBFrame tripShown) (car0 .running)) = true
      ∧ inService (car0 .running) = true
      ∧ parseBeacon profile0.length profile0.wMax (carBFrame tripShown).octets = some tripShown
      ∧ sequenceAccepts (entry0 3 .car .b shown0) (frameSeq (carBFrame tripShown).octets) = true
      ∧ causeCode .overspeed ≤ 12 ∧ (car0 .running).trips.origin = none ∧ (car0 .running).cls.sdRole = .none
      ∧ originGated (car0 .running) = true := by decide +kernel

/-- What every peer shows of a run for which it stands ready. -/
def ready0 : BeaconRec :=
  { shown0 with state := .armed, dir := .aUp, leg := some 1, consent := true, brakesLifted := true }

/-- A DRIVE in ARMED in the line start, and a CAR whose TB is being lifted. -/
def starting0 (stage : StartStage) : State :=
  { node0 driveX .armed ready0 with
    inputs.pins.ebLifted := true
    inputs.pins.sbLifted := true
    brakes.eb := { BrakeUnit.start 0 with state := .lifting, mode := some .feedback, liftTime := some 99000 }
    brakes.sb := { BrakeUnit.start 0 with state := .lifting, mode := some .fixed250, liftTime := some 99750 }
    seq.dir := .aUp
    seq.leg := some 1
    seq.consent := true
    seq.stage := stage }

def lifting0 : State :=
  { car0 .armed with
    inputs.pins.tbLifted := true
    brakes.tb := { BrakeUnit.start 0 with state := .lifting, mode := some .feedback, liftTime := some 99000 } }

theorem witness_LiftCompletes :
    held (starting0 .eb) = false ∧ liftDue (.feedbackLifted .eb) .eb (starting0 .eb) = true
      ∧ liftDue (.fixedLiftDone .sb) .sb (starting0 .sb) = true ∧ lineStartHolds (starting0 .eb) = true
      ∧ liftDue (.feedbackLifted .tb) .tb lifting0 = true ∧ isCar lifting0 = true
      ∧ lineStartHolds { starting0 .eb with seq.run := 2 } = false := by decide +kernel

/-- A FEEDBACK lift exactly 2,000 ms old that has not shown lifted. -/
def overdue (st : NodeState) : State :=
  { lifting0 with
    seq.state := st
    seq.origin := some .dwell
    inputs.pins.tbLifted := false
    brakes.tb.liftTime := some 98000 }

theorem witness_LiftTimesOut :
    held (overdue .armed) = false ∧ checkedUnit .tb (overdue .armed) = true
      ∧ (brakeUnit (overdue .armed).brakes .tb).state = .lifting
      ∧ feedbackPin (overdue .armed).inputs.pins .tb = false
      ∧ (brakeUnit (overdue .armed).brakes .tb).liftTime = some 98000
      ∧ 2000 ≤ ((overdue .armed).time.now - 98000).toNat ∧ (overdue .running).seq.state = .running := by decide +kernel

/-- A LIFTED unit that has shown applied for 101 ms, and an APPLIED one that shows lifted 1,001 ms after its drop. -/
def holdFailing : State :=
  { lifting0 with brakes.tb.state := .lifted, brakes.tb.appliedSince := some 99899 }
def releaseFailing : State :=
  { lifting0 with brakes.tb.state := .applied, brakes.tb.dropTime := 98999 }

theorem witness_FeedbackChecksRaiseBrakeFault :
    (held holdFailing = false ∧ checkedUnit .tb holdFailing = true
        ∧ (brakeUnit holdFailing.brakes .tb).state = .lifted ∧ (brakeUnit holdFailing.brakes .tb).holdLatch = false
        ∧ 100 < (holdFailing.time.now - 99899).toNat)
      ∧ checkedUnit .tb releaseFailing = true ∧ (brakeUnit releaseFailing.brakes .tb).state = .applied
      ∧ (brakeUnit releaseFailing.brakes .tb).releaseLatch = false ∧ feedbackPin releaseFailing.inputs.pins .tb = true
      ∧ 1000 < (releaseFailing.time.now - (brakeUnit releaseFailing.brakes .tb).dropTime).toNat := by decide +kernel

/-- The same 100 ms and 1,000 ms old, and the same with the latch set: nothing is raised. -/
theorem witness_FeedbackChecksRaiseBrakeFault_quiet :
    (next (.holdCheck .tb) holdFailing).brakes.tb.holdLatch = false
      ∧ (next (.holdCheck .tb) { holdFailing with brakes.tb.appliedSince := some 99900 }).trips.own = []
      ∧ (next (.holdCheck .tb) { holdFailing with brakes.tb.holdLatch := true }).trips.own = []
      ∧ (next (.releaseCheck .tb) { releaseFailing with brakes.tb.dropTime := 99000 }).trips.own = []
      ∧ (next (.releaseCheck .tb) { releaseFailing with brakes.tb.releaseLatch := true }).trips.own = [] := by
  decide +kernel

/-- Dispatch-up pressed at car A, at rest at the lower stop: accepted, and with car B not heard, refused. -/
def pressed : State := { car0 .dwell with inputs.pins.dispatchUp := true }
def pressedAlone : State := { pressed with peers := [] }

theorem witness_DispatchPressIsJudged :
    (held pressed = false ∧ dispatchPin pressed.inputs.pins .aUp = true
      ∧ dispatchPin pressed.inputs.previous .aUp = false ∧ pressed.seq.state ≠ .starting
      ∧ pressed.seq.state ≠ .faulted ∧ pressed.loader.profile = some profile0)
      ∧ resting pressed = true ∧ (ownNode pressed profile0).any ListedNode.dispatchEnabled = true
      ∧ (legTarget pressed profile0 .aUp).isSome = true
      ∧ consents pressed (legTarget pressed profile0 .aUp) (recoveryFor pressed) = true
      ∧ consents pressedAlone (legTarget pressedAlone profile0 .aUp) (recoveryFor pressedAlone) = false := by
  decide +kernel

/-- The stand-down key pressed at the TERMINAL, whose line rests, and at car A, whose entry does not allow it. -/
def keyed (x : Straps) : State := { node0 x .dwell shown0 with inputs.pins.standDown := true }

theorem witness_StandDownPressIsJudged :
    held (keyed terminalX) = false ∧ (keyed terminalX).inputs.pins.standDown = true
      ∧ (keyed terminalX).inputs.previous.standDown = false ∧ (keyed terminalX).seq.state ≠ .starting
      ∧ (keyed terminalX).seq.state ≠ .faulted ∧ (keyed terminalX).loader.profile = some profile0
      ∧ (keyed terminalX).cls.sdRole = .none ∧ standDownAllowed (keyed terminalX) profile0 = true
      ∧ standDownAllowed (keyed carX) profile0 = false
      ∧ (next .standDownPress { keyed terminalX with cls.sdRole := .acking, cls.sdId := some 0 }).seq.refusal
          = some 102000 := by decide +kernel

theorem witness_StandUpLeavesNight :
    held (car0 .night) = false
      ∧ ({ car0 .night with inputs.pins.standUp := true } : State).inputs.pins.standUp = true
      ∧ (car0 .night).inputs.previous.standUp = false ∧ (car0 .night).seq.state = .night
      ∧ wakes (car0 .dwell) = true := by decide +kernel

/-- A car in ARMED whose door opens, and a terminal whose gate shuts. -/
def opening : State :=
  { car0 .armed with inputs.pins.doorShut := false, inputs.doorTaken := true, seq.origin := some .dwell }

theorem witness_ContactChangeIsJudged :
    held opening = false ∧ opening.seq.state ≠ .starting ∧ isCar opening = true
      ∧ opening.inputs.pins.doorShut ≠ opening.inputs.doorTaken ∧ opening.seq.origin = some .dwell
      ∧ originGated opening = true ∧ isTerminal (terminal0 .dwell) = true
      ∧ (terminal0 .dwell).inputs.pins.gateShut ≠ (terminal0 .dwell).inputs.gateTaken := by decide +kernel

/-- The LOOP, its lower detector of track A rising with a peer showing a position for car A or for car B. -/
def lowA : Detector := ⟨.a, .low⟩
def rising (posA posB : Option Nat) (occ : Occupancy) : State :=
  { loop0 .running with
    inputs.pins.aLow := true
    loop.trackA := ⟨occ, none, false⟩
    loop.aLow := ⟨false, 3⟩
    peers :=
      [entry0 0 .drive .a shown0, entry0 2 .car .a { shown0 with position := posA, quality := .marked },
        entry0 3 .car .b { shown0 with position := posB, quality := .marked }] }

/-- A car's usable position is near track A's lower detector. -/
def nearLowA (s : State) (x : Side) : Bool :=
  nearDetector profile0 (usablePosition profile0 (carEntry s x)) (detectorAt profile0 lowA)

theorem witness_DetectorEdgeMovesTheTrack_rise :
    held (rising (some 68800) none .clear) = false ∧ isLoop (rising (some 68800) none .clear) = true
      ∧ inService (rising (some 68800) none .clear) = true
      ∧ detectorInput (rising (some 68800) none .clear).loop lowA = ⟨false, 3⟩
      ∧ detectorPin (rising (some 68800) none .clear).inputs.pins lowA = true
      ∧ nearLowA (rising (some 68800) none .clear) .a = true
      ∧ nearLowA (rising (some 68801) (some 68400) .occupied) .a = false
      ∧ nearLowA (rising (some 68801) (some 68400) .occupied) .b = true
      ∧ (next (.detectorRise lowA) (rising (some 68801) none .clear)).trips.primary = some .loopSequence
      ∧ (next (.detectorRise lowA) (rising (some 68800) none .entering)).trips.primary = some .loopSequence
      ∧ (next (.detectorRise lowA) (rising none none .leaving)).trips.primary = some .loopSequence
      ∧ (next (.detectorRise lowA) (rising none none .clear)).trips.primary = none := by decide +kernel

/-- The LOOP, its lower detector of track A falling. -/
def falling (posA : Option Nat) (t : Track) : State :=
  { rising posA none .clear with inputs.pins.aLow := false, loop.trackA := t, loop.aLow := ⟨true, 3⟩ }

theorem witness_DetectorEdgeMovesTheTrack_fall :
    (detectorInput (falling none ⟨.entering, some .low, false⟩).loop lowA).level = true
      ∧ detectorPin (falling none ⟨.entering, some .low, false⟩).inputs.pins lowA = false
      ∧ (track (falling none ⟨.entering, some .low, false⟩).loop .a).last = some .low
      ∧ (track (falling none ⟨.clear, none, false⟩).loop .a).last = none
      ∧ held (falling none ⟨.clear, none, false⟩) = false := by decide +kernel

/-- A BEACON that has just fallen due, and one frame of each kind waiting for its gap. -/
def due : State := { car0 .dwell with access.lastAttempt := some 99750, access.beaconDue := some 100000 }

theorem witness_DueBeaconIsPending :
    held due = false ∧ due.seq.state ≠ .starting
      ∧ ((100000 : Time) - 99750).toNat ≤ (due.time.now - 99750).toNat ∧ due.access.pendingBeacon = false
      ∧ due.access.inHand ≠ some .beacon := by decide +kernel

def deferring (b a : Bool) : State :=
  { car0 .dwell with access.tx := .deferring, access.gapReached := true, access.pendingBeacon := b, access.pendingAnnounce := a }

theorem witness_AttemptStarts :
    held (deferring true false) = false ∧ (deferring true false).seq.state ≠ .starting
      ∧ (deferring true false).access.tx = .deferring ∧ (deferring true false).access.inHand = none
      ∧ (deferring true false).access.pendingBeacon = true ∧ (deferring true true).access.pendingAnnounce = true
      ∧ (deferring true false).access.gapReached = true := by
  decide +kernel

/-- The fields that a car's BEACON carries at rest at 500 cm, and the ANNOUNCE of a node FAULTED by ID_CLASH: fingerprint and
revision 0, whatever is held (04_line_access_and_framing.md, R69, R70). -/
theorem witness_AttemptStarts_fields :
    fieldsFit (deferring true false) = true ∧ classHolds (deferring true false) = true
      ∧ (parseBeacon 140000 8000 (next .attemptStart (deferring true false)).access.txFrame).map
          (fun r => (r.state, r.position, r.quality, r.doorsShut, r.vperm, r.annReq)) =
          some (.dwell, some 500, .marked, true, 0, false)
      ∧ (parseAnnounce
          (next .attemptStart { deferring true true with seq.state := .faulted }).access.txFrame).held =
          ⟨0, 0, 5, .coldPower⟩
      ∧ (parseAnnounce (next .attemptStart (deferring true true)).access.txFrame).held = ⟨0x1234, 7, 5, .coldPower⟩ := by
  decide +kernel

/-- An attempt in SENDING: lost, or with every bit driven. -/
def sending (k : FrameKind) (n : Nat) (lost : Bool) : State :=
  { car0 .dwell with
    access.tx := .sending
    access.inHand := some k
    access.attempts := n
    access.lost := lost
    access.txFrame := beaconFrame 2 6 { shown0 with wake := true } }

/-- A BEACON with COMMIT, two of which remain, completed in NIGHT. -/
def committing : State :=
  { sending .beacon 1 false with
    seq.state := .night
    cls.commit := 2
    access.txFrame := beaconFrame 2 6 { shown0 with state := .night, sdCode := .commit, sdId := 2 } }

theorem witness_AttemptEnds :
    (held (sending .beacon 3 true) = false ∧ (sending .beacon 3 true).seq.state ≠ .starting
      ∧ (sending .beacon 3 true).access.tx = .sending ∧ (sending .beacon 3 true).access.inHand = some .beacon
      ∧ (sending .beacon 3 true).access.lost = true ∧ (sending .beacon 3 true).access.attempts < 4)
      ∧ 4 ≤ (sending .beacon 4 true).access.attempts
      ∧ (sending .beacon 1 false).access.lost = false ∧ (sending .beacon 1 false).access.txBits = []
      ∧ (octetAt (sending .beacon 1 false).access.txFrame 2).testBit 1 = true
      ∧ (sending .announce 1 false).access.inHand = some .announce
      ∧ octetAt committing.access.txFrame 6 / 64 = 3 ∧ 0 < committing.cls.commit
      ∧ (next .attemptComplete committing).cls.commit = 1
      ∧ (next .attemptComplete committing).access.pendingBeacon = true := by decide +kernel

/-- A unit at rest, the same sending two octets, and one deferring. -/
theorem witness_FramesCrossTheLine :
    idleUnit.rxBits = none ∧ 0 < idleUnit.idleCount ∧ idleUnit.rxBuffer = [] ∧ idleUnit.rxFramingError = false
      ∧ idleUnit.rxOverlong = false ∧ idleUnit.lost = false ∧ idleUnit.tx ≠ .sending
      ∧ ({ idleUnit with tx := .sending, txBits := frameLevels [0x16, 0x2C] } : LineAccess).txBits
          = .dominant :: (frameLevels [0x16, 0x2C]).tail
      ∧ ({ idleUnit with tx := .sending, txBits := [.recessive] } : LineAccess).txBits = .recessive :: []
      ∧ ({ idleUnit with tx := .deferring } : LineAccess).tx = .deferring := by decide +kernel

/-- A frame with the node's own id that is not its own. -/
def clashing : RxFrame := ⟨beaconFrame 2 9 shown0, false, false⟩

theorem witness_FrameEndsAreJudged :
    frameEnds clashing (car0 .dwell) = false
      ∧ frameEnds clashing (received clashing (car0 .dwell)) = true ∧ (car0 .dwell).seq.state ≠ .starting
      ∧ frameEnds clashing (received clashing (car0 .starting)) = true
      ∧ sourceId clashing.octets = ownId (car0 .dwell) ∧ wellChecked clashing = some .beacon
      ∧ (received clashing (car0 .dwell)).access.sent ≠ clashing.octets
      ∧ ({ received clashing (car0 .dwell) with access.sent := clashing.octets } : State).access.sent
          = clashing.octets
      ∧ checkAgrees ((carBFrame shown0).octets.set 7 0) = false
      ∧ sourceId (beaconFrame 6 9 shown0) ≠ ownId (car0 .dwell)
      ∧ entryOf (car0 .dwell) (sourceId (beaconFrame 6 9 shown0)) = none := by decide +kernel

theorem witness_AcceptedBeaconRenewsItsEntry :
    framed .beacon (carBFrame shown0) (entry0 3 .car .b shown0) (received (carBFrame shown0) (car0 .dwell)) = true
      ∧ parseBeacon profile0.length profile0.wMax (carBFrame shown0).octets = some shown0
      ∧ sequenceAccepts (entry0 3 .car .b shown0) (frameSeq (carBFrame shown0).octets) = true := by decide +kernel

/-- Car A in DWELL at its loop stop, its door still locked, and the LOOP's beacon with an occupancy of track A. -/
def waiting : State := { car0 .dwell with tracker.counts := 704000 }
def loopFrame (occ : Occupancy) : RxFrame := ⟨beaconFrame 1 6 { shown0 with occA := occ }, false, false⟩
def hearsLoop (occ : Occupancy) : State := next (.receiveBeacon (loopFrame occ)) (received (loopFrame occ) waiting)

theorem witness_AcceptedBeaconRenewsItsEntry_door :
    framed .beacon (loopFrame .occupied) (entry0 1 .loop .a shown0) (received (loopFrame .occupied) waiting) = true
      ∧ (stopsNear profile0 waiting).isEmpty = false ∧ waiting.seq.doorRelease = false
      ∧ (stopsNear profile0 waiting).all (fun k => k.loopFlag == 1) = true ∧ originGated waiting = true
      ∧ (hearsLoop .occupied).seq.doorRelease = true ∧ (hearsLoop .entering).seq.doorRelease = false := by
  decide +kernel

/-- Number 6 after 5 is accepted, after 6 it is a duplicate, after 134 it is newer by 128 and old. -/
theorem witness_SequenceNumberIsTested :
    framed .beacon (carBFrame shown0) (entry0 3 .car .b shown0) (received (carBFrame shown0) (car0 .dwell)) = true
      ∧ (entry0 3 .car .b shown0).lastSeq = some 5 ∧ (frameSeq (carBFrame shown0).octets - 5).toNat = 1
      ∧ sequenceAccepts { entry0 3 .car .b shown0 with lastSeq := some 6 } 6 = false
      ∧ sequenceAccepts { entry0 3 .car .b shown0 with lastSeq := some 134 } 6 = false
      ∧ sequenceAccepts { entry0 3 .car .b shown0 with lastSeq := some 135 } 6 = true := by decide +kernel

/-- Car B's ANNOUNCE with the fingerprint and revision the node holds. -/
def announced : AnnounceFrame := ⟨.car, .b, ⟨0x1234, 7, 5, .coldPower⟩⟩

theorem witness_AnnounceGivesTheVerdict :
    framed .announce ⟨announceFrame 3 6 announced, false, false⟩ (entry0 3 .car .b shown0)
        (received ⟨announceFrame 3 6 announced, false, false⟩ (car0 .dwell)) = true
      ∧ parseAnnounce (announceFrame 3 6 announced) = announced := by decide +kernel

/-- The DRIVE running with car A's entry at age 101 and FRESH, or at age 301 and STALE, in class RUN. -/
def aged (f : Freshness) (age : Nat) : Entry :=
  { entry0 2 .car .a shown0 with fresh := f, age := age, cls := some .run }
def ageing (f : Freshness) (age : Nat) : State :=
  { drive0 .running with peers := [entry0 1 .loop .a shown0, aged f age] }

theorem witness_AgeingWithdrawsTheEntry :
    held (ageing .fresh 101) = false ∧ entryOf (ageing .fresh 101) 2 = some (aged .fresh 101)
      ∧ staleLimit .run < (aged .fresh 101).age ∧ entryOf (ageing .stale 301) 2 = some (aged .stale 301)
      ∧ lostLimit .run < (aged .stale 301).age
      ∧ (next (.entryLost 2) (ageing .stale 301)).seq.state = .running := by decide +kernel

/-- A node that has received a beacon of car B, which it accepts. -/
def hears (r : BeaconRec) (s : State) : State := received (carBFrame r) s
def accepts (r : BeaconRec) (s : State) : Bool :=
  acceptedFresh (carBFrame r) (entry0 3 .car .b shown0) profile0 r (hears r s) && partFits s

/-- The node after the frame end of the beacon that it has gathered. -/
def judged (s : State) : State := next (.receiveBeacon (gathered s)) s

/-- Car B proposes run 2, and run 1 again. -/
def proposed (run : RunNo) : BeaconRec :=
  { shown0 with state := .armed, cls := .run, run := run, dir := .aUp, leg := some 1, dispatch := true, consent := true }

/-- A TERMINAL in ARMED for run 1, proposed by itself. -/
def armed0 : State :=
  { terminal0 .armed with
    seq.origin := some .dwell
    seq.dir := .aUp
    seq.leg := some 2
    seq.consent := true
    seq.dispatchOrigin := some 5 }

theorem witness_DispatchBeaconIsJudged :
    accepts (proposed 2) (terminal0 .dwell) = true
      ∧ (judged (hears (proposed 2) (terminal0 .dwell))).seq.state = .armed
      ∧ accepts (proposed 1) armed0 = true
      ∧ (judged (hears (proposed 1) armed0)).seq.dispatchOrigin = some 3
      ∧ accepts (proposed 2) armed0 = true
      ∧ (judged (hears (proposed 2) armed0)).seq.run = 2
      ∧ (judged
          (hears (proposed 2) { armed0 with inputs.pins.gateShut := false })).seq.state = .dwell := by decide +kernel

/-- What the DRIVE shows of run 1, RUNNING or arrived, and its frame. -/
def driveShown (st : NodeState) : BeaconRec :=
  { shown0 with state := st, cls := .run, dir := if st == .dwell then .none else .aUp, leg := none }
def driveFrame (st : NodeState) : RxFrame := ⟨beaconFrame 0 6 (driveShown st), false, false⟩
def hearsDrive (st : NodeState) (s : State) : State := received (driveFrame st) s

theorem witness_RunIsFollowed :
    acceptedFresh (driveFrame .running) (entry0 0 .drive .a shown0) profile0 (driveShown .running)
        (hearsDrive .running armed0) = true ∧ partFits armed0 = true
      ∧ (judged (hearsDrive .running armed0)).seq.state = .running
      ∧ (judged
          (hearsDrive .running { armed0 with inputs.pins.gateShut := false })).seq.state = .dwell
      ∧ acceptedFresh (driveFrame .dwell) (entry0 0 .drive .a shown0) profile0 (driveShown .dwell)
          (hearsDrive .dwell (car0 .stopping)) = true
      ∧ (judged (hearsDrive .dwell (car0 .stopping))).seq.state = .dwell
      ∧ accepts { shown0 with state := .stopping, atMark := true } (car0 .running) = true
      ∧ (judged (hears { shown0 with state := .stopping, atMark := true } (car0 .running))).seq.state
          = .stopping := by decide +kernel

/-- Car A in STOPPING at its lower stop, 15 cm or 16 cm from its mark, hears the DRIVE's DWELL. -/
def restingAt (d : Option Int) : State :=
  next (.receiveBeacon (driveFrame .dwell)) (hearsDrive .dwell { car0 .stopping with envelope.distA := d })

theorem witness_RunIsFollowed_door :
    (restingAt (some 15)).seq.state = .dwell ∧ (restingAt (some 15)).seq.misaligned = false
      ∧ (restingAt (some 15)).seq.doorRelease = true ∧ (restingAt (some 16)).seq.misaligned = true
      ∧ (restingAt (some 16)).seq.doorRelease = false ∧ (restingAt none).seq.misaligned = true := by decide +kernel

/-- A node running at the ceiling 500, and car B with a lower vperm, or in a comms stop. -/
def running500 : State := { drive0 .running with ceiling.line := 500, ceiling.limit := 500, envelope.vperm := 500 }

theorem witness_BeaconLowersTheCeiling :
    accepts { shown0 with state := .running, vperm := 499 } running500 = true ∧ running500.seq.state = .running
      ∧ (judged (hears { shown0 with state := .running, vperm := 499 } running500)).ceiling.line = 499
      ∧ (judged (hears { shown0 with state := .running, vperm := 500 } running500)).ceiling.line = 500
      ∧ accepts { shown0 with state := .running, commsStop := true } running500 = true
      ∧ (judged (hears { shown0 with state := .running, commsStop := true } running500)).ceiling.comms
          = some ⟨500, 101, 100000⟩ := by decide +kernel

/-- The TERMINAL at rest with a part, every peer showing ACK to it, and what car B sends of a stand-down. -/
def parted (part : StandDownRole) (id : NodeId) (r : BeaconRec) : State :=
  { node0 terminalX .dwell r with cls.sdRole := part, cls.sdId := some id, cls.sdDeadline := some 130000 }
def standing (c : StandDownCode) (id : Fin 16) : BeaconRec := { shown0 with sdCode := c, sdId := id }

theorem witness_WakeAndStandDownAreHeard :
    accepts { shown0 with wake := true } (terminal0 .night) = true
      ∧ (judged (hears { shown0 with wake := true } (terminal0 .night))).seq.state = .dwell
      ∧ accepts (standing .request 3) (terminal0 .dwell) = true ∧ stands (terminal0 .dwell) = true
      ∧ (judged (hears (standing .request 3) (terminal0 .dwell))).cls.sdRole = .acking
      ∧ (judged (hears (standing .request 3) (parted .initiating 5 shown0))).cls.outcome = .yielded
      ∧ (judged (hears (standing .ack 5) (parted .initiating 5 (standing .ack 5)))).seq.state = .night
      ∧ (judged (hears (standing .none 15) (parted .initiating 5 shown0))).cls.sdRole = .initiating
      ∧ (judged (hears (standing .commit 3) (parted .acking 3 shown0))).seq.state = .night
      ∧ (judged (hears (standing .request 3) (parted .acking 3 shown0))).cls.sdRole = .acking
      ∧ (judged (hears (standing .none 15) (parted .acking 3 shown0))).cls.outcome = .cancelled := by
  decide +kernel

theorem witness_DeadlinesRunOut_arming :
    held opening = false ∧ opening.seq.state = .armed
      ∧ ({ opening with seq.deadline := some 100000 } : State).seq.deadline = some 100000
      ∧ (opening.time.now - 100000).toNat < 2147483648 ∧ opening.seq.origin = some .dwell := by decide +kernel

/-- A car that falls back to DWELL with its quality NONE, or at its stop. -/
theorem witness_DeadlinesRunOut_door :
    awayFromStops profile0 opening = false
      ∧ (next .armingDeadline { opening with seq.deadline := some 100000 }).seq.misaligned = false
      ∧ (next .armingDeadline
          { opening with seq.deadline := some 100000, tracker.quality := .none }).seq.misaligned = true := by
  decide +kernel

/-- A node in a quiet spell that has lasted 5 s in RUN, or 10 s in STILL. -/
def quiet (c : BeaconClass) (since : Time) : State := { car0 .dwell with cls.cls := c, cls.clock := some since }

theorem witness_DeadlinesRunOut_spell :
    held (quiet .run 95000) = false ∧ quietSpell (quiet .run 95000) = true
      ∧ profile0.tStill * 1000 ≤ ((quiet .run 95000).time.now - 95000).toNat
      ∧ quietSpell (quiet .still 90000) = true
      ∧ profile0.tDeep * 10000 ≤ ((quiet .still 90000).time.now - 90000).toNat := by decide +kernel

/-- A stand-down part at its deadline. -/
def expiring : State := { parted .acking 3 shown0 with cls.sdDeadline := some 100000 }

theorem witness_DeadlinesRunOut_part :
    held expiring = false ∧ expiring.cls.sdDeadline = some 100000 ∧ (expiring.time.now - 100000).toNat < 2147483648
      ∧ expiring.cls.sdRole ≠ .none ∧ (next .standDownDeadline expiring).cls.outcome = .expired
      ∧ ({ car0 .dwell with cls.sdDeadline := some 100000 } : State).cls.sdRole = .none := by decide +kernel

/-- A DRIVE with a period of 200 µs in progress, its low part at its end. -/
def pulsing (line : Nat) : State :=
  { drive0 .running with ceiling.line := line, generator := ⟨some 200, none, .low, 100⟩ }

theorem witness_CeilingOutputRunsItsPeriods_new :
    held (pulsing 667) = false ∧ isDrive (pulsing 667) = true ∧ (pulsing 667).seq.state ≠ .starting
      ∧ (1 ≤ (pulsing 667).ceiling.line ∧ 100000 ≤ 150 * (pulsing 667).ceiling.line
          ∧ (150 - 1) * (pulsing 667).ceiling.line < 100000)
      ∧ (100000 ≤ 200 * (pulsing 500).ceiling.line ∧ (200 - 1) * (pulsing 500).ceiling.line < 100000)
      ∧ (100000 ≤ 486 * (pulsing 206).ceiling.line ∧ (486 - 1) * (pulsing 206).ceiling.line < 100000)
      ∧ (pulsing 667).generator.current = some 200 ∧ 200 / 2 ≤ (pulsing 667).generator.micros := by decide +kernel

theorem witness_CeilingOutputRunsItsPeriods :
    held (pulsing 500) = false ∧ isDrive (pulsing 0) = true ∧ (pulsing 0).ceiling.line = 0
      ∧ 1 ≤ ({ pulsing 500 with generator := Generator.stopped } : State).ceiling.line
      ∧ (200 + 1) / 2 ≤ ({ pulsing 500 with generator.phase := .high } : State).generator.micros
      ∧ (pulsing 500).generator.next = none := by decide +kernel

theorem witness_LineCeilingIsTheLeastTerm :
    (drive0 .running).seq.state = .running ∧ (drive0 .running).loader.profile = some profile0
      ∧ (drive0 .running).ceiling.comms = none := by decide +kernel

theorem witness_SelectionOpensATransaction :
    held (car0 .dwell) = false ∧ (car0 .dwell).port.selected = false ∧ (car0 .dwell).port.restart = false := by
  decide +kernel

/-- A port in COMMAND. -/
def asked (st : NodeState) : State := { car0 st with port := ⟨true, .command, [], [], 0, false⟩ }

theorem witness_ReadoutAnswersItsRecord :
    held (asked .running) = false ∧ (asked .running).port.state = .command ∧ (car0 .dwell).port.state ≠ .command
      ∧ (asked .running).peers[3]?.isSome = true ∧ (asked .running).peers[4]? = none := by decide +kernel

theorem witness_ServiceActsAtRestOnly :
    held (asked .dwell) = false ∧ (asked .dwell).port.state = .command ∧ stands (asked .dwell) = true
      ∧ (asked .dwell).seq.state = .dwell ∧ (asked .running).seq.state = .running := by decide +kernel

theorem witness_FramesRoundTrip :
    shown0.position.getD 0 ≤ 400000 ∧ shown0.speed.getD 0 ≤ 1400 ∧ shown0.vperm ≤ 1400 ∧ shown0.load.getD 0 ≤ 20000
      ∧ shown0.sdCode = .none ∧ shown0.origin = none ∧ announced.held.count ≤ 255 := by decide +kernel

theorem witness_StepKeepsTheGates :
    gatesHold { drive0 .running with ceiling.line := 500, pending := [.sampleTick] } = true := by decide +kernel

theorem witness_ClassFitsTheState :
    classHolds { car0 .night with cls.cls := .dormant, cls.commit := 3 } = true := by decide +kernel

theorem witness_StepKeepsTheRecords : recordsHold (car0 .dwell) = true := by decide +kernel

end Sys2Proof.Tests
end

section
/-! PROOF. The Peer View: what a frame end from a listed peer leads to, the test of a BEACON's sequence number (R86),
and what ageing withdraws (R84, R85). -/

namespace Sys2Proof.Machine

/-! ## Commands at a part that is not held -/

theorem exec_receiveBeacon_eq (f : RxFrame) (s : State) :
    exec (.receiveBeacon f) s = act (receive .beacon takeBeacon f) s := rfl

theorem exec_entryStale_eq (id : NodeId) (s : State) : exec (.entryStale id) s = act (makeStale id) s := rfl

theorem exec_entryLost_eq (id : NodeId) (s : State) : exec (.entryLost id) s = act (makeLost id) s := rfl

theorem act_of_not_held {s : State} (f : State → State) (live : held s = false) :
    act f s = .next (settleSpell s (f s)) := by simp [act, live]

/-- The downshift clock moves only where a quiet spell begins or ends (R178). -/
theorem settleSpell_of_quietSpell_eq {before after : State} (same : quietSpell after = quietSpell before) :
    settleSpell before after = after := by
  unfold settleSpell
  rw [same]
  cases quietSpell before <;> simp

theorem quietSpell_endFrame (s : State) : quietSpell (endFrame s) = quietSpell s := rfl

theorem endFrame_eq_frameEnded (s : State) : endFrame s = frameEnded s := rfl

/-! ## Entries (R82) -/

theorem id_of_entryOf {s : State} {i : NodeId} {e : Entry} (found : entryOf s i = some e) : e.id = i := by
  simpa using List.find?_some found

/-- An entry replaced is what the table then gives for its id. -/
theorem entryOf_putEntry {s : State} {e e' : Entry} (found : entryOf s e.id = some e) (sameId : e'.id = e.id) :
    entryOf (putEntry e' s) e.id = some e' := by
  have keepsId : ∀ x : Entry, ((if x.id == e'.id then e' else x).id == e.id) = (x.id == e.id) := by
    intro x
    split <;> simp_all
  unfold entryOf at found ⊢
  rw [putEntry_peers, List.find?_map]
  simp only [Function.comp_def, keepsId, found]
  simp [sameId]

theorem entryOf_congr {s t : State} (same : t.peers = s.peers) (i : NodeId) : entryOf t i = entryOf s i := by
  simp [entryOf, same]

theorem entryOf_endFrame (s : State) (i : NodeId) : entryOf (endFrame s) i = entryOf s i := rfl

theorem entryOf_settleSpell (before after : State) (i : NodeId) :
    entryOf (settleSpell before after) i = entryOf after i := entryOf_congr (by simp) i

/-! ## A frame from a listed peer (R66, R77, R79, R80) -/

theorem endsWith_of_frameEnds {f : RxFrame} {s : State} (ends : frameEnds f s = true) : endsWith f s = true := by
  simp only [frameEnds, Bool.and_eq_true, beq_iff_eq, bne_iff_ne, decide_eq_true_eq] at ends
  obtain ⟨⟨⟨⟨⟨-, idle⟩, full⟩, octets⟩, framing⟩, overlong⟩ := ends
  have ended : frameHasEnded s.access = true := by simp [frameHasEnded, Config.frameEndIdle, idle, full]
  have same : gathered s = f := by simp [gathered, octets, framing, overlong]
  simp [endsWith, ended, same]

theorem held_of_framed {k : FrameKind} {f : RxFrame} {e : Entry} {s : State} (fr : framed k f e s = true) :
    held s = false := by
  simp only [framed, frameEnds, Bool.and_eq_true, Bool.not_eq_true'] at fr
  tauto

theorem entryOf_of_framed {k : FrameKind} {f : RxFrame} {e : Entry} {s : State} (fr : framed k f e s = true) :
    entryOf s e.id = some e := by
  have found : entryOf s (sourceId f.octets) = some e := by
    simp only [framed, Bool.and_eq_true, beq_iff_eq] at fr
    obtain ⟨-, listed⟩ := fr
    exact listed
  rwa [id_of_entryOf found]

/-- A well checked frame from a listed peer is handed on, at the state after its frame end. -/
theorem receive_of_framed {k : FrameKind} {f : RxFrame} {e : Entry} {p : Profile} {s : State}
    (handOn : RxFrame → Profile → Entry → State → State) (fr : framed k f e s = true)
    (loaded : s.loader.profile = some p) : receive k handOn f s = handOn f p e (endFrame s) := by
  simp only [framed, Bool.and_eq_true, Bool.not_eq_true', beq_iff_eq, bne_iff_ne] at fr
  obtain ⟨⟨⟨⟨⟨ends, started⟩, checked⟩, foreign⟩, -⟩, listed⟩ := fr
  simp [receive, judgeFrame, endsWith_of_frameEnds ends, started, checked, foreign, loaded, listed]

/-! ## Accepting a BEACON (R86, R87) -/

/-- EMPTY and LOST accept any number, FRESH and STALE one that is newer by 1 to 127 (R86). -/
theorem sequenceAccepts_iff {e : Entry} {n : SeqNo} (m : SeqNo)
    (numbered : e.fresh = .fresh ∨ e.fresh = .stale → e.lastSeq = some n) :
    sequenceAccepts e m = true ↔
      e.fresh = .empty ∨ e.fresh = .lost ∨ (1 ≤ (m - n).toNat ∧ (m - n).toNat ≤ 127) := by
  cases fr : e.fresh with
  | empty => simp [sequenceAccepts, fr]
  | lost => simp [sequenceAccepts, fr]
  | fresh => simp [sequenceAccepts, fr, numbered (.inl fr), newerSeq]
  | stale => simp [sequenceAccepts, fr, numbered (.inr fr), newerSeq]

/-- An accepted BEACON changes the peer table in its own entry alone (R87). -/
@[simp] theorem acceptBeacon_peers (n : SeqNo) (r : BeaconRec) (e : Entry) (s : State) :
    (acceptBeacon n r e s).peers = (putEntry (beaconEntry n r e) s).peers := by
  unfold acceptBeacon
  dsimp only
  (repeat' split) <;> simp

theorem entryOf_acceptBeacon {s : State} {e : Entry} (n : SeqNo) (r : BeaconRec) (found : entryOf s e.id = some e) :
    entryOf (acceptBeacon n r e s) e.id = some (beaconEntry n r e) :=
  (entryOf_congr (acceptBeacon_peers n r e s) e.id).trans (entryOf_putEntry found rfl)

/-- A parsed BEACON from a listed peer: accepted, or discarded with its frame end (R86). -/
theorem takeBeacon_of_parsed {f : RxFrame} {p : Profile} {r : BeaconRec} (e : Entry) (s : State)
    (parsed : parseBeacon p.length p.wMax f.octets = some r) :
    takeBeacon f p e s =
      if sequenceAccepts e (frameSeq f.octets) then acceptBeacon (frameSeq f.octets) r e s else s := by
  simp [takeBeacon, parsed]

/-- Settles O43: the sequence number alone decides between the entry's renewal and the bare frame end. -/
theorem sequenceNumberIsTested : Obligations.SequenceNumberIsTested := by
  intro f e n p r s fr loaded parsed numbered
  have outcome : exec (.receiveBeacon f) s = .next (settleSpell s (takeBeacon f p e (endFrame s))) := by
    rw [exec_receiveBeacon_eq, act_of_not_held _ (held_of_framed fr), receive_of_framed _ fr loaded]
  refine ⟨_, outcome, ?_⟩
  rw [takeBeacon_of_parsed e _ parsed]
  simp only [← sequenceAccepts_iff _ numbered]
  split
  next accepted =>
    have listed : entryOf (endFrame s) e.id = some e := (entryOf_endFrame s e.id).trans (entryOf_of_framed fr)
    have settled := entryOf_settleSpell s (acceptBeacon (frameSeq f.octets) r e (endFrame s)) e.id
    rw [settled, entryOf_acceptBeacon (frameSeq f.octets) r listed]
    exact ⟨rfl, rfl, rfl⟩
  next discarded =>
    rw [settleSpell_of_quietSpell_eq (quietSpell_endFrame s), endFrame_eq_frameEnded]

/-! ## The change signal in the trip records (R94, R169) -/

/-- Clearing a peer trip ends its origin and the primary cause, and no record (R169, R172). -/
@[simp] theorem judgeClear_records (s : State) :
    (judgeClear s).trips.own = s.trips.own ∧ (judgeClear s).trips.history = s.trips.history := by
  unfold judgeClear leaveTripped
  dsimp only
  (repeat' split) <;> simp

@[simp] theorem changeSignal_records (e : Entry) (b : Bool) (s : State) :
    (changeSignal e b s).trips.own = s.trips.own ∧ (changeSignal e b s).trips.history = s.trips.history := by
  simp [changeSignal]

/-! ## The comms stop of a change signal (R108, R109) -/

@[simp] theorem setLine_comms (v : Nat) (s : State) : (setLine v s).ceiling.comms = s.ceiling.comms := by
  unfold setLine followLimit silence
  dsimp only
  (repeat' split) <;> rfl

@[simp] theorem formCeiling_comms (s : State) : (formCeiling s).ceiling.comms = s.ceiling.comms :=
  setLine_comms (formedCeiling s) s

/-- A comms stop that starts records the ceiling that stood, the effective deceleration and the time (R109). -/
theorem startCommsStop_comms {s : State} (v : Nat) (runs : s.seq.state = .running) (clear : s.ceiling.comms = none) :
    (startCommsStop v s).ceiling.comms = some { v := v, b := s.envelope.bEff.getD 0, t := s.time.now } := by
  simp [startCommsStop, inState, runs, clear]

/-- In RUNNING the Run Sequencer judges neither consent nor the line start at a change signal. -/
theorem sequencerSignal_of_running {s : State} (e : Entry) (runs : s.seq.state = .running) :
    sequencerSignal e s = if e.role == .loop then judgeDoor s else s := by
  simp [sequencerSignal, judgeConsent, judgeLineStart, inState, runs]

theorem judgeDoor_of_running {s : State} (runs : s.seq.state = .running) : judgeDoor s = s := by
  unfold judgeDoor
  split <;> simp [inState, runs]

/-- In RUNNING a peer trip has nothing to clear but its origin. -/
theorem judgeClear_of_running {s : State} (runs : s.seq.state = .running) :
    judgeClear s = s ∨ judgeClear s = { s with trips.origin := none } := by
  unfold judgeClear
  split <;> simp [inState, runs]

/-- Outside DWELL the initiator does not commit: at most its part is cancelled (R185, R188). -/
theorem judgeInitiator_of_running {s : State} (runs : s.seq.state = .running) :
    judgeInitiator s = s ∨ judgeInitiator s = endStandDown .cancelled s := by
  unfold judgeInitiator
  split
  next initiating =>
    split
    next left => exact .inr rfl
    next stayed => simp [inState, runs]
  next other => exact .inl rfl

theorem classSignal_ceiling_of_running {s : State} (runs : s.seq.state = .running) :
    (classSignal s).ceiling = s.ceiling := by
  have judged : (judgeInitiator s).ceiling = s.ceiling := by
    rcases judgeInitiator_of_running runs with kept | cancelled
    · rw [kept]
    · simp [cancelled]
  simp [classSignal, apply_ite State.ceiling, judged]

/-- In RUNNING the ceiling after a change signal is the Ceiling and Supervision Unit's own work. -/
theorem changeSignal_ceiling_of_running {s : State} (e : Entry) (b : Bool) (runs : s.seq.state = .running) :
    (changeSignal e b s).ceiling = (ceilingSignal b s).ceiling := by
  have runs' : (ceilingSignal b s).seq.state = .running := by simp [runs]
  have sequenced : sequencerSignal e (ceilingSignal b s) = ceilingSignal b s := by
    rw [sequencerSignal_of_running e runs', judgeDoor_of_running runs', ite_self]
  unfold changeSignal
  rw [sequenced]
  rcases judgeClear_of_running runs' with kept | cleared
  · rw [kept, classSignal_ceiling_of_running runs']
  · rw [cleared]
    exact classSignal_ceiling_of_running (s := { ceilingSignal b s with trips.origin := none }) runs'

/-! ## Ageing (R84, R85) -/

/-- The entry as ageing past its next limit leaves it (R84, R85). -/
def withdrawn (e : Entry) : Entry :=
  if e.fresh = .fresh then { e with fresh := .stale } else { e with fresh := .lost, verif := .unverified }

@[simp] theorem withdrawn_id (e : Entry) : (withdrawn e).id = e.id := by
  unfold withdrawn
  split <;> rfl

theorem withdrawn_of_fresh {e : Entry} (fresh : e.fresh = .fresh) : withdrawn e = { e with fresh := .stale } :=
  if_pos fresh

theorem withdrawn_of_stale {e : Entry} (stale : e.fresh = .stale) :
    withdrawn e = { e with fresh := .lost, verif := .unverified } := by simp [withdrawn, stale]

/-- A FRESH entry past its stale limit is withdrawn, and a change signal tells the blocks (R84). -/
theorem makeStale_of_aged {s : State} {e : Entry} {k : BeaconClass} (found : entryOf s e.id = some e)
    (ofClass : e.cls = some k) (fresh : e.fresh = .fresh) (aged : staleLimit k < e.age) :
    makeStale e.id s = changeSignal (withdrawn e) false (putEntry (withdrawn e) s) := by
  simp [makeStale, agedPast, found, ofClass, fresh, aged, withdrawn_of_fresh]

/-- A STALE entry past its lost limit is withdrawn, and the change signal breaks the line (R84, R85). -/
theorem makeLost_of_aged {s : State} {e : Entry} {k : BeaconClass} (found : entryOf s e.id = some e)
    (ofClass : e.cls = some k) (stale : e.fresh = .stale) (aged : lostLimit k < e.age) :
    makeLost e.id s = changeSignal (withdrawn e) true (putEntry (withdrawn e) s) := by
  simp [makeLost, agedPast, found, ofClass, stale, aged, withdrawn_of_stale]

/-- Either ageing command is a change signal for the entry withdrawn, which breaks the line where it was STALE. -/
theorem exec_ageing {c : Instr} {e : Entry} {k : BeaconClass} {s : State} (live : held s = false)
    (found : entryOf s e.id = some e) (ofClass : e.cls = some k)
    (due : (c = .entryStale e.id ∧ e.fresh = .fresh ∧ staleLimit k < e.age)
      ∨ (c = .entryLost e.id ∧ e.fresh = .stale ∧ lostLimit k < e.age)) :
    exec c s =
      .next (settleSpell s (changeSignal (withdrawn e) (e.fresh == .stale) (putEntry (withdrawn e) s))) := by
  obtain ⟨rfl, fresh, aged⟩ | ⟨rfl, stale, aged⟩ := due
  · rw [exec_entryStale_eq, act_of_not_held _ live, makeStale_of_aged found ofClass fresh aged, fresh]
    rfl
  · rw [exec_entryLost_eq, act_of_not_held _ live, makeLost_of_aged found ofClass stale aged, stale]
    rfl

/-- A change signal that breaks the line starts a comms stop in RUNNING, from the ceiling that stood (R108, R109). -/
theorem changeSignal_comms_of_broken {s : State} (e : Entry) (runs : s.seq.state = .running)
    (clear : s.ceiling.comms = none) :
    (changeSignal e true s).ceiling.comms =
      some { v := s.ceiling.line, b := s.envelope.bEff.getD 0, t := s.time.now } := by
  rw [changeSignal_ceiling_of_running e true runs]
  simp [ceilingSignal, inState, runs, clear, startCommsStop_comms]

/-- Settles O45: both ageing commands are one change signal for the entry withdrawn. -/
theorem ageingWithdrawsTheEntry : Obligations.AgeingWithdrawsTheEntry := by
  intro c e k s live found ofClass due
  refine ⟨_, exec_ageing live found ofClass due, ?_, ?_, ?_⟩
  · simp only [settleSpell_frame, changeSignal_frame, putEntry_peers, withdrawn_id, beq_iff_eq]
    rfl
  · intro stale runs _ clear
    simp [stale, changeSignal_comms_of_broken, runs, clear]
  · simp

end Sys2Proof.Machine
end

section
/-! PROOF. The line ceiling: what an entry and the node's own figures give to it, and that the forming is the least of
these terms (R105). -/

namespace Sys2Proof.Machine

/-! ## The terms (R105) -/

/-- Only a MATCHED entry with a beacon gives a term: its vperm while FRESH, the capped vperm while STALE. -/
theorem peerTerm_eq_some_iff {cap v : Nat} {e : Entry} :
    peerTerm cap e = some v ↔ ∃ r ∈ e.beacon, e.verif = .matched
      ∧ ((e.fresh = .fresh ∧ v = r.vperm) ∨ (e.fresh = .stale ∧ v = min r.vperm cap)) := by
  unfold peerTerm
  cases shown : e.beacon with
  | none => cases e.fresh <;> simp
  | some r => cases e.fresh <;> simp [eq_comm (a := v)]

/-- The terms a node gives itself: V_line_max, its own vperm and the recovery cap. -/
def ownTerm (s : State) (p : Profile) : Nat :=
  if s.seq.recovery then min (min p.vLineMax s.envelope.vperm) p.vCrawl else min p.vLineMax s.envelope.vperm

theorem ownTerm_le (s : State) (p : Profile) :
    ownTerm s p ≤ p.vLineMax ∧ ownTerm s p ≤ s.envelope.vperm ∧ (s.seq.recovery = true → ownTerm s p ≤ p.vCrawl) := by
  unfold ownTerm
  split
  next recovery => exact ⟨by omega, by omega, fun _ => by omega⟩
  next plain => exact ⟨by omega, by omega, fun recovery => absurd recovery plain⟩

theorem ownTerm_eq (s : State) (p : Profile) :
    ownTerm s p = p.vLineMax ∨ ownTerm s p = s.envelope.vperm
      ∨ (s.seq.recovery = true ∧ ownTerm s p = p.vCrawl) := by
  unfold ownTerm
  split
  next recovery => simp only [recovery, true_and]; omega
  next plain => omega

/-! ## The least of them -/

/-- The fold that forms the ceiling is the library's minimum of the own term and the terms of the entries. -/
theorem leastTerm_eq_min (s : State) (p : Profile) :
    leastTerm s p =
      (ownTerm s p :: s.peers.filterMap (peerTerm p.vStaleCap)).min (List.cons_ne_nil _ _) := rfl

theorem leastTerm_le_ownTerm (s : State) (p : Profile) : leastTerm s p ≤ ownTerm s p := by
  rw [leastTerm_eq_min]
  exact List.min_le_of_mem List.mem_cons_self

theorem leastTerm_le_of_peerTerm {s : State} {p : Profile} {e : Entry} {v : Nat} (listed : e ∈ s.peers)
    (gives : peerTerm p.vStaleCap e = some v) : leastTerm s p ≤ v := by
  rw [leastTerm_eq_min]
  exact List.min_le_of_mem (List.mem_cons_of_mem _ (List.mem_filterMap.mpr ⟨e, listed, gives⟩))

theorem leastTerm_is_a_term (s : State) (p : Profile) :
    leastTerm s p = ownTerm s p ∨ ∃ e ∈ s.peers, peerTerm p.vStaleCap e = some (leastTerm s p) := by
  have attained := List.min_mem (List.cons_ne_nil (ownTerm s p) (s.peers.filterMap (peerTerm p.vStaleCap)))
  rwa [← leastTerm_eq_min, List.mem_cons, List.mem_filterMap] at attained

theorem formedCeiling_of_running {s : State} {p : Profile} (runs : s.seq.state = .running)
    (loaded : s.loader.profile = some p) (clear : s.ceiling.comms = none) : formedCeiling s = leastTerm s p := by
  simp [formedCeiling, inState, runs, loaded, clear]

/-- Settles O51: a bound by each term, and the term that attains the minimum. -/
theorem lineCeilingIsTheLeastTerm : Obligations.LineCeilingIsTheLeastTerm := by
  intro s p runs loaded clear
  rw [formedCeiling_of_running runs loaded clear]
  obtain ⟨line, own, crawl⟩ := ownTerm_le s p
  have least := leastTerm_le_ownTerm s p
  refine ⟨least.trans line, least.trans own, fun recovery => least.trans (crawl recovery), ?_, ?_⟩
  · intro e listed r shown matched
    have bounded {v : Nat} (gives : (e.fresh = .fresh ∧ v = r.vperm)
        ∨ (e.fresh = .stale ∧ v = min r.vperm p.vStaleCap)) : leastTerm s p ≤ v :=
      leastTerm_le_of_peerTerm listed (peerTerm_eq_some_iff.mpr ⟨r, shown, matched, gives⟩)
    exact ⟨fun fresh => bounded (.inl ⟨fresh, rfl⟩), fun stale => le_min_iff.mp (bounded (.inr ⟨stale, rfl⟩))⟩
  · obtain ofOwn | ⟨e, listed, gives⟩ := leastTerm_is_a_term s p
    · rw [ofOwn]
      exact (ownTerm_eq s p).imp_right (Or.imp_right .inl)
    · obtain ⟨r, shown, term⟩ := peerTerm_eq_some_iff.mp gives
      exact .inr (.inr (.inr ⟨e, listed, r, shown, term⟩))

end Sys2Proof.Machine
end

section
/-! PROOF. ACK at a node that holds no trip: what the Trip Unit clears (R171), what the wake event of the press does
(R180), and that neither reads what the other writes. -/

namespace Sys2Proof.Machine

/-! ## A beacon request is taken (R75) -/

/-- Either the mark is set, or the BEACON in hand that kept it clear still waits in DEFERRING. -/
theorem beaconAsked_requestBeacon (s : State) : beaconAsked (requestBeacon s) = true := by
  unfold requestBeacon wakeTransmitter beaconAsked
  cases waits : s.access.tx == .deferring && s.access.inHand == some .beacon with
  | true =>
    obtain ⟨deferring, inHand⟩ : s.access.tx = .deferring ∧ s.access.inHand = some .beacon := by simpa using waits
    simp [deferring, inHand]
  | false => split <;> rfl

theorem beaconAsked_congr {s t : State} (same : t.access = s.access) : beaconAsked t = beaconAsked s := by
  simp [beaconAsked, same]

/-! ## The parts of a wake event at the class unit (R180) -/

@[simp] theorem setClass_cls (c : BeaconClass) (s : State) : (setClass c s).cls.cls = c := by
  unfold setClass
  split
  next same => exact eq_of_beq same
  next changed => simp

theorem beaconAsked_setClass {c : BeaconClass} {s : State} (changed : s.cls.cls ≠ c) :
    beaconAsked (setClass c s) = true := by
  simp [setClass, changed, beaconAsked_requestBeacon]

@[simp] theorem endStandDown_cls (o : StandDownOutcome) (s : State) :
    (endStandDown o s).cls.cls = s.cls.cls ∧ (endStandDown o s).cls.sdRole = .none := by
  unfold endStandDown
  split
  next noPart => exact ⟨rfl, eq_of_beq noPart⟩
  next part => simp

theorem beaconAsked_endStandDown {o : StandDownOutcome} {s : State} (asked : beaconAsked s = true) :
    beaconAsked (endStandDown o s) = true := by
  unfold endStandDown
  split
  next noPart => exact asked
  next part => exact beaconAsked_requestBeacon _

@[simp] theorem restartSpell_cls (s : State) :
    (restartSpell s).cls.cls = s.cls.cls ∧ (restartSpell s).cls.sdRole = s.cls.sdRole := by
  unfold restartSpell
  split <;> exact ⟨rfl, rfl⟩

/-! ## The wake event (R180) -/

/-- What every wake event that is taken does, before the beacon that a rising count asks for of itself. -/
def wokenClass (s : State) : State :=
  { restartSpell (endStandDown .cancelled (setClass .run s)) with cls.wake := 3 }

theorem wakeEvent_of_not_wakes {s : State} (sleeps : wakes s = false) : wakeEvent s = s := by
  simp only [wakes, Bool.not_eq_false'] at sleeps
  exact if_pos sleeps

theorem wakeEvent_of_wakes {s : State} (taken : wakes s = true) :
    wakeEvent s =
      if s.cls.cls == .run && decide (s.cls.wake < 3) then requestBeacon (wokenClass s) else wokenClass s := by
  simp only [wakes, Bool.not_eq_true'] at taken
  exact if_neg (Bool.eq_false_iff.mp taken)

@[simp] theorem wokenClass_cls (s : State) :
    (wokenClass s).cls.cls = .run ∧ (wokenClass s).cls.wake = 3 ∧ (wokenClass s).cls.sdRole = .none := by
  simp [wokenClass]

/-- A change of class has asked for the beacon that shows it, and the end of a part does not withdraw that. -/
theorem beaconAsked_wokenClass {s : State} (changed : s.cls.cls ≠ .run) : beaconAsked (wokenClass s) = true :=
  (beaconAsked_congr (by simp [wokenClass])).trans
    (beaconAsked_endStandDown (o := .cancelled) (beaconAsked_setClass changed))

/-- A wake event that is taken shows: a count below 3 asks as it rises, a class that was not RUN with its change. -/
theorem woken_wakeEvent {s : State} (taken : wakes s = true) : woken s (wakeEvent s) = true := by
  rw [wakeEvent_of_wakes taken]
  split
  next rises => simp [woken, beaconAsked_requestBeacon]
  next still =>
    by_cases run : s.cls.cls = .run
    · have full : 3 ≤ s.cls.wake := by simpa [run] using still
      simp [woken, run, full]
    · simp [woken, beaconAsked_wokenClass run]

/-- Nothing outside the Line Access Unit and the Class Controller moves. -/
theorem wakeEvent_eq (s : State) :
    wakeEvent s = { s with access := (wakeEvent s).access, cls := (wakeEvent s).cls } := by
  have frame := wakeEvent_frame s
  generalize wakeEvent s = t at frame ⊢
  cases s
  cases t
  simp_all

/-! ## Inputs and brake units beside a wake event -/

/-- A state with other inputs and brake units: what a press of ACK without a trip writes beside its wake event. -/
def withInputsAndBrakes (i : Inputs) (b : Brakes) (s : State) : State := { s with inputs := i, brakes := b }

section
variable (i : Inputs) (b : Brakes) (s : State)

theorem requestBeacon_withInputsAndBrakes :
    requestBeacon (withInputsAndBrakes i b s) = withInputsAndBrakes i b (requestBeacon s) := by
  unfold requestBeacon wakeTransmitter
  rw [apply_ite (withInputsAndBrakes i b)]
  rfl

theorem setClass_withInputsAndBrakes (c : BeaconClass) :
    setClass c (withInputsAndBrakes i b s) = withInputsAndBrakes i b (setClass c s) := by
  unfold setClass
  rw [apply_ite (withInputsAndBrakes i b), ← requestBeacon_withInputsAndBrakes]
  rfl

theorem endStandDown_withInputsAndBrakes (o : StandDownOutcome) :
    endStandDown o (withInputsAndBrakes i b s) = withInputsAndBrakes i b (endStandDown o s) := by
  unfold endStandDown
  rw [apply_ite (withInputsAndBrakes i b), ← requestBeacon_withInputsAndBrakes]
  rfl

theorem restartSpell_withInputsAndBrakes :
    restartSpell (withInputsAndBrakes i b s) = withInputsAndBrakes i b (restartSpell s) := by
  unfold restartSpell
  rw [apply_ite (withInputsAndBrakes i b)]
  rfl

/-- A wake event neither reads nor writes the inputs and the brake units. -/
theorem wakeEvent_withInputsAndBrakes :
    wakeEvent (withInputsAndBrakes i b s) = withInputsAndBrakes i b (wakeEvent s) := by
  unfold wakeEvent
  dsimp only
  rw [setClass_withInputsAndBrakes, endStandDown_withInputsAndBrakes, restartSpell_withInputsAndBrakes,
    apply_ite (withInputsAndBrakes i b), apply_ite (withInputsAndBrakes i b), ← requestBeacon_withInputsAndBrakes]
  rfl

end

theorem quietSpell_congr {s t : State} (seq : t.seq = s.seq) (loader : t.loader = s.loader)
    (tracker : t.tracker = s.tracker) (peers : t.peers = s.peers) : quietSpell t = quietSpell s := by
  simp [quietSpell, resting, inState, stands, hasEncoder, isDrive, isCar, role, standstill, driveStopped, driveEntry,
    seq, loader, tracker, peers]

/-! ## The press (R171) -/

/-- The brake units after a press at a node without a trip: LIFT_FAIL is clear at each where R171 accepts the press. -/
def acknowledgedBrakes (s : State) : Brakes :=
  if resting s = true ∧ stands s = true ∧ s.trips.estop = false then (clearLiftFail s).brakes else s.brakes

theorem acknowledge_of_not_tripped {s : State} (noTrip : s.seq.state ≠ .tripped) :
    acknowledge s = { s with brakes := acknowledgedBrakes s } := by
  unfold acknowledge acknowledgedBrakes
  cases state : s.seq.state with
  | tripped => exact absurd state noTrip
  | dwell | hold =>
    by_cases accepted : stands s = true ∧ s.trips.estop = false
    · simp [resting, inState, state, accepted, clearLiftFail]
    · simp [resting, inState, state, accepted]
  | _ => simp [resting, inState, state]

/-- A press that finds no trip: the key held, the brake units judged by R171, and the wake event in the state it finds. -/
theorem takeAck_of_not_tripped {s : State} (pressed : s.inputs.pins.ack = true) (fresh : s.inputs.previous.ack = false)
    (started : s.seq.state ≠ .starting) (noTrip : s.seq.state ≠ .tripped) :
    takeAck s =
      withInputsAndBrakes { s.inputs with previous.ack := true } (acknowledgedBrakes s) (wakeEvent s) := by
  have judged : acknowledge { s with inputs.previous.ack := true } =
      withInputsAndBrakes { s.inputs with previous.ack := true } (acknowledgedBrakes s) s :=
    acknowledge_of_not_tripped noTrip
  simp [takeAck, inState, pressed, fresh, started, judged, wakeEvent_withInputsAndBrakes]

theorem exec_ackPress_eq (s : State) : exec .ackPress s = act takeAck s := rfl

/-- Settles O27: the press is a judgement of the brake units beside a wake event, and leaves a quiet spell as it was. -/
theorem acknowledgementAtRest : Obligations.AcknowledgementAtRest := by
  intro s live pressed fresh started noTrip
  have taken := takeAck_of_not_tripped pressed fresh started noTrip
  have spell : quietSpell (takeAck s) = quietSpell s := by
    rw [taken]
    apply quietSpell_congr <;> simp [withInputsAndBrakes]
  have outcome : exec .ackPress s = .next (takeAck s) := by
    rw [exec_ackPress_eq, act_of_not_held _ live, settleSpell_of_quietSpell_eq spell]
  refine ⟨_, outcome, ?_, ?_, ?_⟩
  · rw [taken, wakeEvent_eq s]
    rfl
  · rw [taken]
    split
    next accepted => exact if_pos accepted
    next refused => exact if_neg refused
  · rw [taken]
    split
    next awake => exact woken_wakeEvent awake
    next asleep =>
      rw [wakeEvent_of_not_wakes (by simpa using asleep)]
      exact ⟨rfl, rfl⟩

end Sys2Proof.Machine
end

section
/-! PROOF. What an entry to a node state leaves in each block it touches: each field once, in terms of the state before
(R106, R111, R120 to R123, R141, R179). -/

namespace Sys2Proof.Machine

/-! ## The role is strapped (R5) -/

theorem isDrive_congr {s t : State} (loader : t.loader = s.loader) : isDrive t = isDrive s := by
  simp [isDrive, role, loader]

theorem isCar_congr {s t : State} (loader : t.loader = s.loader) : isCar t = isCar s := by
  simp [isCar, role, loader]

theorem isLoop_congr {s t : State} (loader : t.loader = s.loader) : isLoop t = isLoop s := by
  simp [isLoop, role, loader]

theorem isTerminal_congr {s t : State} (loader : t.loader = s.loader) : isTerminal t = isTerminal s := by
  simp [isTerminal, role, loader]

theorem hasEncoder_congr {s t : State} (loader : t.loader = s.loader) : hasEncoder t = hasEncoder s := by
  simp [hasEncoder, isDrive, isCar, role, loader]

/-! ## The parts of an entry -/

/-- A re-reference is the DRIVE's alone, at its entry to DWELL standing; otherwise an entry moves nothing of the tracker but
the still-entry reference (R28, R35). -/
theorem enterTracker_of_no_reference {n : NodeState} {s : State}
    (stays : isDrive s = false ∨ n ≠ .dwell ∨ standstill s = false) :
    ∃ r, enterTracker n s = { s with tracker.stillRef := r } := by
  have moves : ∀ m, n = m → (isDrive s && m == .dwell && standstill s) = false := by
    rintro m rfl
    rcases stays with h | h | h <;> simp [h]
  cases n <;> simp only [enterTracker, moves _ rfl, Bool.false_eq_true, if_false] <;> (repeat' split) <;>
    exact ⟨_, rfl⟩

/-- A re-reference sets the counts, the quality and the still-entry reference (R28). -/
theorem reReference_eq (p : Profile) (s : State) :
    ∃ c q r, reReference p s = { s with tracker.counts := c, tracker.quality := q, tracker.stillRef := r } := by
  unfold reReference
  split <;> exact ⟨_, _, _, rfl⟩

theorem enterTracker_eq (n : NodeState) (s : State) :
    ∃ c q r, enterTracker n s = { s with tracker.counts := c, tracker.quality := q, tracker.stillRef := r } := by
  by_cases stays : isDrive s = false ∨ n ≠ .dwell ∨ standstill s = false
  · obtain ⟨r, same⟩ := enterTracker_of_no_reference stays
    exact ⟨_, _, r, same⟩
  · simp only [not_or, not_not, Bool.not_eq_false] at stays
    obtain ⟨drive, rfl, still⟩ := stays
    unfold enterTracker
    cases s.loader.profile with
    | none => exact ⟨_, _, _, rfl⟩
    | some p =>
      obtain ⟨c, q, r, same⟩ := reReference_eq p { s with tracker.stillRef := some (presentCounts s p) }
      simp only [hasEncoder, drive, still, Bool.true_or, if_true, Bool.and_true, beq_self_eq_true, same]
      exact ⟨c, q, r, rfl⟩

/-- The door's judgement at an entry reads the stops, the position, the distances and the LOOP's entry (R141). -/
theorem enterDoor_seq_congr {s t : State} (prior n : NodeState) (loader : t.loader = s.loader) (peers : t.peers = s.peers)
    (distA : t.envelope.distA = s.envelope.distA) (distB : t.envelope.distB = s.envelope.distB) (seq : t.seq = s.seq)
    (tracker : isDrive s = false →
      t.tracker.counts = s.tracker.counts ∧ t.tracker.quality = s.tracker.quality) :
    (enterDoor prior n t).seq = (enterDoor prior n s).seq := by
  have carOf := isCar_congr loader
  cases car : isCar s with
  | false => simp [enterDoor, carOf, car, seq]
  | true =>
    have notDrive : s.loader.straps.role ≠ .drive := by
      simp only [isCar, role, beq_iff_eq] at car
      simp [car]
    obtain ⟨counts, quality⟩ := tracker (by simpa [isDrive, role] using notDrive)
    have stop : ∀ p, stopHere t p = stopHere s p := by
      simp [stopHere, ownStops, reported, positionCm, cpm, isDrive, isCar, role, side, loader, counts]
    have aligned : ∀ p, misalignedAt prior p t = misalignedAt prior p s := by
      simp [misalignedAt, ownDistance, atStop, located, stop, side, loader, distA, distB, quality]
    have loop : loopShowsOccupied t = loopShowsOccupied s := by
      simp [loopShowsOccupied, loopEntry, side, loader, peers]
    unfold enterDoor
    rw [carOf, loader, seq]
    simp only [stop, aligned, loop, apply_ite State.seq]
    cases s.loader.profile <;> simp [seq]

/-! ## Brake units (R159, R161) -/

/-- One unit record replaced among the others. -/
def Brakes.put (b : BrakeId) (u : BrakeUnit) (k : Brakes) : Brakes := match b with
  | .eb => { k with eb := u }
  | .sb => { k with sb := u }
  | .tb => { k with tb := u }

/-- Every unit after a drop command. -/
def Brakes.dropped (now : Time) (k : Brakes) : Brakes :=
  { eb := dropUnit now k.eb, sb := dropUnit now k.sb, tb := dropUnit now k.tb }

@[simp] theorem brakeUnit_put (b c : BrakeId) (u : BrakeUnit) (k : Brakes) :
    brakeUnit (k.put b u) c = if c = b then u else brakeUnit k c := by
  cases b <;> cases c <;> rfl

@[simp] theorem setUnit_brakes (b : BrakeId) (u : BrakeUnit) (s : State) :
    (setUnit b u s).brakes = s.brakes.put b u := by
  cases b <;> rfl

@[simp] theorem dropBrake_brakes (b : BrakeId) (s : State) :
    (dropBrake b s).brakes = s.brakes.put b (dropUnit s.time.now (brakeUnit s.brakes b)) := setUnit_brakes _ _ _

@[simp] theorem dropAll_brakes (s : State) : (dropAll s).brakes = s.brakes.dropped s.time.now := rfl

theorem liftBrake_brakes (b : BrakeId) (s : State) :
    (liftBrake b s).brakes =
      if (inState s .armed || inState s .running) && hasBrake (role s) b then
        s.brakes.put b (liftUnit s.time.now (brakeUnit s.brakes b))
      else s.brakes := by
  unfold liftBrake
  rw [apply_ite State.brakes, setUnit_brakes]

@[simp] theorem allApplied_dropped (now : Time) (k : Brakes) : allApplied (k.dropped now) = true := by
  simp [allApplied, Brakes.dropped]

/-! ## The class unit (R179, R185, R188) -/

/-- The class unit after a change of class. -/
def ClassUnit.set (c : BeaconClass) (now : Time) (k : ClassUnit) : ClassUnit :=
  if k.cls = c then k else { k with cls := c, clock := some now }

/-- The class unit after the end of a stand-down part, where one stands. -/
def ClassUnit.endPart (o : StandDownOutcome) (k : ClassUnit) : ClassUnit :=
  if k.sdRole = .none then k else { k with sdRole := .none, sdId := none, sdDeadline := none, outcome := o }

/-- The class unit after an entry to a node state from another. -/
def ClassUnit.entered (prior new : NodeState) (now : Time) (k : ClassUnit) : ClassUnit :=
  let t := if prior == .dwell && new != .night then k.endPart .cancelled else k
  let u : ClassUnit := if prior == .night then { t with commit := 0 } else t
  match new with
  | .dwell => u
  | .hold => u
  | .night => u.set .dormant now
  | _ => u.set .run now

@[simp] theorem ClassUnit.set_fields (c : BeaconClass) (now : Time) (k : ClassUnit) :
    (k.set c now).cls = c ∧ (k.set c now).wake = k.wake ∧ (k.set c now).commit = k.commit
      ∧ (k.set c now).sdRole = k.sdRole ∧ (k.set c now).sdId = k.sdId ∧ (k.set c now).sdDeadline = k.sdDeadline
      ∧ (k.set c now).outcome = k.outcome := by
  unfold ClassUnit.set
  split <;> simp_all

@[simp] theorem ClassUnit.endPart_fields (o : StandDownOutcome) (k : ClassUnit) :
    (k.endPart o).cls = k.cls ∧ (k.endPart o).clock = k.clock ∧ (k.endPart o).wake = k.wake
      ∧ (k.endPart o).commit = k.commit ∧ (k.endPart o).sdRole = .none := by
  unfold ClassUnit.endPart
  split <;> simp_all

/-- Only entries to DWELL and HOLD leave the class to what follows (R179). -/
theorem ClassUnit.entered_cls (prior new : NodeState) (now : Time) (k : ClassUnit) :
    (k.entered prior new now).cls =
      if new = .night then .dormant else if new = .dwell ∨ new = .hold then k.cls else .run := by
  unfold ClassUnit.entered
  cases new <;> simp [apply_ite ClassUnit.cls]

theorem ClassUnit.entered_counts (prior new : NodeState) (now : Time) (k : ClassUnit) :
    (k.entered prior new now).wake = k.wake
      ∧ (k.entered prior new now).commit = if prior = .night then 0 else k.commit := by
  unfold ClassUnit.entered
  cases new <;> simp [apply_ite ClassUnit.wake, apply_ite ClassUnit.commit]

/-- A part ends where DWELL is left otherwise than for NIGHT (R188). -/
theorem ClassUnit.entered_sdRole (prior new : NodeState) (now : Time) (k : ClassUnit) :
    (k.entered prior new now).sdRole = if prior = .dwell ∧ new ≠ .night then .none else k.sdRole := by
  unfold ClassUnit.entered
  cases new <;> simp [apply_ite ClassUnit.sdRole]

theorem cls_setClass (c : BeaconClass) (s : State) : (setClass c s).cls = s.cls.set c s.time.now := by
  simp [setClass, ClassUnit.set, apply_ite State.cls]

theorem cls_endStandDown (o : StandDownOutcome) (s : State) : (endStandDown o s).cls = s.cls.endPart o := by
  simp [endStandDown, ClassUnit.endPart, apply_ite State.cls]

theorem cls_enterClass (prior n : NodeState) (s : State) :
    (enterClass prior n s).cls = s.cls.entered prior n s.time.now := by
  unfold enterClass ClassUnit.entered
  cases n <;> cases prior <;> simp [cls_setClass, cls_endStandDown]

/-! ## The blocks after an entry -/

theorem enterState_seq (n : NodeState) (s : State) :
    (enterState n s).seq = (enterDoor s.seq.state n (enterSequencer n s)).seq := by
  unfold enterState
  simp only [apply_ite State.seq, requestBeacon_frame, requestAnnounce_frame, ite_self]
  apply enterDoor_seq_congr
  · simp
  · simp
  · simp [enterEnvelope]
  · simp [enterEnvelope]
  · simp
  · intro other
    have other' : isDrive (enterCeiling n (enterBrakes n (enterEnvelope n (enterSequencer n s)))) = false := (isDrive_congr (by simp)).trans other
    obtain ⟨_, same⟩ := enterTracker_of_no_reference (n := n) (.inl other')
    simp [same]

/-- The door-lock release of a CAR that enters DWELL (R141). -/
def doorOpensAt (prior : NodeState) (p : Profile) (s : State) : Bool :=
  !misalignedAt prior p s && (stopHere s p).any fun t => t.loopFlag != 1 || loopShowsOccupied s

theorem enterState_seq_of_not_dwell {n : NodeState} (s : State) (other : n ≠ .dwell) :
    (enterState n s).seq = (enterSequencer n s).seq := by
  simp [enterState_seq, enterDoor, other]

/-- At a CAR the door is judged by the position, the distances and the LOOP's entry of the state before (R141). -/
theorem enterState_seq_dwell (s : State) :
    (enterState .dwell s).seq =
      { (enterSequencer .dwell s).seq with
        misaligned := isCar s && s.loader.profile.any (misalignedAt s.seq.state · s)
        doorRelease := isCar s && s.loader.profile.any (doorOpensAt s.seq.state · s) } := by
  rw [enterState_seq]
  unfold enterDoor
  have loader : (enterSequencer .dwell s).loader = s.loader := by simp
  rw [isCar_congr loader, loader]
  cases car : isCar s with
  | false => rfl
  | true =>
    cases s.loader.profile with
    | none => rfl
    | some p =>
      have stop : stopHere (enterSequencer .dwell s) p = stopHere s p := rfl
      simp only [stop, doorOpensAt, Option.any_some]
      cases stopHere s p <;> rfl

theorem enterState_envelope (n : NodeState) (s : State) :
    (enterState n s).envelope = (enterEnvelope n s).envelope := by
  simp [enterState, apply_ite State.envelope, enterEnvelope]

@[simp] theorem enterState_vperm (n : NodeState) (s : State) :
    (enterState n s).envelope.vperm = if n = .running then s.envelope.vperm else 0 := by
  simp [enterState_envelope, enterEnvelope]

theorem enterState_cls (n : NodeState) (s : State) :
    (enterState n s).cls = s.cls.entered s.seq.state n s.time.now := by
  simp only [enterState, apply_ite State.cls, requestBeacon_frame, requestAnnounce_frame, ite_self, enterDoor_frame]
  simp [cls_enterClass]

/-- Any entry but those of a run drops every unit (R123). -/
theorem enterState_brakes_of_rest {n : NodeState} (s : State) (rest : n ≠ .armed ∧ n ≠ .running ∧ n ≠ .stopping) :
    (enterState n s).brakes = s.brakes.dropped s.time.now := by
  simp only [enterState, apply_ite State.brakes, requestBeacon_frame, requestAnnounce_frame, ite_self, enterDoor_frame,
    enterClass_frame, enterTracker_frame, enterCeiling_frame]
  cases n <;> simp_all [enterBrakes]

theorem enterState_brakes_armed (s : State) :
    (enterState .armed s).brakes =
      if isCar s then s.brakes.put .tb (liftUnit s.time.now s.brakes.tb) else s.brakes := by
  simp only [enterState, apply_ite State.brakes, requestBeacon_frame, requestAnnounce_frame, ite_self, enterDoor_frame,
    enterClass_frame, enterTracker_frame, enterCeiling_frame, enterBrakes, liftBrake_brakes]
  cases car : s.loader.straps.role <;>
    simp [isCar, role, car, inState, enterEnvelope, hasBrake, brakeUnit]

theorem enterState_brakes_running (s : State) : (enterState .running s).brakes = s.brakes := by
  simp [enterState, enterBrakes]

theorem enterState_brakes_stopping (s : State) :
    (enterState .stopping s).brakes =
      if isDrive s then s.brakes.put .sb (dropUnit s.time.now s.brakes.sb) else s.brakes := by
  simp only [enterState, apply_ite State.brakes, requestBeacon_frame, requestAnnounce_frame, ite_self, enterDoor_frame,
    enterClass_frame, enterTracker_frame, enterCeiling_frame, enterBrakes, dropBrake_brakes]
  simp [isDrive, role, brakeUnit]

/-! ## The tracker after an entry (R28, R35) -/

theorem enterState_tracker_eq (n : NodeState) (s : State) :
    (enterState n s).tracker =
      (enterTracker n (enterCeiling n (enterBrakes n (enterEnvelope n (enterSequencer n s))))).tracker := by
  simp [enterState, apply_ite State.tracker]

/-- An entry keeps all of the tracker but the counts, the quality and the still-entry reference. -/
@[simp] theorem enterState_tracker_frame (n : NodeState) (s : State) :
    (enterState n s).tracker.first = s.tracker.first ∧ (enterState n s).tracker.second = s.tracker.second ∧
      (enterState n s).tracker.delta = s.tracker.delta ∧ (enterState n s).tracker.illegal = s.tracker.illegal ∧
      (enterState n s).tracker.history = s.tracker.history ∧ (enterState n s).tracker.speed = s.tracker.speed ∧
      (enterState n s).tracker.motion = s.tracker.motion ∧
      (enterState n s).tracker.lastMatched = s.tracker.lastMatched ∧
      (enterState n s).tracker.nextExpected = s.tracker.nextExpected ∧
      (enterState n s).tracker.misses = s.tracker.misses ∧
      (enterState n s).tracker.unexpected = s.tracker.unexpected ∧
      (enterState n s).tracker.sensorLatch = s.tracker.sensorLatch ∧
      (enterState n s).tracker.cmpA = s.tracker.cmpA ∧ (enterState n s).tracker.cmpB = s.tracker.cmpB ∧
      (enterState n s).tracker.disagree = s.tracker.disagree ∧ (enterState n s).tracker.load = s.tracker.load ∧
      (enterState n s).tracker.gateRunning = s.tracker.gateRunning ∧
      (enterState n s).tracker.gateCount = s.tracker.gateCount ∧
      (enterState n s).tracker.gateDue = s.tracker.gateDue := by
  rw [enterState_tracker_eq]
  obtain ⟨_, _, _, same⟩ := enterTracker_eq n (enterCeiling n (enterBrakes n (enterEnvelope n (enterSequencer n s))))
  simp [same]

theorem enterState_tracker_of_no_reference {n : NodeState} {s : State}
    (stays : isDrive s = false ∨ n ≠ .dwell ∨ standstill s = false) :
    ∃ r, (enterState n s).tracker = { s.tracker with stillRef := r } := by
  have drive := isDrive_congr (s := s) (t := enterCeiling n (enterBrakes n (enterEnvelope n (enterSequencer n s))))
    (by simp)
  have still : standstill (enterCeiling n (enterBrakes n (enterEnvelope n (enterSequencer n s)))) = standstill s := by
    simp [standstill]
  rw [← drive, ← still] at stays
  obtain ⟨r, same⟩ := enterTracker_of_no_reference stays
  exact ⟨r, by simp [enterState_tracker_eq, same]⟩

/-! ## The line ceiling and the output after an entry (R104, R106, R118) -/

@[simp] theorem silence_generator (s : State) :
    (silence s).generator = if s.ceiling.line = 0 then Generator.stopped else s.generator := by
  simp [silence, apply_ite State.generator]

@[simp] theorem followLimit_line (s : State) :
    (followLimit s).ceiling.line = s.ceiling.line ∧ (followLimit s).ceiling.comms = s.ceiling.comms := by
  unfold followLimit
  (repeat' split) <;> exact ⟨rfl, rfl⟩

@[simp] theorem setLine_line (v : Nat) (s : State) : (setLine v s).ceiling.line = v := by
  unfold setLine
  dsimp only
  split
  next same => exact eq_of_beq same
  next changed => (repeat' split) <;> simp

theorem setLine_generator (v : Nat) (s : State) :
    (setLine v s).generator =
      if s.ceiling.line ≠ v ∧ v = 0 then Generator.stopped else s.generator := by
  unfold setLine
  dsimp only
  split
  next same => simp_all
  next changed =>
    have moves : s.ceiling.line ≠ v := by simpa using changed
    (repeat' split) <;> simp_all

theorem formedCeiling_of_not_running {s : State} (rests : s.seq.state ≠ .running) : formedCeiling s = 0 := by
  simp [formedCeiling, inState, rests]

/-- What the forming of the line ceiling reads (R105, R106, R109). -/
theorem formedCeiling_congr {s t : State} (state : t.seq.state = s.seq.state) (recovery : t.seq.recovery = s.seq.recovery)
    (profile : t.loader.profile = s.loader.profile) (comms : t.ceiling.comms = s.ceiling.comms)
    (now : t.time.now = s.time.now) (peers : t.peers = s.peers) (vperm : t.envelope.vperm = s.envelope.vperm) :
    formedCeiling t = formedCeiling s := by
  simp [formedCeiling, leastTerm, inState, state, recovery, profile, comms, now, peers, vperm]

theorem enterState_ceiling_eq (n : NodeState) (s : State) :
    (enterState n s).ceiling =
      (enterCeiling n (enterBrakes n (enterEnvelope n (enterSequencer n s)))).ceiling := by
  simp [enterState, apply_ite State.ceiling]

/-- Entries but those to RUNNING and STOPPING clear the unit; DWELL, HOLD and FAULTED end a comms stop (R106, R110). -/
theorem enterState_ceiling_of_rest {n : NodeState} (s : State) (running : n ≠ .running) (stopping : n ≠ .stopping) :
    (enterState n s).ceiling =
      { line := 0
        comms := if n == .dwell || n == .hold || n == .faulted then none else s.ceiling.comms
        limit := 0, release := none, overCount := 0, underCount := 0, intervention := false, barred := false } := by
  rw [enterState_ceiling_eq]
  cases n <;> simp_all [enterCeiling]

@[simp] theorem enterState_comms (n : NodeState) (s : State) :
    (enterState n s).ceiling.comms =
      if n == .dwell || n == .hold || n == .faulted then none else s.ceiling.comms := by
  rw [enterState_ceiling_eq]
  cases n <;> simp [enterCeiling]

theorem enterState_line_of_not_running {n : NodeState} (s : State) (running : n ≠ .running) :
    (enterState n s).ceiling.line = 0 := by
  rw [enterState_ceiling_eq]
  cases n <;> simp_all [enterCeiling]

theorem enterState_recovery_running (s : State) : (enterState .running s).seq.recovery = s.seq.recovery := by
  simp [enterState_seq, enterDoor, enterSequencer]

theorem enterState_ceiling_running (s : State) :
    (enterState .running s).ceiling =
      { s.ceiling with
        line := formedCeiling (enterState .running s)
        limit := if hasEncoder s then formedCeiling (enterState .running s) else 0
        release := none, overCount := 0, underCount := 0 } := by
  have formed : formedCeiling (enterBrakes .running (enterEnvelope .running (enterSequencer .running s))) =
      formedCeiling (enterState .running s) := by
    apply formedCeiling_congr <;> simp [enterState_recovery_running, enterSequencer, enterEnvelope]
  rw [enterState_ceiling_eq]
  simp [enterCeiling, formed, hasEncoder, isDrive, isCar, role]

theorem enterState_generator (n : NodeState) (s : State) :
    (enterState n s).generator = if (enterState n s).ceiling.line = 0 then Generator.stopped else s.generator := by
  rw [enterState_ceiling_eq]
  simp only [enterState, apply_ite State.generator, requestBeacon_frame, requestAnnounce_frame, ite_self,
    enterDoor_frame, enterClass_frame, enterTracker_frame]
  cases n <;> simp [enterCeiling]

/-! ## The beacon that shows the entry (R75) -/

@[simp] theorem beaconAsked_enterState (n : NodeState) (s : State) : beaconAsked (enterState n s) = true :=
  beaconAsked_requestBeacon _

end Sys2Proof.Machine
end

section
/-! PROOF. The three invariants of a run (`gatesHold`, `classHolds`, `recordsHold`): what each of them reads, and that every
shared operation carries all three on. -/

namespace Sys2Proof.Machine

/-! ## What the invariants read -/

/-- The fields of the Run Sequencer that the gates read. -/
def Sequencer.gated (q : Sequencer) : Sequencer :=
  { q with run := 0, stage := .idle, refusal := none, faultCause := none }

theorem gatesHold_congr {s t : State} (seq : t.seq.gated = s.seq.gated) (straps : t.loader.straps = s.loader.straps)
    (line : t.ceiling.line = s.ceiling.line) (vperm : t.envelope.vperm = s.envelope.vperm)
    (brakes : t.brakes = s.brakes) (generator : t.generator = s.generator) : gatesHold t = gatesHold s := by
  simp only [Sequencer.gated, Sequencer.mk.injEq] at seq
  simp [gatesHold, ceilingGated, vpermGated, brakesGated, outputGated, runGated, originGated, locksGated, inState, isCar,
    isTerminal, role, seq, straps, line, vperm, brakes, generator]

theorem classHolds_congr {s t : State} (state : t.seq.state = s.seq.state) (cls : t.cls = s.cls) :
    classHolds t = classHolds s := by
  simp [classHolds, resting, inState, state, cls]

theorem recordsHold_congr {s t : State} (history : t.trips.history = s.trips.history)
    (serial : t.trips.nextSerial = s.trips.nextSerial) (origin : t.trips.origin = s.trips.origin)
    (store : t.loader.store = s.loader.store) (profile : t.loader.profile = s.loader.profile)
    (state : t.seq.state = s.seq.state) (speed : t.tracker.speed = s.tracker.speed)
    (load : t.tracker.load = s.tracker.load) (vperm : t.envelope.vperm = s.envelope.vperm) :
    recordsHold t = recordsHold s := by
  simp [recordsHold, historyBounded, serialsContinue, nextFollows, storeSound, fieldsFit, inState, history, serial, origin,
    store, profile, state, speed, load, vperm]

/-! ## Carrying the invariants on -/

/-- What leads from one state to another carries each of the three invariants on. -/
structure Kept (s t : State) : Prop where
  gates : gatesHold s = true → gatesHold t = true
  cls : classHolds s = true → classHolds t = true
  records : recordsHold s = true → recordsHold t = true

theorem Kept.refl (s : State) : Kept s s := ⟨id, id, id⟩

theorem Kept.trans {s t u : State} (first : Kept s t) (second : Kept t u) : Kept s u :=
  ⟨second.gates ∘ first.gates, second.cls ∘ first.cls, second.records ∘ first.records⟩

/-- Where nothing that the invariants read moves. -/
theorem Kept.of_same {s t : State} (seq : t.seq.gated = s.seq.gated) (straps : t.loader.straps = s.loader.straps)
    (store : t.loader.store = s.loader.store) (profile : t.loader.profile = s.loader.profile)
    (speed : t.tracker.speed = s.tracker.speed) (load : t.tracker.load = s.tracker.load)
    (vperm : t.envelope.vperm = s.envelope.vperm) (line : t.ceiling.line = s.ceiling.line)
    (generator : t.generator = s.generator) (brakes : t.brakes = s.brakes) (cls : t.cls = s.cls)
    (history : t.trips.history = s.trips.history) (serial : t.trips.nextSerial = s.trips.nextSerial)
    (origin : t.trips.origin = s.trips.origin) : Kept s t := by
  have state : t.seq.state = s.seq.state := by
    simp only [Sequencer.gated, Sequencer.mk.injEq] at seq
    exact seq.1
  exact ⟨(gatesHold_congr seq straps line vperm brakes generator).trans, (classHolds_congr state cls).trans,
    (recordsHold_congr history serial origin store profile state speed load vperm).trans⟩

/-! ## The class unit (R177 to R189) -/

theorem classHolds_iff (s : State) :
    classHolds s = true ↔
      (s.cls.cls = .dormant ↔ s.seq.state = .night)
      ∧ (s.cls.cls = .run ∨ s.cls.cls = .dormant ∨ resting s = true)
      ∧ s.cls.wake ≤ 3 ∧ s.cls.commit ≤ 3 ∧ (s.cls.commit = 0 ∨ s.seq.state = .night)
      ∧ (s.cls.sdRole = .none
        ∨ (s.seq.state = .dwell ∧ s.cls.sdId.isSome = true ∧ s.cls.sdDeadline.isSome = true)) := by
  simp only [classHolds, inState, Bool.and_eq_true, Bool.or_eq_true, decide_eq_true_eq, Bool.beq_eq_decide_eq,
    decide_eq_decide, and_assoc, or_assoc]

/-- A step at the Class Controller and the beacon marks alone. -/
theorem Kept.of_cls {s t : State} (fits : classHolds s = true → classHolds t = true) (seq : t.seq = s.seq)
    (loader : t.loader = s.loader) (tracker : t.tracker = s.tracker) (envelope : t.envelope = s.envelope)
    (ceiling : t.ceiling = s.ceiling) (generator : t.generator = s.generator) (brakes : t.brakes = s.brakes)
    (trips : t.trips = s.trips) : Kept s t := by
  refine ⟨(gatesHold_congr ?_ ?_ ?_ ?_ ?_ ?_).trans, fits, (recordsHold_congr ?_ ?_ ?_ ?_ ?_ ?_ ?_ ?_ ?_).trans⟩ <;>
    simp [*]

theorem kept_requestBeacon (s : State) : Kept s (requestBeacon s) := by
  apply Kept.of_same <;> simp

theorem kept_requestAnnounce (s : State) : Kept s (requestAnnounce s) := by
  apply Kept.of_same <;> simp

theorem kept_wakeTransmitter (s : State) : Kept s (wakeTransmitter s) := by
  apply Kept.of_same <;> simp

/-- A class that fits the state may be taken. -/
theorem kept_setClass {c : BeaconClass} {s : State} (dormant : c = .dormant ↔ s.seq.state = .night)
    (quiet : c = .run ∨ c = .dormant ∨ resting s = true) : Kept s (setClass c s) := by
  refine Kept.of_cls (fun fits => ?_) ?_ ?_ ?_ ?_ ?_ ?_ ?_ ?_
  · rw [classHolds_iff] at fits ⊢
    obtain ⟨-, -, wake, commit, ends, part⟩ := fits
    have still : resting (setClass c s) = resting s := by simp [resting, inState]
    rw [still, cls_setClass]
    unfold ClassUnit.set
    split
    next same => subst same; simp_all
    next changed => simp_all
  all_goals simp

theorem kept_endStandDown (o : StandDownOutcome) (s : State) : Kept s (endStandDown o s) := by
  refine Kept.of_cls (fun fits => ?_) ?_ ?_ ?_ ?_ ?_ ?_ ?_ ?_
  · rw [classHolds_iff] at fits ⊢
    have still : resting (endStandDown o s) = resting s := by simp [resting, inState]
    obtain ⟨dormant, quiet, wake, commit, ends, part⟩ := fits
    rw [still, cls_endStandDown]
    simp only [endStandDown_frame]
    unfold ClassUnit.endPart
    split
    · exact ⟨dormant, quiet, wake, commit, ends, part⟩
    · exact ⟨dormant, quiet, wake, commit, ends, .inl rfl⟩
  all_goals simp

theorem kept_restartSpell (s : State) : Kept s (restartSpell s) := by
  refine Kept.of_cls (fun fits => ?_) ?_ ?_ ?_ ?_ ?_ ?_ ?_ ?_
  · unfold restartSpell
    split
    · exact fits
    · exact fits
  all_goals simp

theorem kept_settleSpell (before s : State) : Kept s (settleSpell before s) := by
  refine Kept.of_cls (fun fits => ?_) ?_ ?_ ?_ ?_ ?_ ?_ ?_ ?_
  · unfold settleSpell
    (repeat' split) <;> exact fits
  all_goals simp

/-- A wake event gives class RUN, and it is not taken in NIGHT (R180). -/
theorem kept_wakeEvent (s : State) : Kept s (wakeEvent s) := by
  cases taken : wakes s with
  | false => rw [wakeEvent_of_not_wakes taken]; exact .refl s
  | true =>
    have awake : s.seq.state ≠ .night := by
      intro night
      simp [wakes, inState, night] at taken
    have woke : Kept s (wokenClass s) := by
      have counted : ∀ t : State, Kept t { t with cls.wake := 3 } := by
        intro t
        refine Kept.of_cls (fun fits => ?_) rfl rfl rfl rfl rfl rfl rfl rfl
        rw [classHolds_iff] at fits ⊢
        obtain ⟨dormant, quiet, -, rest⟩ := fits
        exact ⟨dormant, quiet, le_refl 3, rest⟩
      refine .trans (kept_setClass (c := .run) (by simp [awake]) (.inl rfl)) ?_
      exact .trans (kept_endStandDown .cancelled _) (.trans (kept_restartSpell _) (counted _))
    rw [wakeEvent_of_wakes taken]
    split
    · exact woke.trans (kept_requestBeacon _)
    · exact woke

/-! ## Brake units (R158) -/

/-- A step at the brake units alone, which lifts none where every unit is to be APPLIED. -/
theorem Kept.of_brakes {s t : State}
    (applied : inRun s = true ∨ (allApplied s.brakes = true → allApplied t.brakes = true))
    (seq : t.seq.gated = s.seq.gated) (loader : t.loader = s.loader) (tracker : t.tracker = s.tracker)
    (envelope : t.envelope = s.envelope) (line : t.ceiling.line = s.ceiling.line) (generator : t.generator = s.generator)
    (trips : t.trips = s.trips) (cls : t.cls = s.cls) : Kept s t := by
  have state : t.seq.state = s.seq.state := by
    simp only [Sequencer.gated, Sequencer.mk.injEq] at seq
    exact seq.1
  refine ⟨fun holds => ?_, (classHolds_congr state cls).trans, (recordsHold_congr ?_ ?_ ?_ ?_ ?_ state ?_ ?_ ?_).trans⟩
  · have other : gatesHold t = (gatesHold { s with brakes := t.brakes }) :=
      gatesHold_congr seq (by rw [loader]) line (by rw [envelope]) rfl generator
    rw [other]
    simp only [gatesHold, Bool.and_eq_true] at holds ⊢
    obtain ⟨⟨⟨⟨⟨⟨ceiling, vperm⟩, brakes⟩, output⟩, run⟩, origin⟩, locks⟩ := holds
    refine ⟨⟨⟨⟨⟨⟨ceiling, vperm⟩, ?_⟩, output⟩, run⟩, origin⟩, locks⟩
    simp only [brakesGated, inRun, Bool.or_eq_true] at brakes applied ⊢
    change (((inState s .armed = true ∨ inState s .running = true) ∨ inState s .stopping = true)
      ∨ allApplied t.brakes = true)
    tauto
  all_goals simp [*]

theorem allApplied_put {k : Brakes} (b : BrakeId) {u : BrakeUnit} (all : allApplied k = true) (unit : u.state = .applied) :
    allApplied (k.put b u) = true := by
  cases b <;> simp_all [allApplied, Brakes.put]

theorem kept_dropBrake (b : BrakeId) (s : State) : Kept s (dropBrake b s) := by
  refine Kept.of_brakes (.inr fun all => ?_) ?_ ?_ ?_ ?_ ?_ ?_ ?_ ?_
  · rw [dropBrake_brakes]
    exact allApplied_put b all (dropUnit_state _ _)
  all_goals simp

theorem kept_liftBrake (b : BrakeId) (s : State) : Kept s (liftBrake b s) := by
  refine Kept.of_brakes ?_ ?_ ?_ ?_ ?_ ?_ ?_ ?_ ?_
  · rw [liftBrake_brakes]
    split
    next lifts =>
      simp only [Bool.and_eq_true, Bool.or_eq_true] at lifts
      exact .inl (by simp only [inRun, Bool.or_eq_true]; tauto)
    next stays => exact .inr id
  all_goals simp

/-! ## The line ceiling (R106, R118) -/

/-- A step at the ceiling and its output alone: outside RUNNING a line ceiling of 0 stays, and at 0 no output begins. -/
theorem Kept.of_ceiling {s t : State}
    (gated : s.ceiling.line = 0 → s.seq.state ≠ .running → t.ceiling.line = 0)
    (output : t.ceiling.line = 0 → t.generator = Generator.stopped ∨ (s.ceiling.line = 0 ∧ t.generator = s.generator))
    (seq : t.seq = s.seq) (loader : t.loader = s.loader) (tracker : t.tracker = s.tracker)
    (envelope : t.envelope = s.envelope) (brakes : t.brakes = s.brakes) (trips : t.trips = s.trips)
    (cls : t.cls = s.cls) : Kept s t := by
  refine ⟨fun holds => ?_, (classHolds_congr ?_ cls).trans, (recordsHold_congr ?_ ?_ ?_ ?_ ?_ ?_ ?_ ?_ ?_).trans⟩
  · have other : gatesHold t = (gatesHold { s with ceiling.line := t.ceiling.line, generator := t.generator }) :=
      gatesHold_congr (by rw [seq]) (by rw [loader]) rfl (by rw [envelope]) brakes rfl
    rw [other]
    simp only [gatesHold, Bool.and_eq_true] at holds ⊢
    obtain ⟨⟨⟨⟨⟨⟨ceiling, vperm⟩, applied⟩, out⟩, run⟩, origin⟩, locks⟩ := holds
    refine ⟨⟨⟨⟨⟨⟨?_, vperm⟩, applied⟩, ?_⟩, run⟩, origin⟩, locks⟩
    · simp only [ceilingGated, inState, Bool.or_eq_true, beq_iff_eq] at ceiling ⊢
      tauto
    · simp only [outputGated, Bool.or_eq_true, bne_iff_ne, beq_iff_eq] at out ⊢
      by_cases zero : t.ceiling.line = 0
      · obtain stopped | ⟨was, same⟩ := output zero
        · exact .inr stopped
        · exact .inr (same.trans (out.resolve_left (not_not.mpr was)))
      · exact .inl zero
  all_goals simp [*]

theorem kept_setLine {v : Nat} {s : State} (gated : s.seq.state ≠ .running → v = 0) : Kept s (setLine v s) := by
  refine Kept.of_ceiling ?_ ?_ ?_ ?_ ?_ ?_ ?_ ?_ ?_
  · intro _ rests
    rw [setLine_line, gated rests]
  · intro zero
    rw [setLine_line] at zero
    rw [setLine_generator]
    split
    · exact .inl rfl
    · exact .inr ⟨by simp_all, rfl⟩
  all_goals simp

theorem kept_formCeiling (s : State) : Kept s (formCeiling s) := kept_setLine formedCeiling_of_not_running

theorem kept_startCommsStop (v : Nat) (s : State) : Kept s (startCommsStop v s) := by
  unfold startCommsStop
  split
  · refine .trans ?_ (kept_formCeiling _)
    apply Kept.of_same <;> rfl
  · exact .refl s

/-! ## Entering a node state (R120 to R123) -/

theorem runGated_enterState (n : NodeState) (s : State) : runGated (enterState n s) = true := by
  unfold runGated inState
  cases n with
  | dwell => simp [enterState_seq_dwell, enterSequencer]
  | _ => simp [enterState_seq_of_not_dwell, enterSequencer]

/-- The origin state outlives only the entry to ARMED, which takes it from DWELL or HOLD (R120, R122). -/
theorem originGated_enterState {n : NodeState} {s : State}
    (arms : n = .armed → s.seq.origin = some .dwell ∨ s.seq.origin = some .hold) :
    originGated (enterState n s) = true := by
  unfold originGated inState
  cases n with
  | dwell => simp [enterState_seq_dwell, enterSequencer]
  | armed => simpa [enterState_seq_of_not_dwell, enterSequencer] using arms rfl
  | _ => simp [enterState_seq_of_not_dwell, enterSequencer]

theorem locksGated_enterState (n : NodeState) (s : State) : locksGated (enterState n s) = true := by
  unfold locksGated
  rw [isCar_congr (s := s) (by simp), isTerminal_congr (s := s) (by simp)]
  cases n with
  | dwell =>
    cases profile : s.loader.profile with
    | none => simp [inState, enterState_seq_dwell, enterSequencer, profile]
    | some p =>
      cases car : isCar s <;> cases aligned : misalignedAt s.seq.state p s <;>
        simp [inState, enterState_seq_dwell, enterSequencer, profile, doorOpensAt, car, aligned]
  | _ => simp [inState, enterState_seq_of_not_dwell, enterSequencer]

theorem allApplied_enterState {n : NodeState} (s : State) (rest : n ≠ .armed ∧ n ≠ .running ∧ n ≠ .stopping) :
    allApplied (enterState n s).brakes = true := by
  rw [enterState_brakes_of_rest s rest, allApplied_dropped]

/-- Every entry leaves the gates of its state, whatever stood before. -/
theorem gatesHold_enterState {n : NodeState} {s : State}
    (arms : n = .armed → s.seq.origin = some .dwell ∨ s.seq.origin = some .hold) :
    gatesHold (enterState n s) = true := by
  have ceiling : ceilingGated (enterState n s) = true := by
    by_cases running : n = .running
    · simp [ceilingGated, inState, running]
    · simp [ceilingGated, enterState_line_of_not_running s running]
  have vperm : vpermGated (enterState n s) = true := by
    by_cases running : n = .running <;> simp [vpermGated, inState, running]
  have brakes : brakesGated (enterState n s) = true := by
    by_cases rest : n ≠ .armed ∧ n ≠ .running ∧ n ≠ .stopping
    · simp [brakesGated, allApplied_enterState s rest]
    · simp only [brakesGated, inState, enterState_state, Bool.or_eq_true, beq_iff_eq]
      tauto
  have output : outputGated (enterState n s) = true := by
    rw [outputGated, enterState_generator]
    by_cases zero : (enterState n s).ceiling.line = 0 <;> simp [zero]
  simp only [gatesHold, ceiling, vperm, brakes, output, runGated_enterState, originGated_enterState arms,
    locksGated_enterState, Bool.and_self]

/-- The class unit after an entry fits the state entered. -/
theorem classHolds_enterState {n : NodeState} {s : State} (fits : classHolds s = true)
    (ended : n = .night → s.seq.state = .dwell → s.cls.sdRole = .none)
    (left : s.seq.state = .night → n ≠ .dwell ∧ n ≠ .hold) : classHolds (enterState n s) = true := by
  rw [classHolds_iff] at fits ⊢
  obtain ⟨dormant, quiet, wake, commit, ends, part⟩ := fits
  obtain ⟨wakes, commits⟩ := ClassUnit.entered_counts s.seq.state n s.time.now s.cls
  rw [enterState_cls, enterState_state, ClassUnit.entered_cls, ClassUnit.entered_sdRole, wakes, commits]
  simp only [resting, inState, enterState_state]
  have noPart : s.seq.state ≠ .dwell → s.cls.sdRole = .none := fun other => part.resolve_right (other ·.1)
  refine ⟨?_, ?_, wake, ?_, .inl ?_, .inl ?_⟩
  · split
    next night => simp [night]
    next awake =>
      split
      next rests =>
        have other : s.seq.state ≠ .night := fun night => by have := left night; tauto
        simp [awake, dormant, other]
      next runs => simp [awake]
  · (repeat' split) <;> simp_all
  · split <;> simp_all
  · split <;> simp_all
  · split
    next rose => rfl
    next stays =>
      by_cases dwell : s.seq.state = .dwell
      · exact ended (by_contra fun other => stays ⟨dwell, other⟩) dwell
      · exact noPart dwell

/-! ## The records (R174, R175) -/

/-- The trip history is well formed and the next serial continues it. -/
def TripUnit.sound (t : TripUnit) : Prop :=
  t.history.length ≤ 8 ∧ serialsRise t.history = true ∧ nextFollows t = true ∧ 1 ≤ t.nextSerial ∧ t.nextSerial ≤ 65535

/-- A profile whose parameters and node count frames can carry. -/
def Profile.fits (p : Profile) : Bool := rangesHold p && decide (p.nodes.length ≤ 255)

theorem recordsHold_iff (s : State) :
    recordsHold s = true ↔
      s.trips.sound ∧ Store.wf s.loader.store = true ∧ s.loader.profile.all Profile.fits = true
      ∧ (s.loader.profile.isSome = true ∨ s.seq.state = .starting ∨ s.seq.state = .faulted)
      ∧ s.tracker.speed ≤ 1400 ∧ s.envelope.vperm ≤ 1400 ∧ s.tracker.load.getD 0 ≤ 20000
      ∧ s.trips.origin.all (fun o => decide (causeCode o.2 ≤ 12)) = true := by
  have fits : (fun p => rangesHold p && decide (p.nodes.length ≤ 255)) = Profile.fits := rfl
  have bounded : historyBounded s = true ↔ s.trips.history.length ≤ 8 := by
    rw [historyBounded, decide_eq_true_iff]
    rfl
  simp only [recordsHold, bounded, serialsContinue, storeSound, fieldsFit, fits, TripUnit.sound, inState,
    Bool.and_eq_true, Bool.or_eq_true, decide_eq_true_eq, beq_iff_eq, or_assoc]
  tauto

theorem nextSerialAfter_range (n : Nat) : 1 ≤ nextSerialAfter n ∧ nextSerialAfter n ≤ 65535 := by
  unfold nextSerialAfter
  split <;> omega

/-- A record that takes the next serial continues the list. -/
theorem serialsRise_append {l : List TripRecord} {r : TripRecord} (rise : serialsRise l = true)
    (next : l.getLast?.all (fun q => r.serial == nextSerialAfter q.serial) = true) :
    serialsRise (l ++ [r]) = true := by
  induction l with
  | nil => rfl
  | cons a l ih =>
    cases l with
    | nil => simpa [serialsRise] using next
    | cons b l =>
      simp only [serialsRise, Bool.and_eq_true, decide_eq_true_eq, List.cons_append] at rise ⊢
      exact ⟨rise.1, ih rise.2 (by simpa using next)⟩

theorem serialsRise_drop_one {l : List TripRecord} (rise : serialsRise l = true) : serialsRise (l.drop 1) = true := by
  match l, rise with
  | [], _ => rfl
  | [_], _ => rfl
  | _ :: _ :: _, rise => simp_all [serialsRise]

theorem getLast?_drop_one {l : List TripRecord} {q : TripRecord} (last : (l.drop 1).getLast? = some q) :
    l.getLast? = some q := by
  cases l with
  | nil => simp at last
  | cons a l => cases l <;> simp_all

theorem appendRecord_history (r : TripRecord) (s : State) :
    (appendRecord r s).trips.history = keptRecords s ++ [r] := rfl

/-- The history after a record that takes the next serial is well formed (R175). -/
theorem sound_appendRecord {r : TripRecord} {s : State} (sound : s.trips.sound)
    (serial : r.serial = s.trips.nextSerial) : (appendRecord r s).trips.sound := by
  obtain ⟨bounded, rise, follows, -, -⟩ := sound
  simp only [nextFollows, Option.all_eq_true, beq_iff_eq] at follows
  obtain ⟨least, most⟩ := nextSerialAfter_range s.trips.nextSerial
  have kept : (keptRecords s).length ≤ 7 ∧ serialsRise (keptRecords s) = true
      ∧ ∀ q, (keptRecords s).getLast? = some q → s.trips.history.getLast? = some q := by
    unfold keptRecords
    split
    · exact ⟨by simp only [List.length_drop]; omega, serialsRise_drop_one rise, fun _ => getLast?_drop_one⟩
    · exact ⟨by omega, rise, fun _ => id⟩
  obtain ⟨room, keptRise, newest⟩ := kept
  refine ⟨?_, ?_, ?_, least, most⟩
  · simp only [appendRecord_history, List.length_append, List.length_singleton]
    omega
  · refine serialsRise_append keptRise ?_
    simp only [Option.all_eq_true, beq_iff_eq, serial]
    exact fun q last => follows q (newest q last)
  · simp [nextFollows, appendRecord, serial]

theorem recordsHold_enterState {n : NodeState} {s : State} (holds : recordsHold s = true)
    (loaded : n = .faulted ∨ s.loader.profile.isSome = true ∨ inService s = true) :
    recordsHold (enterState n s) = true := by
  rw [recordsHold_iff] at holds ⊢
  obtain ⟨trips, store, profile, started, speed, vperm, load, origin⟩ := holds
  rw [enterState_state, enterState_vperm]
  simp only [enterState_frame, enterState_tracker_frame]
  refine ⟨trips, store, profile, ?_, speed, ?_, load, origin⟩
  · simp only [inService, inState, Bool.not_eq_true', Bool.or_eq_false_iff, beq_eq_false_iff_ne] at loaded
    tauto
  · split <;> omega

end Sys2Proof.Machine
end

section
/-! PROOF. Entries, trips and the operations of the blocks carry the three invariants on. -/

namespace Sys2Proof.Machine

/-! ## Entries and trips -/

theorem inService_iff (s : State) : inService s = true ↔ s.seq.state ≠ .starting ∧ s.seq.state ≠ .faulted := by
  simp [inService, inState]

theorem standingTest_rests (s : State) : standingTest s = .dwell ∨ standingTest s = .hold := by
  unfold standingTest
  (repeat' split) <;> simp

/-- An entry from a state that carries class and records on: the entry itself sets every gate. -/
theorem Kept.of_enter {n : NodeState} {s t : State} (cls : classHolds s = true → classHolds t = true)
    (records : recordsHold s = true → recordsHold t = true)
    (arms : n = .armed → t.seq.origin = some .dwell ∨ t.seq.origin = some .hold)
    (ended : n = .night → t.seq.state = .dwell → t.cls.sdRole = .none)
    (left : t.seq.state = .night → n ≠ .dwell ∧ n ≠ .hold)
    (loaded : n = .faulted ∨ t.loader.profile.isSome = true ∨ inService t = true) : Kept s (enterState n t) :=
  ⟨fun _ => gatesHold_enterState arms, fun fits => classHolds_enterState (cls fits) ended left,
    fun holds => recordsHold_enterState (records holds) loaded⟩

/-- The entries that leave no run, no NIGHT and no part behind. -/
theorem kept_enterState {n : NodeState} {s : State} (arms : n ≠ .armed) (awake : n ≠ .night)
    (left : s.seq.state = .night → n ≠ .dwell ∧ n ≠ .hold)
    (loaded : n = .faulted ∨ s.loader.profile.isSome = true ∨ inService s = true) : Kept s (enterState n s) :=
  .of_enter id id (absurd · arms) (absurd · awake) left loaded

/-- A node in service that was not in NIGHT comes to rest by the standing test. -/
theorem kept_enterState_standingTest {s u : State} (service : inService s = true) (awake : s.seq.state ≠ .night) :
    Kept s (enterState (standingTest u) s) := by
  apply kept_enterState
  · rcases standingTest_rests u with h | h <;> simp [h]
  · rcases standingTest_rests u with h | h <;> simp [h]
  · exact (absurd · awake)
  · exact .inr (.inr service)

/-- A step at the Trip Unit alone. -/
theorem Kept.of_trips {s t : State} (sound : s.trips.sound → t.trips.sound)
    (origin : s.trips.origin.all (fun o => decide (causeCode o.2 ≤ 12)) = true →
      t.trips.origin.all (fun o => decide (causeCode o.2 ≤ 12)) = true)
    (seq : t.seq.gated = s.seq.gated) (loader : t.loader = s.loader) (tracker : t.tracker = s.tracker)
    (envelope : t.envelope = s.envelope) (ceiling : t.ceiling = s.ceiling) (generator : t.generator = s.generator)
    (brakes : t.brakes = s.brakes) (cls : t.cls = s.cls) : Kept s t := by
  have state : t.seq.state = s.seq.state := by
    simp only [Sequencer.gated, Sequencer.mk.injEq] at seq
    exact seq.1
  refine ⟨(gatesHold_congr seq ?_ ?_ ?_ brakes generator).trans, (classHolds_congr state cls).trans, fun holds => ?_⟩
  · rw [loader]
  · rw [ceiling]
  · rw [envelope]
  · rw [recordsHold_iff] at holds ⊢
    obtain ⟨trips, store, profile, started, speed, vperm, load, shown⟩ := holds
    rw [loader, state, tracker, envelope]
    exact ⟨sound trips, store, profile, started, speed, vperm, load, origin shown⟩

/-- The state with an own cause recorded, as a first cause or as a secondary one (R165, R166). -/
def causeRecorded (c : Cause) (secondary : Bool) (s : State) : State :=
  { s with trips :=
      { (appendRecord (tripRecord s c secondary none s.seq.state) s).trips with
        own := addCause c s.trips.own
        primary := if secondary then s.trips.primary else some c } }

/-- The state with a peer trip recorded, as a first cause or as a secondary one (R168). -/
def peerTripRecorded (id : NodeId) (c : Cause) (secondary : Bool) (s : State) : State :=
  { s with trips :=
      { (appendRecord (tripRecord s .peerTrip secondary (some (id, c)) s.seq.state) s).trips with
        origin := some (id, c)
        primary := if secondary then s.trips.primary else some .peerTrip } }

theorem raiseCause_of_not_inService {c : Cause} {s : State} (off : inService s = false) : raiseCause c s = s := by
  unfold raiseCause
  cases state : s.seq.state <;> simp_all [inService, inState]

theorem raiseCause_of_tripped {c : Cause} {s : State} (tripped : s.seq.state = .tripped) :
    raiseCause c s = causeRecorded c true s := by
  simp only [raiseCause, causeRecorded, tripped]
  rfl

theorem raiseCause_of_trips {c : Cause} {s : State} (service : inService s = true) (other : s.seq.state ≠ .tripped) :
    raiseCause c s = enterState .tripped (causeRecorded c false s) := by
  rw [inService_iff] at service
  unfold raiseCause causeRecorded
  split
  next starting => exact absurd starting service.1
  next faulted => exact absurd faulted service.2
  next tripped => exact absurd tripped other
  next => rfl

theorem raisePeerTrip_of_tripped {id : NodeId} {c : Cause} {s : State} (tripped : s.seq.state = .tripped) :
    raisePeerTrip id c s = peerTripRecorded id c true s := by
  simp only [raisePeerTrip, inState, peerTripRecorded, tripped]
  rfl

theorem raisePeerTrip_of_trips {id : NodeId} {c : Cause} {s : State} (other : s.seq.state ≠ .tripped) :
    raisePeerTrip id c s = enterState .tripped (peerTripRecorded id c false s) := by
  simp only [raisePeerTrip, inState, beq_eq_false_iff_ne.mpr other]
  rfl

theorem kept_causeRecorded (c : Cause) (secondary : Bool) (s : State) : Kept s (causeRecorded c secondary s) := by
  refine .of_trips (fun sound => ?_) id rfl rfl rfl rfl rfl rfl rfl rfl
  exact sound_appendRecord (r := tripRecord s c secondary none s.seq.state) sound rfl

theorem kept_peerTripRecorded {id : NodeId} {c : Cause} (secondary : Bool) (s : State) (own : causeCode c ≤ 12) :
    Kept s (peerTripRecorded id c secondary s) := by
  refine .of_trips (fun sound => ?_) (fun _ => by simpa [peerTripRecorded] using own) rfl rfl rfl rfl rfl rfl rfl rfl
  exact sound_appendRecord (r := tripRecord s .peerTrip secondary (some (id, c)) s.seq.state) sound rfl

theorem kept_raiseCause (c : Cause) (s : State) : Kept s (raiseCause c s) := by
  by_cases service : inService s = true
  · by_cases tripped : s.seq.state = .tripped
    · rw [raiseCause_of_tripped tripped]
      exact kept_causeRecorded c true s
    · rw [raiseCause_of_trips service tripped]
      exact (kept_causeRecorded c false s).trans
        (kept_enterState (by simp) (by simp) (by simp) (.inr (.inr service)))
  · rw [raiseCause_of_not_inService (by simpa using service)]
    exact .refl s

theorem kept_raisePeerTrip {id : NodeId} {c : Cause} {s : State} (service : inService s = true)
    (own : causeCode c ≤ 12) : Kept s (raisePeerTrip id c s) := by
  by_cases tripped : s.seq.state = .tripped
  · rw [raisePeerTrip_of_tripped tripped]
    exact kept_peerTripRecorded true s own
  · rw [raisePeerTrip_of_trips tripped]
    exact (kept_peerTripRecorded false s own).trans
      (kept_enterState (by simp) (by simp) (by simp) (.inr (.inr service)))

theorem kept_leaveTripped {s : State} (tripped : s.seq.state = .tripped) : Kept s (leaveTripped s) := by
  refine .trans (Kept.of_same ?_ ?_ ?_ ?_ ?_ ?_ ?_ ?_ ?_ ?_ ?_ ?_ ?_ ?_) (kept_enterState_standingTest ?_ ?_)
  all_goals simp [inService, inState, tripped]

/-- The state recorded for FAULTED: the trip state emptied, the cause held (R173). -/
theorem kept_enterFaulted (c : Cause) (s : State) : Kept s (enterFaulted c s) := by
  refine .trans (Kept.of_trips (fun sound => ?_) ?_ ?_ ?_ ?_ ?_ ?_ ?_ ?_ ?_)
    (kept_enterState (by simp) (by simp) (by simp) (.inl rfl))
  · exact sound_appendRecord
      (r := tripRecord { s with seq.state := .faulted } c (inState s .tripped) none s.seq.state) sound rfl
  all_goals simp [Sequencer.gated]

end Sys2Proof.Machine
end

section
/-! PROOF. The blocks that act on runs, trips, classes, brakes and peers carry the three invariants on. -/

namespace Sys2Proof.Machine

/-! ## Run Sequencer -/

/-- A step that changes only run fields of a node in ARMED, its origin state apart. -/
theorem Kept.of_armed_fields {s t : State} (armed : s.seq.state = .armed) (state : t.seq.state = .armed)
    (origin : t.seq.origin = s.seq.origin) (misaligned : t.seq.misaligned = s.seq.misaligned)
    (door : t.seq.doorRelease = s.seq.doorRelease) (gate : t.seq.gateRelease = s.seq.gateRelease)
    (same : t = { s with seq := t.seq }) : Kept s t := by
  refine ⟨fun holds => ?_, (classHolds_congr (state.trans armed.symm) ?_).trans,
    (recordsHold_congr ?_ ?_ ?_ ?_ ?_ (state.trans armed.symm) ?_ ?_ ?_).trans⟩
  · rw [same]
    simp only [gatesHold, ceilingGated, vpermGated, brakesGated, outputGated, runGated, originGated, locksGated, inState,
      isCar, isTerminal, role, armed, state, origin, misaligned, door, gate] at holds ⊢
    simpa using holds
  all_goals rw [same]

theorem kept_takeRun {run : RunNo} {dir : Direction} {leg : Option (Fin 5)} {recovery dispatcher : Bool} {source : NodeId}
    {p : Profile} {s : State} (armed : s.seq.state = .armed) :
    Kept s (takeRun run dir leg recovery dispatcher source p s) :=
  .of_armed_fields armed armed rfl rfl rfl rfl rfl

/-- A node at rest that takes a run and enters ARMED keeps its state as the origin (R128, R129). -/
theorem kept_arm {run : RunNo} {dir : Direction} {leg : Option (Fin 5)} {recovery dispatcher : Bool} {source : NodeId}
    {p : Profile} {s : State} (rests : resting s = true) :
    Kept s (arm (takeRun run dir leg recovery dispatcher source p s)) := by
  have state : s.seq.state = .dwell ∨ s.seq.state = .hold := by simpa [resting, inState] using rests
  apply Kept.of_enter
  · exact (classHolds_congr rfl rfl).trans
  · exact (recordsHold_congr rfl rfl rfl rfl rfl rfl rfl rfl rfl).trans
  · intro _
    rcases state with h | h
    · exact .inl (congrArg some h)
    · exact .inr (congrArg some h)
  · simp
  · simp
  · refine .inr (.inr ?_)
    rw [inService_iff]
    rcases state with h | h <;> simp [takeRun, h]

/-- In ARMED the origin state is one of rest, which the gates hold. -/
theorem kept_leaveArmed {s : State} (armed : s.seq.state = .armed) : Kept s (leaveArmed s) := by
  refine ⟨fun holds => gatesHold_enterState fun arms => ?_, fun fits => classHolds_enterState fits ?_ ?_,
    fun holds => recordsHold_enterState holds (.inr (.inr ?_))⟩
  · have origin : originGated s = true := by simp only [gatesHold, Bool.and_eq_true] at holds; tauto
    have resting : s.seq.origin = some .dwell ∨ s.seq.origin = some .hold := by
      simpa [originGated, inState, armed] using origin
    exact resting
  · simp [armed]
  · simp [armed]
  · simp [inService_iff, armed]

theorem kept_judgeConsent (s : State) : Kept s (judgeConsent s) := by
  unfold judgeConsent
  split
  next leaves =>
    simp only [inState, Bool.and_eq_true, beq_iff_eq] at leaves
    exact kept_leaveArmed leaves.1
  next stays => exact .refl s

theorem kept_stage (stage : StartStage) (s : State) : Kept s { s with seq.stage := stage } := by
  apply Kept.of_same <;> rfl

theorem kept_judgeLineStart (s : State) : Kept s (judgeLineStart s) := by
  unfold judgeLineStart
  dsimp only
  (repeat' split)
  · exact (kept_liftBrake .eb s).trans (kept_stage _ _)
  · exact .refl s
  · exact .refl s
  · exact ((kept_dropBrake .eb s).trans (kept_dropBrake .sb _)).trans (kept_stage _ _)
  · exact .refl s

theorem kept_stageLifted (b : BrakeId) (s : State) : Kept s (stageLifted b s) := by
  have judged := kept_judgeLineStart s
  unfold stageLifted
  dsimp only
  split
  next starts =>
    simp only [inState, Bool.and_eq_true, beq_iff_eq] at starts
    split
    · exact judged.trans ((kept_liftBrake .sb _).trans (kept_stage _ _))
    · refine judged.trans (kept_enterState (by simp) (by simp) (by simp) (.inr (.inr ?_)))
      simp [inService_iff, starts]
    · exact judged
  next stays => exact judged

theorem kept_refusePress (s : State) : Kept s (refusePress s) := by
  apply Kept.of_same <;> rfl

theorem kept_dispatch (dir : RunDir) (s : State) : Kept s (dispatch dir s) := by
  unfold dispatch
  split
  · exact kept_refusePress s
  · split
    next accepted =>
      simp only [pressAccepted, Bool.and_eq_true] at accepted
      exact kept_arm accepted.1.1.2
    next refused => exact kept_refusePress s

theorem kept_adopt {src : NodeId} {r : BeaconRec} {p : Profile} {s : State} (rests : resting s = true) :
    Kept s (adopt src r p s) := by
  unfold adopt
  split
  · exact kept_arm rests
  · exact .refl s

theorem kept_dispatchInArmed {src : NodeId} {r : BeaconRec} {p : Profile} {s : State} (armed : s.seq.state = .armed) :
    Kept s (dispatchInArmed src r p s) := by
  unfold dispatchInArmed replaceProposal moveToNewer
  dsimp only
  (repeat' split)
  · exact kept_takeRun armed
  · exact (kept_takeRun armed).trans (kept_requestBeacon _)
  · exact (kept_takeRun armed).trans (kept_leaveArmed armed)
  · exact .refl s
  · exact (kept_takeRun armed).trans (kept_requestBeacon _)
  · exact kept_leaveArmed armed
  · exact .refl s

theorem kept_followRunning {r : BeaconRec} {s : State} (armed : s.seq.state = .armed) : Kept s (followRunning r s) := by
  unfold followRunning
  (repeat' split)
  · exact kept_enterState (by simp) (by simp) (by simp) (.inr (.inr (by simp [inService_iff, armed])))
  · refine .trans ?_ (kept_enterState (by simp) (by simp) (by simp) (.inr (.inr (by simp [inService_iff, armed]))))
    exact .of_armed_fields armed armed rfl rfl rfl rfl rfl
  · exact kept_leaveArmed armed

theorem kept_enterStopping {s : State} (running : s.seq.state = .running) : Kept s (enterStopping s) := by
  have stops : Kept s (enterState .stopping s) :=
    kept_enterState (by simp) (by simp) (by simp) (.inr (.inr (by simp [inService_iff, running])))
  unfold enterStopping
  dsimp only
  split
  · exact stops.trans (kept_enterState (by simp) (by simp) (by simp) (.inr (.inr (by simp [inService_iff]))))
  · exact stops

theorem kept_dwell {s : State} (stopping : s.seq.state = .stopping) : Kept s (enterState .dwell s) :=
  kept_enterState (by simp) (by simp) (by simp [stopping]) (.inr (.inr (by simp [inService_iff, stopping])))

theorem kept_driveDwell (s : State) : Kept s (driveDwell s) := by
  unfold driveDwell
  split
  next rests =>
    simp only [inState, Bool.and_eq_true, beq_iff_eq] at rests
    exact kept_dwell rests.1.1.2
  next moves => exact .refl s

theorem kept_carDwell (s : State) : Kept s (carDwell s) := by
  unfold carDwell
  dsimp only
  split
  next rests =>
    simp only [inState, Bool.and_eq_true, beq_iff_eq] at rests
    exact kept_dwell rests.1.1.2
  next moves => exact .refl s

theorem kept_judgeDoor (s : State) : Kept s (judgeDoor s) := by
  unfold judgeDoor
  split
  · exact .refl s
  · split
    next opens =>
      simp only [Bool.and_eq_true, Bool.not_eq_true'] at opens
      obtain ⟨⟨⟨⟨⟨car, dwell⟩, aligned⟩, -⟩, -⟩, -⟩ := opens
      refine ⟨fun holds => ?_, (classHolds_congr rfl rfl).trans,
        (recordsHold_congr rfl rfl rfl rfl rfl rfl rfl rfl rfl).trans⟩
      simp only [gatesHold, Bool.and_eq_true] at holds ⊢
      obtain ⟨rest, locks⟩ := holds
      refine ⟨rest, ?_⟩
      simp only [locksGated, Bool.and_eq_true] at locks ⊢
      obtain ⟨⟨-, misaligned⟩, gate⟩ := locks
      refine ⟨⟨?_, misaligned⟩, gate⟩
      have stands : (isCar s && inState s .dwell && !s.seq.misaligned) = true := by simp [car, dwell, aligned]
      exact stands
    next stays => exact .refl s

theorem kept_sequencerTick (s : State) : Kept s (sequencerTick s) := by
  unfold sequencerTick
  dsimp only
  generalize seen : (if isCar s && moving s && !doorShut s then raiseCause .doorOpen s else s) = t
  have tripped : Kept s t := by
    rw [← seen]
    split
    · exact kept_raiseCause _ s
    · exact .refl s
  refine tripped.trans ?_
  split
  next armed => exact (kept_judgeConsent t).trans (kept_judgeLineStart _)
  next running =>
    (repeat' split)
    · exact kept_enterStopping running
    · exact kept_enterState_standingTest (by simp [inService_iff, running]) (by simp [running])
    · exact .refl t
  next stopping => exact (kept_driveDwell t).trans (kept_carDwell _)
  next => exact .refl t

theorem kept_sequencerWork (s : State) : Kept s (sequencerWork s) := by
  unfold sequencerWork
  split
  · exact kept_sequencerTick s
  · exact .refl s

theorem kept_sequencerSignal (e : Entry) (s : State) : Kept s (sequencerSignal e s) := by
  have judged := (kept_judgeConsent s).trans (kept_judgeLineStart _)
  unfold sequencerSignal
  dsimp only
  split
  · exact judged.trans (kept_judgeDoor _)
  · exact judged

theorem kept_beaconInArmed {e : Entry} {r : BeaconRec} {p : Profile} {s : State} (armed : s.seq.state = .armed) :
    Kept s (beaconInArmed e r p s) := by
  unfold beaconInArmed
  dsimp only
  generalize taken : (if r.dispatch then dispatchInArmed e.id r p s else s) = t
  have first : Kept s t := by
    rw [← taken]
    split
    · exact kept_dispatchInArmed armed
    · exact .refl s
  split
  next runs =>
    simp only [inState, Bool.and_eq_true, beq_iff_eq] at runs
    exact first.trans (kept_followRunning runs.1.1.2)
  next stays => exact first.trans (kept_judgeLineStart t)

theorem kept_sequencerBeacon (e : Entry) (r : BeaconRec) (s : State) : Kept s (sequencerBeacon e r s) := by
  unfold sequencerBeacon
  split
  · exact .refl s
  next p _ =>
    split
    next dwell =>
      dsimp only
      generalize judged : (if e.role == .loop then judgeDoor s else s) = t
      have door : Kept s t ∧ t.seq.state = .dwell := by
        rw [← judged]
        split
        · refine ⟨kept_judgeDoor s, ?_⟩
          unfold judgeDoor
          (repeat' split) <;> exact dwell
        · exact ⟨.refl s, dwell⟩
      split
      · exact door.1.trans (kept_adopt (by simp [resting, inState, door.2]))
      · exact door.1
    next hold =>
      split
      · exact kept_adopt (by simp [resting, inState, hold])
      · exact .refl s
    next armed => exact kept_beaconInArmed armed
    next running =>
      split
      · exact kept_enterStopping running
      · exact .refl s
    next stopping =>
      split
      · exact kept_dwell stopping
      · exact .refl s
    next => exact .refl s

/-! ## Trip Unit -/

theorem kept_judgeClear (s : State) : Kept s (judgeClear s) := by
  have cleared : Kept s { s with trips.origin := none } :=
    .of_trips id (fun _ => rfl) rfl rfl rfl rfl rfl rfl rfl rfl
  unfold judgeClear
  dsimp only
  split
  · split
    next leaves =>
      simp only [inState, Bool.and_eq_true, beq_iff_eq] at leaves
      exact cleared.trans (kept_leaveTripped leaves.2)
    next stays => exact cleared
  · exact .refl s

theorem kept_tripBeacon (e : Entry) (r : BeaconRec) (s : State) : Kept s (tripBeacon e r s) := by
  unfold tripBeacon
  dsimp only
  refine .trans ?_ (kept_judgeClear _)
  split
  next trips =>
    split
    · exact .refl s
    · split
      next own =>
        simp only [Bool.and_eq_true] at trips
        simp only [ownCause, Bool.and_eq_true, decide_eq_true_eq] at own
        exact kept_raisePeerTrip trips.1.1 own.1
      next foreign => exact .refl s
  next clear => exact .refl s

theorem kept_clearLiftFail (s : State) : Kept s (clearLiftFail s) := by
  refine Kept.of_brakes (.inr id) ?_ ?_ ?_ ?_ ?_ ?_ ?_ ?_ <;> simp

theorem kept_acknowledge (s : State) : Kept s (acknowledge s) := by
  unfold acknowledge
  split
  next tripped =>
    split
    · have emptied : Kept s { s with trips.own := [] } := .of_trips id id rfl rfl rfl rfl rfl rfl rfl rfl
      have cleared := emptied.trans (kept_clearLiftFail _)
      unfold acceptAck
      dsimp only
      split
      · exact cleared.trans (kept_leaveTripped (by simpa using tripped))
      · exact cleared.trans (.of_trips id id rfl rfl rfl rfl rfl rfl rfl rfl)
    · exact .refl s
  · split
    · exact kept_clearLiftFail s
    · exact .refl s
  · split
    · exact kept_clearLiftFail s
    · exact .refl s
  · exact .refl s

/-- The levels held of the inputs are none of the invariants'. -/
theorem kept_inputs (i : Inputs) (s : State) : Kept s { s with inputs := i } := by
  apply Kept.of_same <;> rfl

theorem kept_takeAck (s : State) : Kept s (takeAck s) := by
  unfold takeAck
  dsimp only
  split
  · exact (kept_inputs _ s).trans ((kept_acknowledge _).trans (kept_wakeEvent _))
  · exact .refl s

theorem kept_estop (b : Bool) (s : State) : Kept s { s with trips.estop := b } := by
  apply Kept.of_same <;> rfl

theorem kept_assertEstop (s : State) : Kept s (assertEstop s) := by
  unfold assertEstop
  split
  · exact (kept_estop true s).trans ((kept_wakeEvent _).trans (kept_raiseCause _ _))
  · exact .refl s

theorem kept_releaseEstop (s : State) : Kept s (releaseEstop s) := by
  unfold releaseEstop
  split
  · exact kept_estop false s
  · exact .refl s

theorem kept_endAlert (s : State) : Kept s (endAlert s) := by
  unfold endAlert
  split
  · apply Kept.of_same <;> rfl
  · exact .refl s

/-! ## Class Controller -/

/-- Out of NIGHT the class becomes RUN with the entry, of which the class alone would not fit (R182). -/
theorem kept_standUp {s : State} (night : s.seq.state = .night) : Kept s (standUp s) := by
  have rests := standingTest_rests s
  have service : inService s = true := by simp [inService_iff, night]
  refine ⟨fun _ => ?_, fun fits => ?_, fun holds => ?_⟩
  · refine (kept_setClass ?_ (.inl rfl)).gates (gatesHold_enterState fun arms => ?_)
    · rcases rests with h | h <;> simp [h]
    · rcases rests with h | h <;> simp [h] at arms
  · rw [classHolds_iff] at fits ⊢
    obtain ⟨-, -, wake, commit, -, part⟩ := fits
    have noPart : s.cls.sdRole = .none := part.resolve_right (by simp [night])
    simp only [standUp, cls_setClass, setClass_frame, ClassUnit.set_fields, enterState_state, enterState_cls,
      ClassUnit.entered_counts, ClassUnit.entered_sdRole, night, noPart]
    rcases rests with h | h <;> simp [h, wake]
  · have same : recordsHold (standUp s) = recordsHold (enterState (standingTest s) s) := by
      apply recordsHold_congr <;> simp [standUp]
    exact same.trans (recordsHold_enterState holds (.inr (.inr service)))

theorem kept_takeStandUp (s : State) : Kept s (takeStandUp s) := by
  have stood : ∀ t : State, Kept t (if inState t .night then standUp t else t) := by
    intro t
    split
    next night => exact kept_standUp (by simpa [inState] using night)
    next awake => exact .refl t
  unfold takeStandUp
  dsimp only
  split
  · exact (kept_inputs _ s).trans ((stood _).trans (kept_wakeEvent _))
  · exact .refl s

/-- A stand-down part begins in DWELL, with its id and deadline (R184, R186). -/
theorem kept_beginPart {role : StandDownRole} {id : NodeId} {d : Time} {s : State} (dwell : s.seq.state = .dwell) :
    Kept s { s with cls.sdRole := role, cls.sdId := some id, cls.sdDeadline := some d } := by
  refine Kept.of_cls (fun fits => ?_) rfl rfl rfl rfl rfl rfl rfl rfl
  rw [classHolds_iff] at fits ⊢
  obtain ⟨dormant, quiet, wake, commit, ends, -⟩ := fits
  exact ⟨dormant, quiet, wake, commit, ends, .inr ⟨dwell, rfl, rfl⟩⟩

theorem kept_standDown (s : State) : Kept s (standDown s) := by
  unfold standDown
  split
  · exact .refl s
  · split
    next allowed =>
      simp only [standDownAllowed, inState, Bool.and_eq_true, beq_iff_eq] at allowed
      exact (kept_beginPart allowed.1.1.2).trans (kept_requestBeacon _)
    next refused => exact kept_refusePress s
  · exact kept_refusePress s

theorem kept_takeStandDown (s : State) : Kept s (takeStandDown s) := by
  unfold takeStandDown
  dsimp only
  (repeat' split)
  · exact kept_inputs _ s
  · exact (kept_inputs _ s).trans (kept_standDown _)
  · exact .refl s

/-- A part that has ended leads into NIGHT, with COMMIT beacons or without (R185, R187). -/
theorem kept_enterNight {o : StandDownOutcome} {n : Nat} {s : State} (service : inService s = true) (few : n ≤ 3)
    (awake : s.seq.state ≠ .night) :
    Kept s (enterState .night { endStandDown o s with cls.commit := n }) := by
  have ended := kept_endStandDown o s
  refine ⟨fun _ => gatesHold_enterState (by simp), fun fits => ?_, fun holds => ?_⟩
  · have fits' := ended.cls fits
    rw [classHolds_iff] at fits' ⊢
    obtain ⟨-, -, wake, -, -, part⟩ := fits'
    rw [enterState_cls]
    simp only [endStandDown_frame, enterState_state, ClassUnit.entered_cls, ClassUnit.entered_sdRole,
      ClassUnit.entered_counts, awake, if_false, endStandDown_cls]
    simpa [few] using wake
  · refine recordsHold_enterState ?_ (.inr (.inr ?_))
    · exact (recordsHold_congr rfl rfl rfl rfl rfl rfl rfl rfl rfl).trans (ended.records holds)
    · simpa [inService, inState] using service

theorem kept_judgeInitiator {s : State} (service : inService s = true) : Kept s (judgeInitiator s) := by
  unfold judgeInitiator
  (repeat' split)
  · exact kept_endStandDown _ s
  next commits =>
    simp only [inState, Bool.and_eq_true, beq_iff_eq] at commits
    exact kept_enterNight service (le_refl 3) (by simp [commits.2])
  · exact .refl s
  · exact .refl s

theorem kept_answer {src : NodeId} {p : Profile} {s : State} (may : mayAnswer s = true) : Kept s (answer src p s) := by
  simp only [mayAnswer, inState, Bool.and_eq_true, beq_iff_eq] at may
  exact (kept_beginPart may.1).trans (kept_requestBeacon _)

theorem kept_takeRequest (src : NodeId) (p : Profile) (s : State) : Kept s (takeRequest src p s) := by
  unfold takeRequest
  dsimp only
  split
  · split
    next may => exact kept_answer may
    next => exact .refl s
  · split
    next may =>
      simp only [Bool.and_eq_true] at may
      exact kept_answer may.2
    next => exact .refl s
  · (repeat' split)
    next may => exact (kept_endStandDown _ s).trans (kept_answer may)
    next => exact kept_endStandDown _ s
    next => exact .refl s

theorem kept_follow {s : State} (service : inService s = true) : Kept s (follow s) := by
  refine (kept_endStandDown .committed s).trans (.of_enter id id (by simp) (by simp) (by simp) (.inr (.inr ?_)))
  simpa [inService, inState] using service

theorem kept_judgeAcker {e : Entry} {r : BeaconRec} {s : State} (service : inService s = true) :
    Kept s (judgeAcker e r s) := by
  unfold judgeAcker
  (repeat' split)
  · exact kept_follow service
  · exact .refl s
  · exact kept_endStandDown _ s
  · exact .refl s

/-- WAKE takes a node out of NIGHT before it gives class RUN (R181, R182). -/
theorem kept_takeWake (s : State) : Kept s (takeWake s) := by
  have woken : Kept s (if inState s .night then standUp s else s)
      ∧ (if inState s .night then standUp s else s).seq.state ≠ .night := by
    split
    next night =>
      refine ⟨kept_standUp (by simpa [inState] using night), ?_⟩
      rcases standingTest_rests s with h | h <;> simp [standUp, h]
    next awake => exact ⟨.refl s, by simpa [inState] using awake⟩
  exact woken.1.trans ((kept_setClass (by simp [woken.2]) (.inl rfl)).trans
    ((kept_restartSpell _).trans (kept_endStandDown _ _)))

/-- The answers of the Class Controller keep a node in service. -/
theorem inService_congr {s t : State} (state : t.seq.state = s.seq.state) : inService t = inService s := by
  simp [inService, inState, state]

theorem inService_enterState {n : NodeState} (s : State) (service : n ≠ .starting ∧ n ≠ .faulted) :
    inService (enterState n s) = true := by
  simpa [inService_iff] using service

theorem inService_takeWake {s : State} (service : inService s = true) : inService (takeWake s) = true := by
  have rests := inService_enterState (n := standingTest s) s (by rcases standingTest_rests s with h | h <;> simp [h])
  unfold takeWake
  split
  · rw [← rests]; apply inService_congr; simp [standUp]
  · rw [← service]; apply inService_congr; simp

theorem takeRequest_state (src : NodeId) (p : Profile) (s : State) :
    (takeRequest src p s).seq.state = s.seq.state := by
  unfold takeRequest answer
  dsimp only
  (repeat' split) <;> simp

theorem inService_judgeAcker {e : Entry} {r : BeaconRec} {s : State} (service : inService s = true) :
    inService (judgeAcker e r s) = true := by
  unfold judgeAcker
  (repeat' split)
  · exact inService_enterState _ (by simp)
  · exact service
  · rw [← service]; apply inService_congr; simp
  · exact service

/-- What the Class Controller makes of the WAKE flag of a beacon (R181). -/
def wakeHeard (r : BeaconRec) (s : State) : State :=
  if r.wake then takeWake s else s

/-- What the Class Controller makes of a REQUEST whose field carries the sender's own id (R184, R186). -/
def requestHeard (e : Entry) (r : BeaconRec) (s : State) : State :=
  match s.loader.profile with
  | none => s
  | some p => if r.sdCode == .request && ownField e r then takeRequest e.id p s else s

theorem classBeacon_eq (e : Entry) (r : BeaconRec) (s : State) : classBeacon e r s =
    if inService s then judgeInitiator (judgeAcker e r (requestHeard e r (wakeHeard r s))) else s := rfl

theorem kept_requestHeard (e : Entry) (r : BeaconRec) (s : State) : Kept s (requestHeard e r s) := by
  unfold requestHeard
  (repeat' split)
  · exact .refl s
  · exact kept_takeRequest _ _ s
  · exact .refl s

theorem inService_requestHeard {e : Entry} {r : BeaconRec} {s : State} (service : inService s = true) :
    inService (requestHeard e r s) = true := by
  unfold requestHeard
  (repeat' split)
  · exact service
  · exact (inService_congr (takeRequest_state _ _ s)).trans service
  · exact service

theorem kept_classBeacon (e : Entry) (r : BeaconRec) (s : State) : Kept s (classBeacon e r s) := by
  rw [classBeacon_eq]
  split
  next service =>
    have woken : Kept s (wakeHeard r s) ∧ inService (wakeHeard r s) = true := by
      unfold wakeHeard
      split
      · exact ⟨kept_takeWake s, inService_takeWake service⟩
      · exact ⟨.refl s, service⟩
    have answered := inService_requestHeard (e := e) (r := r) woken.2
    exact woken.1.trans ((kept_requestHeard e r _).trans ((kept_judgeAcker answered).trans
      (kept_judgeInitiator (inService_judgeAcker answered))))
  next => exact .refl s

theorem kept_downshift (s : State) : Kept s (downshift s) := by
  unfold downshift
  split
  · split
    next quiet =>
      have rests : resting s = true := by
        simp only [quietSpell, Bool.and_eq_true] at quiet
        exact quiet.1
      have awake : s.seq.state ≠ .night := by
        intro night
        simp [resting, inState, night] at rests
      (repeat' split)
      · exact kept_setClass (by simp [awake]) (.inr (.inr rests))
      · exact .refl s
      · exact kept_setClass (by simp [awake]) (.inr (.inr rests))
      · exact .refl s
      · exact .refl s
    next => exact .refl s
  · exact .refl s

theorem kept_expireStandDown (s : State) : Kept s (expireStandDown s) := by
  unfold expireStandDown
  split
  · exact kept_endStandDown _ s
  · exact .refl s

theorem kept_endRefusal (s : State) : Kept s (endRefusal s) := by
  unfold endRefusal
  split
  · apply Kept.of_same <;> rfl
  · exact .refl s

theorem kept_takeDispatch (dir : RunDir) (s : State) : Kept s (takeDispatch dir s) := by
  unfold takeDispatch
  dsimp only
  (repeat' split)
  · exact kept_inputs _ s
  · exact (kept_inputs _ s).trans ((kept_dispatch dir _).trans ((kept_endStandDown _ _).trans (kept_wakeEvent _)))
  · exact .refl s

theorem kept_expireArming (s : State) : Kept s (expireArming s) := by
  unfold expireArming
  split
  next runsOut =>
    simp only [inState, Bool.and_eq_true, beq_iff_eq] at runsOut
    exact kept_leaveArmed runsOut.1
  next => exact .refl s

theorem kept_changeDoor (s : State) : Kept s (changeDoor s) := by
  unfold changeDoor
  split
  · exact (kept_inputs _ s).trans ((kept_wakeEvent _).trans (kept_judgeConsent _))
  · exact .refl s

theorem kept_changeGate (s : State) : Kept s (changeGate s) := by
  unfold changeGate
  split
  · exact (kept_inputs _ s).trans ((kept_wakeEvent _).trans (kept_judgeConsent _))
  · exact .refl s

/-! ## Loop Monitor -/

theorem kept_loop (m : LoopMonitor) (s : State) : Kept s { s with loop := m } := by
  apply Kept.of_same <;> rfl

theorem kept_setTrack (x : Side) (t : Track) (s : State) : Kept s (setTrack x t s) := by
  apply Kept.of_same <;> simp

theorem kept_holdLevel (d : Detector) (b : Bool) (s : State) : Kept s (holdLevel d b s) := kept_loop _ s

theorem kept_takeRise (p : Profile) (d : Detector) (s : State) : Kept s (takeRise p d s) := by
  unfold takeRise
  dsimp only
  refine .trans ?_ (kept_setTrack _ _ _)
  split
  · exact .refl s
  · exact kept_raiseCause _ s

theorem kept_takeFall (p : Profile) (d : Detector) (s : State) : Kept s (takeFall p d s) := by
  unfold takeFall
  split
  · exact kept_setTrack _ _ s
  · exact (kept_raiseCause _ s).trans (kept_setTrack _ _ _)

theorem kept_riseEdge (d : Detector) (s : State) : Kept s (riseEdge d s) := by
  unfold riseEdge
  (repeat' split)
  · exact .refl s
  · exact (kept_holdLevel d true s).trans ((kept_wakeEvent _).trans ((kept_takeRise _ d _).trans (kept_judgeConsent _)))
  · exact .refl s

theorem kept_fallEdge (d : Detector) (s : State) : Kept s (fallEdge d s) := by
  unfold fallEdge
  (repeat' split)
  · exact .refl s
  · exact (kept_holdLevel d false s).trans ((kept_wakeEvent _).trans ((kept_takeFall _ d _).trans (kept_judgeConsent _)))
  · exact .refl s

theorem kept_loopWork (s : State) : Kept s (loopWork s) := by
  have confirmed : ∀ (p : Profile) (x : Side) (t : State), Kept t (confirmTrack p x t) := by
    intro p x t
    unfold confirmTrack
    (repeat' split)
    · exact .refl t
    · exact kept_setTrack _ _ t
    · exact .refl t
  unfold loopWork
  (repeat' split)
  · exact .refl s
  · exact (confirmed _ .a s).trans (confirmed _ .b _)
  · exact .refl s

end Sys2Proof.Machine
end

section
/-! PROOF. Brakes, peers, line, port and ceiling output carry the three invariants on. -/

namespace Sys2Proof.Machine

/-! ## Brake Controller -/

/-- A unit record may be replaced where it was not APPLIED before, or is APPLIED after. -/
theorem kept_setUnit {b : BrakeId} {u : BrakeUnit} {s : State}
    (applied : (brakeUnit s.brakes b).state = .applied → u.state = .applied) : Kept s (setUnit b u s) := by
  refine Kept.of_brakes (.inr fun all => ?_) ?_ ?_ ?_ ?_ ?_ ?_ ?_ ?_
  · rw [setUnit_brakes]
    refine allApplied_put b all (applied ?_)
    cases b <;> simp_all [allApplied, brakeUnit]
  all_goals simp

theorem kept_becomeLifted {b : BrakeId} {s : State} (lifting : (brakeUnit s.brakes b).state = .lifting) :
    Kept s (becomeLifted b s) :=
  (kept_setUnit (by simp [lifting])).trans (kept_stageLifted b _)

theorem kept_liftByFeedback (b : BrakeId) (s : State) : Kept s (liftByFeedback b s) := by
  unfold liftByFeedback
  dsimp only
  split
  next lifts =>
    simp only [Bool.and_eq_true, beq_iff_eq] at lifts
    exact kept_becomeLifted lifts.1.2
  next => exact .refl s

theorem kept_liftByTime (b : BrakeId) (s : State) : Kept s (liftByTime b s) := by
  unfold liftByTime
  dsimp only
  split
  next lifts =>
    simp only [Bool.and_eq_true, beq_iff_eq] at lifts
    exact kept_becomeLifted lifts.1.2
  next => exact .refl s

theorem kept_barRelift (b : BrakeId) (s : State) : Kept s (barRelift b s) := by
  unfold barRelift
  split
  · apply Kept.of_same <;> rfl
  · exact .refl s

theorem kept_timeOutLift (b : BrakeId) (s : State) : Kept s (timeOutLift b s) := by
  unfold timeOutLift
  dsimp only
  split
  · have failed : Kept s (setUnit b (timedOut s.time.now (brakeUnit s.brakes b)) s) := kept_setUnit fun _ => rfl
    exact failed.trans ((kept_barRelift b _).trans ((kept_judgeConsent _).trans
      ((kept_judgeLineStart _).trans (kept_driveDwell _))))
  · exact .refl s

theorem kept_clearReleaseLatch (b : BrakeId) (s : State) : Kept s (clearReleaseLatch b s) := by
  unfold clearReleaseLatch
  dsimp only
  split
  · exact kept_setUnit id
  · exact .refl s

theorem kept_holdCheck (b : BrakeId) (s : State) : Kept s (holdCheck b s) := by
  unfold holdCheck
  split
  · exact (kept_setUnit (u := { brakeUnit s.brakes b with holdLatch := true }) id).trans (kept_raiseCause _ _)
  · exact .refl s

theorem kept_releaseCheck (b : BrakeId) (s : State) : Kept s (releaseCheck b s) := by
  unfold releaseCheck
  split
  · exact (kept_setUnit (u := { brakeUnit s.brakes b with releaseLatch := true }) id).trans (kept_raiseCause _ _)
  · exact .refl s

/-! ## Peer View -/

theorem kept_peers (l : List Entry) (s : State) : Kept s { s with peers := l } := by
  apply Kept.of_same <;> rfl

theorem kept_putEntry (e : Entry) (s : State) : Kept s (putEntry e s) := kept_peers _ s

/-- The Line Access Unit's own record is none of the invariants'. -/
theorem kept_access (a : LineAccess) (s : State) : Kept s { s with access := a } := by
  apply Kept.of_same <;> rfl

theorem kept_ceilingSignal (broken : Bool) (s : State) : Kept s (ceilingSignal broken s) := by
  unfold ceilingSignal
  split
  · exact kept_startCommsStop _ s
  · exact kept_formCeiling s

theorem kept_classSignal (s : State) : Kept s (classSignal s) := by
  unfold classSignal
  split
  next service => exact kept_judgeInitiator service
  next => exact .refl s

theorem kept_changeSignal (e : Entry) (broken : Bool) (s : State) : Kept s (changeSignal e broken s) :=
  (kept_ceilingSignal broken s).trans ((kept_sequencerSignal e _).trans ((kept_judgeClear _).trans (kept_classSignal _)))

theorem kept_honour (s : State) : Kept s (honour s) := by
  unfold honour
  (repeat' split)
  · exact .refl s
  · exact (kept_access { s.access with lastHonoured := some s.time.now } s).trans (kept_requestAnnounce _)
  · exact .refl s

theorem kept_ceilingBeacon (v0 : Nat) (e : Entry) (r : BeaconRec) (s : State) : Kept s (ceilingBeacon v0 e r s) := by
  unfold ceilingBeacon
  split
  next running =>
    dsimp only
    generalize lowered : (if e.verif == .matched && decide (r.vperm < s.ceiling.line) then setLine r.vperm s else s) = t
    have first : Kept s t := by
      rw [← lowered]
      split
      · exact kept_setLine fun other => absurd (by simpa [inState] using running) other
      · exact .refl s
    split
    · exact first.trans (kept_startCommsStop _ t)
    · exact first
  next => exact .refl s

theorem kept_acceptanceEvent (v0 : Nat) (e : Entry) (r : BeaconRec) (s : State) :
    Kept s (acceptanceEvent v0 e r s) :=
  (kept_ceilingBeacon v0 e r s).trans ((kept_sequencerBeacon e r _).trans ((kept_tripBeacon e r _).trans
    (kept_classBeacon e r _)))

theorem kept_acceptBeacon (n : SeqNo) (r : BeaconRec) (e : Entry) (s : State) : Kept s (acceptBeacon n r e s) := by
  have owed : ∀ t : State, Kept t (if returns e then requestAnnounce t else t) := by
    intro t; split
    · exact kept_requestAnnounce t
    · exact .refl t
  have asked : ∀ t : State, Kept t (if r.annReq then honour t else t) := by
    intro t; split
    · exact kept_honour t
    · exact .refl t
  have told : ∀ t : State, Kept t (if e.fresh == .fresh then t else changeSignal (beaconEntry n r e) false t) := by
    intro t; split
    · exact .refl t
    · exact kept_changeSignal _ _ t
  exact (kept_putEntry (beaconEntry n r e) s).trans ((owed _).trans ((asked _).trans ((told _).trans
    (kept_acceptanceEvent s.ceiling.line (beaconEntry n r e) r _))))

theorem kept_acceptAnnounce (n : SeqNo) (a : AnnounceFrame) (p : Profile) (e : Entry) (s : State) :
    Kept s (acceptAnnounce n a p e s) := by
  unfold acceptAnnounce
  dsimp only
  split
  · exact kept_putEntry _ s
  · exact (kept_putEntry _ s).trans (kept_changeSignal _ _ _)

theorem kept_endFrame (s : State) : Kept s (endFrame s) := kept_access _ s

theorem kept_takeOwnId (f : RxFrame) (s : State) : Kept s (takeOwnId f s) := by
  unfold takeOwnId
  split
  · exact kept_endFrame s
  · exact (kept_endFrame s).trans (kept_enterFaulted _ _)

theorem kept_takeBeacon (f : RxFrame) (p : Profile) (e : Entry) (s : State) : Kept s (takeBeacon f p e s) := by
  unfold takeBeacon
  (repeat' split)
  · exact .refl s
  · exact kept_acceptBeacon _ _ e s
  · exact .refl s

theorem kept_receive {handOn : RxFrame → Profile → Entry → State → State} {k : FrameKind} {f : RxFrame} {s : State}
    (taken : ∀ p e t, Kept t (handOn f p e t)) : Kept s (receive k handOn f s) := by
  obtain h | h | h | ⟨p, e, -, -, h⟩ := receive_cases k handOn f s <;> rw [h]
  · exact .refl s
  · exact kept_endFrame s
  · exact kept_takeOwnId f s
  · exact (kept_endFrame s).trans (taken p e _)

theorem kept_takeBadFrame (f : RxFrame) (s : State) : Kept s (takeBadFrame f s) := by
  unfold takeBadFrame
  split
  · exact kept_endFrame s
  · exact .refl s

theorem kept_makeStale (id : NodeId) (s : State) : Kept s (makeStale id s) := by
  unfold makeStale
  dsimp only
  (repeat' split)
  · exact .refl s
  · exact (kept_putEntry _ s).trans (kept_changeSignal _ _ _)
  · exact .refl s

theorem kept_makeLost (id : NodeId) (s : State) : Kept s (makeLost id s) := by
  unfold makeLost
  dsimp only
  (repeat' split)
  · exact .refl s
  · exact (kept_putEntry _ s).trans (kept_changeSignal _ _ _)
  · exact .refl s

/-! ## Line Access Unit -/

theorem kept_takeDue (s : State) : Kept s (takeDue s) := by
  have due := (kept_access { s.access with pendingBeacon := true } s).trans (kept_wakeTransmitter _)
  unfold takeDue
  dsimp only
  (repeat' split)
  · exact .refl s
  · exact due.trans (kept_requestAnnounce _)
  · exact due

theorem kept_startAttempt (s : State) : Kept s (startAttempt s) := by
  unfold startAttempt
  (repeat' split)
  · exact .refl s
  next k _ =>
    unfold beginAttempt
    dsimp only
    split
    · exact kept_access _ s
    · exact kept_access _ s
  · exact .refl s

theorem kept_repeatCommit (s : State) : Kept s (repeatCommit s) := by
  unfold repeatCommit
  split
  · exact kept_requestBeacon s
  · exact .refl s

theorem kept_loseLine (s : State) : Kept s (loseLine s) := by
  unfold loseLine
  (repeat' split)
  · exact kept_access _ s
  · exact (kept_access _ s).trans (kept_repeatCommit _)
  · exact kept_access _ s
  · exact .refl s

/-- The counts of WAKE and COMMIT beacons only go down (R181, R185). -/
theorem kept_countDown (l : List Byte) (s : State) : Kept s (countDown l s) := by
  refine .trans (Kept.of_cls (t := { s with
      cls.wake := if carriedWake l then s.cls.wake - 1 else s.cls.wake
      cls.commit := if carriedCommit l then s.cls.commit - 1 else s.cls.commit })
    (fun fits => ?_) rfl rfl rfl rfl rfl rfl rfl rfl) (kept_repeatCommit _)
  rw [classHolds_iff] at fits ⊢
  obtain ⟨dormant, quiet, wake, commit, ends, part⟩ := fits
  refine ⟨dormant, quiet, ?_, ?_, ?_, part⟩
  · dsimp only; split <;> omega
  · dsimp only; split <;> omega
  · refine ends.imp_left fun none => ?_
    dsimp only; split <;> omega

theorem kept_completeAttempt (s : State) : Kept s (completeAttempt s) := by
  unfold completeAttempt
  split
  · have released := kept_access { releaseFrame s.access with sent := s.access.txFrame } s
    dsimp only
    split
    · exact released.trans (kept_countDown _ _)
    · exact released.trans (kept_peers _ _)
    · exact released
  · exact .refl s

/-! ## Service Port -/

theorem kept_port (q : Port) (s : State) : Kept s { s with port := q } := by
  apply Kept.of_same <;> rfl

theorem kept_capture (reply : State → Status × List Byte) (s : State) : Kept s (capture reply s) := by
  unfold capture
  split
  · exact kept_port _ s
  · exact .refl s

theorem kept_select (s : State) : Kept s (select s) := by
  unfold select
  (repeat' split)
  · exact kept_port _ s
  · exact .refl s
  · exact kept_port _ s

theorem kept_takeRestart (s : State) : Kept s (takeRestart s) := by
  unfold takeRestart
  dsimp only
  split
  · exact (kept_capture _ s).trans (kept_port _ _)
  · exact kept_capture _ s

/-- An empty history is continued by any serial (R175). -/
theorem kept_takeClear (s : State) : Kept s (takeClear s) := by
  unfold takeClear
  dsimp only
  split
  · refine (kept_capture _ s).trans (.of_trips ?_ id rfl rfl rfl rfl rfl rfl rfl rfl)
    rintro ⟨-, -, -, least, most⟩
    exact ⟨by simp, rfl, rfl, least, most⟩
  · exact kept_capture _ s

/-! ## The ceiling output -/

/-- A step at the ceiling output alone, which stays stopped while the line ceiling is 0 (R118). -/
theorem kept_generator {g : Generator} {s : State}
    (stopped : s.ceiling.line = 0 → s.generator = Generator.stopped → g = Generator.stopped) :
    Kept s { s with generator := g } := by
  refine ⟨fun holds => ?_, (classHolds_congr rfl rfl).trans, (recordsHold_congr rfl rfl rfl rfl rfl rfl rfl rfl rfl).trans⟩
  simp only [gatesHold, Bool.and_eq_true] at holds ⊢
  obtain ⟨⟨⟨⟨⟨⟨ceiling, vperm⟩, brakes⟩, output⟩, run⟩, origin⟩, locks⟩ := holds
  refine ⟨⟨⟨⟨⟨⟨ceiling, vperm⟩, brakes⟩, ?_⟩, run⟩, origin⟩, locks⟩
  simp only [outputGated, Bool.or_eq_true, bne_iff_ne, beq_iff_eq] at output ⊢
  tauto

theorem kept_applyCeiling (s : State) : Kept s (applyCeiling s) := by
  unfold applyCeiling
  split
  · exact kept_generator fun zero _ => by simp [takeCeiling, zero]
  · exact .refl s

theorem kept_endHigh (s : State) : Kept s (endHigh s) := by
  unfold endHigh
  split
  next ends => exact kept_generator fun _ stopped => by simp [stopped, Generator.stopped] at ends
  next => exact .refl s

theorem kept_endPeriod (s : State) : Kept s (endPeriod s) := by
  unfold endPeriod
  (repeat' split)
  · exact .refl s
  next period _ => exact kept_generator fun _ stopped => by simp [stopped, Generator.stopped] at period
  · exact .refl s

theorem kept_passMicros (n : Nat) (s : State) : Kept s (passMicros n s) :=
  kept_generator fun _ stopped => by simp [stopped, Generator.stopped, phaseMicros]

end Sys2Proof.Machine
end

section
/-! PROOF. The sample work, the starts and the load carry the three invariants on, and so does every step. -/

namespace Sys2Proof.Machine

/-! ## Position Tracker -/

/-- A step at the tracker alone, whose speed and load keep to their fields (R19, R30). -/
theorem kept_tracker {k : Tracker} {s : State} (speed : k.speed = s.tracker.speed ∨ k.speed ≤ 1400)
    (load : k.load = s.tracker.load ∨ k.load.getD 0 ≤ 20000 ∨ recordsHold s = false) :
    Kept s { s with tracker := k } := by
  refine ⟨(gatesHold_congr rfl rfl rfl rfl rfl rfl).trans, (classHolds_congr rfl rfl).trans, fun holds => ?_⟩
  have records := holds
  rw [recordsHold_iff] at holds ⊢
  obtain ⟨trips, store, profile, started, slow, vperm, light, origin⟩ := holds
  refine ⟨trips, store, profile, started, ?_, vperm, ?_, origin⟩
  · rcases speed with same | fits
    · exact same ▸ slow
    · exact fits
  · rcases load with same | fits | broken
    · exact same ▸ light
    · exact fits
    · simp [records] at broken

/-- A step at the tracker that moves neither speed nor load. -/
theorem kept_tracker_same {k : Tracker} {s : State} (speed : k.speed = s.tracker.speed)
    (load : k.load = s.tracker.load) : Kept s { s with tracker := k } :=
  kept_tracker (.inl speed) (.inl load)

/-- A profile held satisfies what its validation found. -/
theorem fits_of_recordsHold {p : Profile} {s : State} (holds : recordsHold s = true)
    (profile : s.loader.profile = some p) : p.fits = true := by
  rw [recordsHold_iff, profile] at holds
  obtain ⟨-, -, fits, -⟩ := holds
  exact fits

theorem Profile.fits_iff {p : Profile} :
    p.fits = true ↔ rangesHold p = true ∧ p.nodes.length ≤ 255 := by
  simp [Profile.fits]

theorem vLineMax_le {p : Profile} (ranges : rangesHold p = true) : p.vLineMax ≤ 1400 := by
  simp only [rangesHold, within, Bool.and_eq_true, decide_eq_true_eq] at ranges
  omega

theorem wMax_le {p : Profile} (ranges : rangesHold p = true) : p.wMax ≤ 20000 := by
  simp only [rangesHold, within, Bool.and_eq_true, decide_eq_true_eq] at ranges
  omega

theorem speedOf_le (cpm : Nat) (sum : Int) : speedOf cpm sum ≤ 1400 := Nat.min_le_right _ _

theorem kept_takeStep (p : Profile) (s : State) : Kept s (takeStep p s) := by
  have taken : Kept s { s with tracker.delta := 0, tracker.illegal := false } := kept_tracker_same rfl rfl
  unfold takeStep
  dsimp only
  split
  · refine .trans (t := if s.tracker.sensorLatch || inState s .faulted
        then { s with tracker.delta := 0, tracker.illegal := false }
        else raiseCause .speedSensor
          { s with tracker.delta := 0, tracker.illegal := false, tracker.sensorLatch := true }) ?_ ?_
    · split
      · exact taken
      · have latched : Kept s { s with tracker.delta := 0, tracker.illegal := false, tracker.sensorLatch := true } :=
          kept_tracker_same rfl rfl
        exact latched.trans (kept_raiseCause _ _)
    · exact kept_tracker_same rfl rfl
  · exact kept_tracker_same rfl rfl

theorem kept_recordStep {d : Int} {speed : Nat} {s : State} (slow : speed ≤ 1400) : Kept s (recordStep d speed s) := by
  have recorded : Kept s
      { s with
        tracker.history := joinHistory s.tracker.history { delta := d, speed := speed }
        tracker.speed := speed
        tracker.motion := motionOf (newestSum s.tracker.history d) } := kept_tracker (.inr slow) (.inl rfl)
  unfold recordStep
  dsimp only
  split
  · exact recorded.trans (kept_wakeEvent _)
  · exact recorded

theorem kept_withdrawMarkers (s : State) : Kept s (withdrawMarkers s) := kept_tracker_same rfl rfl

theorem kept_judgeMiss (p : Profile) (s : State) : Kept s (judgeMiss p s) := by
  unfold judgeMiss
  (repeat' split)
  · exact .refl s
  · exact kept_tracker_same rfl rfl
  · exact (kept_raiseCause _ s).trans (kept_withdrawMarkers _)
  · exact .refl s

theorem kept_chooseExpected (p : Profile) (s : State) : Kept s (chooseExpected p s) := by
  unfold chooseExpected
  split
  · exact .refl s
  · rw [apply_ite (Kept s)]
    split_ifs
    · exact kept_tracker_same rfl rfl
    · exact .refl s

theorem kept_reReference (p : Profile) (s : State) : Kept s (reReference p s) := by
  unfold reReference
  split
  · exact .refl s
  · exact kept_tracker_same rfl rfl

theorem kept_referenceStep (p : Profile) (s : State) : Kept s (referenceStep p s) := by
  unfold referenceStep
  (repeat' split)
  · exact (kept_judgeMiss p s).trans (kept_chooseExpected p _)
  · exact .refl s
  · exact kept_reReference p s

theorem kept_judgeDisagree (fa fb : Option Finding) (s : State) : Kept s (judgeDisagree fa fb s) := by
  unfold judgeDisagree
  dsimp only
  split
  · exact kept_tracker_same rfl rfl
  · exact kept_tracker_same rfl rfl

theorem kept_judgeConflictA (f : Option Finding) (s : State) : Kept s (judgeConflictA f s) := by
  have raised : Kept s (raiseCause .positionConflict { s with tracker.cmpA.conflict := true }) :=
    Kept.trans (t := { s with tracker.cmpA.conflict := true }) (kept_tracker_same rfl rfl) (kept_raiseCause _ _)
  unfold judgeConflictA
  dsimp only
  (repeat' split)
  · exact .refl s
  · exact raised.trans (kept_tracker_same rfl rfl)
  · exact raised.trans (kept_withdrawMarkers _)
  · exact kept_tracker_same rfl rfl

theorem kept_judgeConflictB (f : Option Finding) (s : State) : Kept s (judgeConflictB f s) := by
  have raised : Kept s (raiseCause .positionConflict { s with tracker.cmpB.conflict := true }) :=
    Kept.trans (t := { s with tracker.cmpB.conflict := true }) (kept_tracker_same rfl rfl) (kept_raiseCause _ _)
  unfold judgeConflictB
  (repeat' split)
  · exact .refl s
  · exact raised
  · exact kept_tracker_same rfl rfl

theorem kept_compareStep (p : Profile) (s : State) : Kept s (compareStep p s) :=
  (kept_judgeDisagree _ _ s).trans ((kept_judgeConflictA _ _).trans (kept_judgeConflictB _ _))

theorem kept_judgeStill (p : Profile) (s : State) : Kept s (judgeStill p s) := by
  unfold judgeStill
  (repeat' split)
  · exact .refl s
  · exact kept_raiseCause _ s
  · exact .refl s

theorem kept_countStep (d : Int) (s : State) : Kept s (countStep d s) := kept_tracker_same rfl rfl

theorem kept_trackerWork (s : State) : Kept s (trackerWork s) := by
  unfold trackerWork
  split
  · split
    next p _ =>
      exact (kept_takeStep p s).trans ((kept_recordStep (speedOf_le _ _)).trans ((kept_countStep _ _).trans
        ((kept_referenceStep p _).trans ((kept_compareStep p _).trans (kept_judgeStill p _)))))
    next =>
      refine Kept.trans (t := { s with tracker.delta := 0, tracker.illegal := false }) (kept_tracker_same rfl rfl)
        (kept_recordStep ?_)
      split <;> omega
  · exact .refl s

theorem kept_readMarker (code : BitVec 5) (p : Profile) (s : State) : Kept s (readMarker code p s) := by
  unfold readMarker
  (repeat' split)
  · exact kept_tracker_same rfl rfl
  · exact kept_tracker_same rfl rfl
  · exact kept_tracker_same rfl rfl

theorem kept_takeMarker (code : BitVec 5) (s : State) : Kept s (takeMarker code s) := by
  unfold takeMarker
  (repeat' split)
  · exact .refl s
  · exact kept_readMarker _ _ s
  · exact .refl s

/-- The load of a gate's count is at most W_max (R30). -/
theorem loadOfCount_le (p : Profile) (count : Nat) : (loadOfCount p count).getD 0 ≤ p.wMax := by
  unfold loadOfCount clampInt
  split
  · exact Nat.zero_le _
  · simp only [Option.getD_some]
    omega

theorem kept_endGate (s : State) : Kept s (endGate s) := by
  unfold endGate
  (repeat' split)
  · exact .refl s
  next p profile _ =>
    refine kept_tracker (.inl rfl) (.inr ?_)
    cases holds : recordsHold s with
    | false => exact .inr rfl
    | true =>
      have fits := fits_of_recordsHold holds profile
      rw [Profile.fits_iff] at fits
      exact .inl ((loadOfCount_le p _).trans (wMax_le fits.1))
  · exact .refl s

theorem kept_countPulse (s : State) : Kept s (countPulse s) := by
  unfold countPulse
  split
  · exact kept_tracker_same rfl rfl
  · exact .refl s

theorem kept_sampleChannels (first second : Bool) (s : State) : Kept s (sampleChannels first second s) := by
  unfold sampleChannels
  dsimp only
  (repeat' split) <;> exact kept_tracker_same rfl rfl

theorem kept_fold (p : Profile) (s : State) : Kept s (fold p s) := by
  unfold fold
  split
  · exact kept_tracker_same rfl rfl
  · exact .refl s

/-! ## Envelope Calculator -/

/-- A step at the envelope alone: vperm keeps to its gate and to its field. -/
theorem kept_envelope {k : Envelope} {s : State}
    (gated : k.vperm = s.envelope.vperm ∨ k.vperm = 0 ∨ s.seq.state = .armed ∨ s.seq.state = .running)
    (range : k.vperm = s.envelope.vperm ∨ (recordsHold s = true → k.vperm ≤ 1400)) :
    Kept s { s with envelope := k } := by
  refine ⟨fun holds => ?_, (classHolds_congr rfl rfl).trans, fun holds => ?_⟩
  · simp only [gatesHold, Bool.and_eq_true] at holds ⊢
    obtain ⟨⟨⟨⟨⟨⟨ceiling, vperm⟩, brakes⟩, output⟩, run⟩, origin⟩, locks⟩ := holds
    refine ⟨⟨⟨⟨⟨⟨ceiling, ?_⟩, brakes⟩, output⟩, run⟩, origin⟩, locks⟩
    simp only [vpermGated, inState, Bool.or_eq_true, beq_iff_eq] at vperm ⊢
    rcases gated with same | zero | armed | running
    · exact same ▸ vperm
    · exact .inr zero
    · exact .inl (.inl armed)
    · exact .inl (.inr running)
  · have records := holds
    rw [recordsHold_iff] at holds ⊢
    obtain ⟨trips, store, profile, started, slow, vperm, light, origin⟩ := holds
    refine ⟨trips, store, profile, started, slow, ?_, light, origin⟩
    rcases range with same | fits
    · exact same ▸ vperm
    · exact fits records

/-- A step at the envelope that leaves vperm. -/
theorem kept_envelope_same {k : Envelope} {s : State} (vperm : k.vperm = s.envelope.vperm) :
    Kept s { s with envelope := k } :=
  kept_envelope (.inl vperm) (.inl vperm)

theorem foldl_min_le_init (l : List Nat) (n : Nat) : l.foldl min n ≤ n := by
  induction l generalizing n with
  | nil => exact le_refl n
  | cons a l ih => exact (ih _).trans (Nat.min_le_left n a)

theorem curveLimit_le (p : Profile) (b : Nat) (d : Travel) (mark x : Nat) : curveLimit p b d mark x ≤ p.vLineMax :=
  (foldl_min_le_init _ _).trans (Nat.min_le_left _ _)

theorem carValue_le (s : State) (p : Profile) (x : Side) : carValue s p x ≤ p.vLineMax := by
  unfold carValue
  split
  · exact Nat.min_le_right _ _
  · dsimp only
    split
    · exact (Nat.min_le_left _ _).trans (curveLimit_le p _ _ _ _)
    · exact curveLimit_le p _ _ _ _

theorem permitted_le (s : State) (p : Profile) : permitted s p ≤ p.vLineMax := by
  unfold permitted
  split
  · exact carValue_le s p _
  · exact (Nat.min_le_left _ _).trans (carValue_le s p _)

theorem kept_stopMarkStep (p : Profile) (s : State) : Kept s (stopMarkStep p s) := by
  unfold stopMarkStep
  dsimp only
  split
  · exact kept_envelope_same rfl
  · exact .refl s

theorem kept_distanceStep (p : Profile) (s : State) : Kept s (distanceStep p s) := by
  unfold distanceStep
  (repeat' split)
  · exact kept_envelope_same rfl
  · exact kept_envelope_same rfl
  · exact .refl s

theorem kept_decelerationStep (p : Profile) (s : State) : Kept s (decelerationStep p s) := kept_envelope_same rfl

/-- The profile is the one the records hold, whose V_line_max bounds vperm (R53). -/
theorem kept_vpermStep {p : Profile} {s : State} (profile : s.loader.profile = some p) : Kept s (vpermStep p s) := by
  refine kept_envelope ?_ (.inr fun holds => ?_)
  · dsimp only
    split
    next runs => exact .inr (.inr (by simpa [inState] using runs))
    next => exact .inr (.inl rfl)
  · have fits := fits_of_recordsHold holds profile
    rw [Profile.fits_iff] at fits
    dsimp only
    split
    · exact (permitted_le s p).trans (vLineMax_le fits.1)
    · omega

/-- A judged car is within W_stop of its mark at no more than V_creep (R56). -/
def arrives (p : Profile) (s : State) : Bool :=
  (judgedDistances s).any (fun d => decide (d.natAbs ≤ p.wStop)) && decide (s.tracker.speed ≤ p.vCreep)

/-- A judged car is past its mark by more than W_stop (R57). -/
def overruns (p : Profile) (s : State) : Bool := (judgedDistances s).any (fun d => decide (d < -(p.wStop : Int)))

/-- The state with AT_MARK as given, and vperm 0 with it (R56). -/
def withMark (arrived : Bool) (s : State) : State :=
  { s with envelope.atMark := arrived, envelope.vperm := if arrived then 0 else s.envelope.vperm }

theorem arrivalStep_eq (p : Profile) (s : State) : arrivalStep p s =
    if moving s then
      if overruns p s then raiseCause .overrun (withMark (arrives p s) s) else withMark (arrives p s) s
    else s := rfl

theorem kept_withMark (arrived : Bool) (s : State) : Kept s (withMark arrived s) := by
  cases arrived with
  | false => exact kept_envelope_same rfl
  | true => exact kept_envelope (.inr (.inl rfl)) (.inr fun _ => Nat.zero_le _)

theorem kept_arrivalStep (p : Profile) (s : State) : Kept s (arrivalStep p s) := by
  rw [arrivalStep_eq]
  (repeat' split)
  · exact (kept_withMark _ s).trans (kept_raiseCause _ _)
  · exact kept_withMark _ s
  · exact .refl s

@[simp] theorem stopMarkStep_profile (p : Profile) (s : State) : (stopMarkStep p s).loader = s.loader := by
  unfold stopMarkStep
  split <;> rfl

@[simp] theorem distanceStep_profile (p : Profile) (s : State) : (distanceStep p s).loader = s.loader := by
  unfold distanceStep
  (repeat' split) <;> rfl

theorem kept_envelopeLoop {p : Profile} {s : State} (profile : s.loader.profile = some p) : Kept s (envelopeLoop p s) :=
  (kept_stopMarkStep p s).trans ((kept_distanceStep p _).trans ((kept_decelerationStep p _).trans
    (kept_vpermStep (by simpa [decelerationStep] using profile))))

theorem kept_envelopeEncoder {p : Profile} {s : State} (profile : s.loader.profile = some p) :
    Kept s (envelopeEncoder p s) :=
  (kept_envelopeLoop profile).trans (kept_arrivalStep p _)

theorem kept_envelopeTerminal {p : Profile} {s : State} (profile : s.loader.profile = some p) :
    Kept s (envelopeTerminal p s) := by
  have gated : ∀ g : Bool, Kept s
      { s with
        envelope.gateOpen := g
        envelope.vperm := if (inState s .armed || inState s .running) && !g then p.vLineMax else 0 } := by
    intro g
    refine kept_envelope ?_ (.inr fun holds => ?_)
    · dsimp only
      split
      next runs =>
        simp only [inState, Bool.and_eq_true, Bool.or_eq_true, beq_iff_eq] at runs
        exact .inr (.inr runs.1)
      next => exact .inr (.inl rfl)
    · have fits := fits_of_recordsHold holds profile
      rw [Profile.fits_iff] at fits
      dsimp only
      split
      · exact vLineMax_le fits.1
      · omega
  exact (gated _).trans (kept_decelerationStep p _)

theorem kept_envelopeWork (s : State) : Kept s (envelopeWork s) := by
  unfold envelopeWork
  split
  · exact .refl s
  next p profile =>
    split
    · split
      · exact kept_envelopeEncoder profile
      · exact kept_envelopeEncoder profile
      · exact kept_envelopeLoop profile
      · exact kept_envelopeTerminal profile
    · exact .refl s

/-! ## Ceiling and Supervision Unit -/

/-- A step at the supervision of the ceiling, which leaves the line ceiling. -/
theorem kept_supervision {k : Ceiling} {s : State} (line : k.line = s.ceiling.line) : Kept s { s with ceiling := k } := by
  exact .of_same rfl rfl rfl rfl rfl rfl rfl line rfl rfl rfl rfl rfl rfl

theorem kept_interveneStep (p : Profile) (s : State) : Kept s (interveneStep p s) := by
  unfold interveneStep
  dsimp only
  generalize (if s.ceiling.limit + p.tInt < s.tracker.speed then s.ceiling.overCount + 1 else 0) = n
  split
  · exact (kept_supervision (k := { s.ceiling with intervention := true, overCount := 0, underCount := 0 }) rfl).trans
      (kept_dropBrake _ _)
  · exact kept_supervision rfl

theorem kept_reliftStep (s : State) : Kept s (reliftStep s) := by
  unfold reliftStep
  dsimp only
  generalize (if decide (0 < s.ceiling.line) && decide (s.tracker.speed ≤ s.ceiling.line) then s.ceiling.underCount + 1
    else 0) = n
  split
  · exact (kept_supervision (k := { s.ceiling with intervention := false, underCount := 0 }) rfl).trans
      (kept_liftBrake _ _)
  · exact kept_supervision rfl

theorem kept_superviseStep (p : Profile) (s : State) : Kept s (superviseStep p s) := by
  unfold superviseStep
  (repeat' split)
  · exact .refl s
  · exact kept_reliftStep s
  · exact kept_interveneStep p s
  · exact .refl s

theorem kept_limitStep (s : State) : Kept s (limitStep s) := by
  unfold limitStep
  split
  · unfold followLimit
    (repeat' split) <;> exact kept_supervision rfl
  · exact .refl s

theorem kept_overspeedStep (p : Profile) (s : State) : Kept s (overspeedStep p s) := by
  unfold overspeedStep
  split
  · exact kept_raiseCause _ s
  · exact .refl s

theorem kept_completeStep (s : State) : Kept s (completeStep s) := by
  unfold completeStep
  split
  next complete =>
    simp only [commsComplete, inState, Bool.and_eq_true, beq_iff_eq] at complete
    have running := complete.1.1
    exact kept_enterState_standingTest (by simp [inService_iff, running]) (by simp [running])
  next => exact .refl s

theorem kept_ceilingWork (s : State) : Kept s (ceilingWork s) := by
  unfold ceilingWork
  (repeat' split)
  · exact .refl s
  next p _ _ =>
    exact (kept_formCeiling s).trans ((kept_limitStep _).trans ((kept_superviseStep p _).trans
      ((kept_overspeedStep p _).trans (kept_completeStep _))))
  · exact .refl s

/-! ## Ticks -/

theorem kept_time (x : TimeBase) (s : State) : Kept s { s with time := x } := by
  apply Kept.of_same <;> rfl

theorem kept_sampleTick (s : State) : Kept s (sampleTick s) := by
  have due := kept_time { s.time with sampleDue := false } s
  unfold sampleTick
  (repeat' split)
  · exact .refl s
  · exact due
  · exact due.trans ((kept_trackerWork _).trans ((kept_envelopeWork _).trans ((kept_ceilingWork _).trans
      ((kept_loopWork _).trans ((kept_sequencerWork _).trans (kept_judgeClear _))))))
  · exact .refl s

/-- Reads of the profile memory move neither store nor profile. -/
theorem kept_passLoader (n : Nat) (s : State) : Kept s (passLoader n s) := by
  unfold passLoader
  split
  · apply Kept.of_same <;> rfl
  · exact .refl s

theorem kept_passTime (n : Nat) (s : State) : Kept s (passTime n s) :=
  (kept_passMicros n s).trans (Kept.trans (t := passLine _ (passMicros n s)) (by apply Kept.of_same <;> rfl)
    (kept_passLoader n _))

/-- The commands that wait are none of the invariants'. -/
theorem kept_pending (l : List Instr) (s : State) : Kept s { s with pending := l } := by
  apply Kept.of_same <;> rfl

theorem kept_endOctet (o : Byte) (s : State) : Kept s (endOctet o s) := by
  unfold endOctet
  split
  · exact kept_pending _ s
  · exact kept_port _ s
  · exact .refl s
  · exact .refl s

theorem kept_clockPort (s : State) : Kept s (clockPort s) := by
  unfold clockPort
  (repeat' split)
  · exact .refl s
  next b rest _ _ =>
    have taken := kept_inputs { s.inputs with service := rest } s
    unfold shiftBit
    split
    · exact taken.trans (kept_port _ _)
    · exact taken.trans ((kept_port _ _).trans (kept_endOctet _ _))
  · exact .refl s

theorem kept_microTick (s : State) : Kept s (microTick s) := by
  unfold microTick
  (repeat' split)
  · exact .refl s
  · exact kept_time _ s
  · exact (kept_passTime 1 s).trans ((kept_clockPort _).trans (kept_time _ _))

theorem kept_sampleEstop (pins : Pins) (s : State) : Kept s (sampleEstop pins s) := kept_inputs _ s

theorem kept_sampleDetectors (pins : Pins) (s : State) : Kept s (sampleDetectors pins s) := by
  unfold sampleDetectors
  split
  · exact kept_loop _ s
  · exact .refl s

@[simp] theorem sampleFeedback_state (now : Time) (lifted : Bool) (u : BrakeUnit) :
    (sampleFeedback now lifted u).state = u.state := by
  unfold sampleFeedback
  split <;> rfl

theorem kept_sampleFeedbacks (pins : Pins) (s : State) : Kept s (sampleFeedbacks pins s) := by
  unfold sampleFeedbacks
  split
  · refine Kept.of_brakes (.inr fun all => ?_) rfl rfl rfl rfl rfl rfl rfl rfl
    simpa [allApplied] using all
  · exact .refl s

theorem kept_gateTick (s : State) : Kept s (gateTick s) := by
  unfold gateTick
  (repeat' split)
  · exact kept_tracker_same rfl rfl
  · exact kept_tracker_same rfl rfl
  · exact .refl s

theorem kept_samplePins (pins : Pins) (s : State) : Kept s (samplePins pins s) := kept_inputs _ s

theorem kept_advance (s : State) : Kept s (advance s) := kept_time _ s

theorem kept_msTick (pins : Pins) (s : State) : Kept s (msTick pins s) := by
  unfold msTick
  (repeat' split)
  · exact kept_samplePins pins s
  · exact (kept_advance s).trans (kept_samplePins pins _)
  · exact (kept_passTime _ s).trans ((kept_advance _).trans ((kept_samplePins pins _).trans ((kept_peers _ _).trans
      ((kept_sampleEstop pins _).trans ((kept_sampleDetectors pins _).trans ((kept_sampleFeedbacks pins _).trans
        (kept_gateTick _)))))))

/-! ## Starts -/

theorem kept_power (x : Power) (s : State) : Kept s { s with power := x } := by
  apply Kept.of_same <;> rfl

/-- Every start sets the gates and the class of STARTING; only the records need those before. -/
theorem kept_coldStart (cause : ResetCause) (straps : Straps) (s : State) : Kept s (coldStart cause straps s) := by
  refine ⟨fun _ => ?_, fun _ => ?_, fun _ => ?_⟩
  · simp [gatesHold, ceilingGated, vpermGated, brakesGated, outputGated, runGated, originGated, locksGated, inState,
      isCar, isTerminal, role, coldStart, State.reset, allApplied, BrakeUnit.start]
    rfl
  · simp [classHolds, inState, resting, coldStart, State.reset]
  · rw [recordsHold_iff]
    simp [TripUnit.sound, coldStart, State.reset, serialsRise, nextFollows, Store.wf]

theorem kept_warmStart (cause : ResetCause) (straps : Straps) (s : State) : Kept s (warmStart cause straps s) := by
  have cold := kept_coldStart cause straps s
  refine ⟨fun holds => ?_, fun fits => (classHolds_congr rfl rfl).trans (cold.cls fits), fun holds => ?_⟩
  · have started := cold.gates holds
    simp only [gatesHold, Bool.and_eq_true] at started ⊢
    obtain ⟨⟨⟨⟨⟨⟨ceiling, vperm⟩, -⟩, output⟩, run⟩, origin⟩, locks⟩ := started
    exact ⟨⟨⟨⟨⟨⟨ceiling, vperm⟩, rfl⟩, output⟩, run⟩, origin⟩, locks⟩
  · have started := cold.records holds
    rw [recordsHold_iff] at holds started ⊢
    obtain ⟨trips, store, -⟩ := holds
    obtain ⟨-, -, rest⟩ := started
    exact ⟨trips, store, rest⟩

theorem kept_beginStart (cause : ResetCause) (straps : Straps) (s : State) : Kept s (beginStart cause straps s) := by
  unfold beginStart
  split
  · exact kept_coldStart _ straps s
  · exact kept_coldStart _ straps s
  · exact kept_warmStart _ straps s
  · exact kept_warmStart _ straps s

theorem kept_powerOn (straps : Straps) (s : State) : Kept s (powerOn straps s) := by
  have released := kept_power { s.power with supplyLow := false, hold := some .coldPower } s
  unfold powerOn
  dsimp only
  split
  · exact released
  · exact released.trans (kept_beginStart _ straps _)

theorem kept_supplyRecover (straps : Straps) (s : State) : Kept s (supplyRecover straps s) := by
  have recovered := kept_power { s.power with supplyLow := false, hold := some .coldSupply } s
  unfold supplyRecover
  dsimp only
  (repeat' split)
  · exact recovered
  · exact recovered.trans (kept_beginStart _ straps _)
  · exact .refl s

theorem kept_resetNRelease (straps : Straps) (s : State) : Kept s (resetNRelease straps s) := by
  have released := kept_power { s.power with resetLow := false } s
  unfold resetNRelease
  dsimp only
  (repeat' split)
  · exact released
  · exact released.trans (kept_beginStart _ straps _)
  · exact .refl s

theorem kept_deselect (straps : Straps) (s : State) : Kept s (deselect straps s) := by
  unfold deselect
  dsimp only
  (repeat' split)
  · exact kept_port _ s
  · exact (kept_port _ s).trans (kept_beginStart _ straps _)
  · exact kept_port _ s

/-! ## The load -/

/-- A step at the loader that leaves straps and profile, and writes octets to the store. -/
theorem kept_loader {l : Loader} {s : State} (straps : l.straps = s.loader.straps)
    (profile : l.profile = s.loader.profile ∨ l.profile.any Profile.fits = true)
    (store : Store.wf s.loader.store = true → Store.wf l.store = true) : Kept s { s with loader := l } := by
  refine ⟨(gatesHold_congr (s := s) (t := { s with loader := l }) rfl straps rfl rfl rfl rfl).trans,
    (classHolds_congr (s := s) rfl rfl).trans, fun holds => ?_⟩
  rw [recordsHold_iff] at holds ⊢
  obtain ⟨trips, wf, fits, started, rest⟩ := holds
  refine ⟨trips, store wf, ?_, ?_, rest⟩
  · rcases profile with same | loaded
    · exact same ▸ fits
    · obtain ⟨p, found, fitting⟩ := Option.any_eq_true _ _ |>.mp loaded
      simp [found, fitting]
  · rcases profile with same | loaded
    · exact same ▸ started
    · obtain ⟨p, found, -⟩ := Option.any_eq_true _ _ |>.mp loaded
      exact .inl (by simp [found])

theorem kept_endLoad (o : LoadOutcome) (s : State) : Kept s (endLoad o s) := by
  apply Kept.of_same <;> rfl

/-- The state with the header octets held (R6). -/
def headerHeld (format revision lengthHigh lengthLow : Byte) (s : State) : State :=
  { s with
    loader.store := Store.load s.loader.store [format, revision, lengthHigh, lengthLow]
    loader.heldLength := 4
    loader.bits := readBits 4 }

theorem kept_readHeader (format revision lengthHigh lengthLow : Byte) (s : State) :
    Kept s (readHeader format revision lengthHigh lengthLow s) := by
  have read : Kept s (headerHeld format revision lengthHigh lengthLow s) := kept_loader rfl (.inl rfl) (load_wf _ _)
  unfold readHeader
  dsimp only
  (repeat' split)
  · exact read.trans (kept_endLoad .profileAbsent _)
  · exact read.trans (kept_endLoad .profileCheck _)
  · exact read.trans (kept_loader rfl (.inl rfl) id)
  · exact .refl s

/-- An octet of a list of octets. -/
theorem octetAt_le (l : List Byte) (i : Nat) : octetAt l i ≤ 255 := by
  unfold octetAt
  omega

/-- What validation accepts keeps to its ranges, and its node count to an octet (R8 to R10). -/
theorem fits_of_validProfile {img : List Byte} {p : Profile} (valid : validProfile img = some p) : p.fits = true := by
  unfold validProfile at valid
  split at valid
  · rw [Option.filter_eq_some_iff] at valid
    obtain ⟨laid, holds⟩ := valid
    simp only [Bool.and_eq_true] at holds
    rw [Profile.fits_iff]
    refine ⟨holds.1.1, ?_⟩
    unfold readProfile at laid
    split at laid
    · obtain rfl := Option.some.inj laid
      simpa [tableAt] using octetAt_le img 48
    · cases laid
  · cases valid

/-- The state with a profile handed to the Peer View and the Envelope Calculator (R14, R63, R81). -/
def profileTaken (img : List Byte) (p : Profile) (s : State) : State :=
  { s with
    loader.fingerprint := storedCheck img
    loader.revision := p.revision
    loader.profile := some p
    peers := buildPeers p (ownId s)
    envelope.bEff := some p.bFloor }

theorem handOff_eq (img : List Byte) (p : Profile) (marker : Option (BitVec 5)) (s : State) :
    handOff img p marker s = startUpRead marker p (fold p (requestAnnounce (giveModes p (profileTaken img p s)))) := rfl

theorem kept_profileTaken {img : List Byte} {p : Profile} (s : State) (fits : p.fits = true) :
    Kept s (profileTaken img p s) := by
  have loaded : Kept s { s with loader :=
      { s.loader with fingerprint := storedCheck img, revision := p.revision, profile := some p } } :=
    kept_loader rfl (.inr (by simpa using fits)) id
  exact loaded.trans ((kept_peers (buildPeers p (ownId s)) _).trans
    (kept_envelope_same (k := { s.envelope with bEff := some p.bFloor }) rfl))

theorem kept_startUpRead (marker : Option (BitVec 5)) (p : Profile) (s : State) : Kept s (startUpRead marker p s) := by
  unfold startUpRead
  (repeat' split)
  · exact .refl s
  · exact kept_readMarker _ p s
  · exact .refl s

theorem kept_giveModes (p : Profile) (s : State) : Kept s (giveModes p s) :=
  .of_brakes (.inr id) rfl rfl rfl rfl rfl rfl rfl rfl

theorem kept_handOff {img : List Byte} {p : Profile} {marker : Option (BitVec 5)} {s : State} (fits : p.fits = true) :
    Kept s (handOff img p marker s) := by
  rw [handOff_eq]
  exact (kept_profileTaken s fits).trans ((kept_giveModes p _).trans ((kept_requestAnnounce _).trans
    ((kept_fold p _).trans (kept_startUpRead marker p _))))

theorem kept_finishRead (octets : List Byte) (marker : Option (BitVec 5)) (s : State) :
    Kept s (finishRead octets marker s) := by
  have read : Kept s { s with
      loader.store := Store.load s.loader.store (imageOf octets s)
      loader.heldLength := s.loader.imageLength
      loader.bits := readBits s.loader.imageLength } := kept_loader rfl (.inl rfl) (load_wf _ _)
  unfold finishRead
  dsimp only
  split
  · split
    · split
      · exact read.trans (kept_endLoad _ _)
      next p valid =>
        split
        · exact read.trans ((kept_endLoad _ _).trans (kept_handOff (fits_of_validProfile valid)))
        · exact read.trans (kept_endLoad _ _)
    · exact read.trans (kept_endLoad _ _)
  · exact .refl s

/-! ## The exit from STARTING -/

theorem kept_takeInputs (s : State) : Kept s (takeInputs s) := kept_inputs _ s

theorem kept_beginBeacons (s : State) : Kept s (beginBeacons s) := (kept_access _ s).trans (kept_wakeTransmitter _)

theorem kept_firstGate (s : State) : Kept s (firstGate s) := by
  unfold firstGate
  split
  · exact kept_tracker_same rfl rfl
  · exact .refl s

theorem kept_foldl {α : Type} {f : State → α → State} (step : ∀ s a, Kept s (f s a)) (l : List α) (s : State) :
    Kept s (l.foldl f s) := by
  induction l generalizing s with
  | nil => exact .refl s
  | cons a l ih => exact (step s a).trans (ih _)

theorem kept_startRises (p : Profile) (s : State) : Kept s (startRises p s) := by
  unfold startRises
  split
  · refine (kept_foldl (fun t d => kept_holdLevel d _ t) _ s).trans (kept_foldl (fun t d => ?_) _ _)
    split
    · exact kept_takeRise p d t
    · exact .refl t
  · exact .refl s

theorem exitState_rests (p : Profile) (s : State) : exitState p s = .dwell ∨ exitState p s = .hold := by
  unfold exitState
  (repeat' split) <;> simp

theorem kept_leaveStarting (s : State) : Kept s (leaveStarting s) := by
  have due := kept_time { s.time with sampleDue := false } s
  unfold leaveStarting
  dsimp only
  split
  next exits =>
    split
    next p profile =>
      have enters : ∀ u : State, u.loader.profile = some p → u.seq.state = .starting →
          Kept u (enterState (exitState p u) u) := by
        intro u loaded starting
        apply kept_enterState
        · rcases exitState_rests p u with h | h <;> simp [h]
        · rcases exitState_rests p u with h | h <;> simp [h]
        · simp [starting]
        · simp [loaded]
      refine due.trans ((kept_fold p _).trans ((enters _ ?_ ?_).trans ((kept_takeInputs _).trans
        ((kept_beginBeacons _).trans ((kept_firstGate _).trans ((kept_startRises p _).trans (kept_assertEstop _)))))))
      · simpa using profile
      · simp only [inState, Bool.and_eq_true, beq_iff_eq] at exits
        simpa using exits.1.1
    next =>
      exact due.trans ((kept_enterFaulted _ _).trans ((kept_takeInputs _).trans ((kept_beginBeacons _).trans
        (kept_assertEstop _))))
  next => exact .refl s

end Sys2Proof.Machine
end

section
/-! PROOF. Every command completes and carries the three invariants on, and so does every step (O1, O3, O57 to O60). -/

namespace Sys2Proof.Machine

/-! ## The queue is left alone -/

@[simp] theorem beginStart_pending (cause : ResetCause) (x : Straps) (s : State) :
    (beginStart cause x s).pending = s.pending := by
  cases cause <;> rfl

@[simp] theorem powerOn_pending (x : Straps) (s : State) : (powerOn x s).pending = s.pending := by
  simp [powerOn, apply_ite State.pending]

@[simp] theorem supplyRecover_pending (x : Straps) (s : State) : (supplyRecover x s).pending = s.pending := by
  simp [supplyRecover, apply_ite State.pending]

@[simp] theorem resetNRelease_pending (x : Straps) (s : State) : (resetNRelease x s).pending = s.pending := by
  simp [resetNRelease, apply_ite State.pending]

@[simp] theorem select_pending (s : State) : (select s).pending = s.pending := by
  simp [select, apply_ite State.pending]

@[simp] theorem deselect_pending (x : Straps) (s : State) : (deselect x s).pending = s.pending := by
  simp [deselect, apply_ite State.pending]

@[simp] theorem capture_pending (reply : State → Status × List Byte) (s : State) :
    (capture reply s).pending = s.pending := by
  simp [capture, apply_ite State.pending]

@[simp] theorem takeRestart_pending (s : State) : (takeRestart s).pending = s.pending := by
  simp [takeRestart, apply_ite State.pending]

@[simp] theorem takeClear_pending (s : State) : (takeClear s).pending = s.pending := by
  simp [takeClear, apply_ite State.pending]

@[simp] theorem readHeader_pending (f r h l : Byte) (s : State) : (readHeader f r h l s).pending = s.pending := by
  simp [readHeader, apply_ite State.pending]

@[simp] theorem startUpRead_pending (m : Option (BitVec 5)) (p : Profile) (s : State) :
    (startUpRead m p s).pending = s.pending := by
  unfold startUpRead
  (repeat' split) <;> simp

@[simp] theorem handOff_pending (img : List Byte) (p : Profile) (m : Option (BitVec 5)) (s : State) :
    (handOff img p m s).pending = s.pending := by
  simp [handOff_eq, profileTaken]

@[simp] theorem finishRead_pending (octets : List Byte) (m : Option (BitVec 5)) (s : State) :
    (finishRead octets m s).pending = s.pending := by
  unfold finishRead
  dsimp only
  (repeat' split) <;> simp

@[simp] theorem beginBeacons_pending (s : State) : (beginBeacons s).pending = s.pending := by
  simp [beginBeacons]

@[simp] theorem firstGate_pending (s : State) : (firstGate s).pending = s.pending := by
  simp [firstGate, apply_ite State.pending]

theorem pending_foldl {α : Type} {f : State → α → State} (step : ∀ s a, (f s a).pending = s.pending) (l : List α)
    (s : State) : (l.foldl f s).pending = s.pending := by
  induction l generalizing s with
  | nil => rfl
  | cons a l ih => exact (ih _).trans (step s a)

@[simp] theorem startRises_pending (p : Profile) (s : State) : (startRises p s).pending = s.pending := by
  unfold startRises takeLevels
  split
  · refine (pending_foldl (fun t d => ?_) _ _).trans (pending_foldl (fun t d => ?_) _ s)
    · simp [apply_ite State.pending]
    · simp
  · rfl

@[simp] theorem leaveStarting_pending (s : State) : (leaveStarting s).pending = s.pending := by
  unfold leaveStarting
  dsimp only
  (repeat' split) <;> simp

@[simp] theorem sampleDetectors_pending (pins : Pins) (s : State) : (sampleDetectors pins s).pending = s.pending := by
  simp [sampleDetectors, apply_ite State.pending]

@[simp] theorem sampleFeedbacks_pending (pins : Pins) (s : State) : (sampleFeedbacks pins s).pending = s.pending := by
  simp [sampleFeedbacks, apply_ite State.pending]

@[simp] theorem gateTick_pending (s : State) : (gateTick s).pending = s.pending := by
  simp [gateTick, apply_ite State.pending]

@[simp] theorem msTick_pending (pins : Pins) (s : State) : (msTick pins s).pending = s.pending := by
  simp [msTick, liveTick, apply_ite State.pending]

@[simp] theorem sampleTick_pending (s : State) : (sampleTick s).pending = s.pending := by
  simp [sampleTick, sampleWork, apply_ite State.pending]

/-! ## Every command completes -/

theorem completes_act {f : State → State} {s : State} (kept : Kept s (f s)) (pending : (f s).pending = s.pending) :
    ∃ t, act f s = .next t ∧ Kept s t ∧ t.pending = s.pending := by
  refine ⟨_, rfl, ?_⟩
  split
  · exact ⟨.refl s, rfl⟩
  · exact ⟨kept.trans (kept_settleSpell s _), by simpa using pending⟩

theorem completes_live {f : State → State} {s : State} (kept : Kept s (f s)) (pending : (f s).pending = s.pending) :
    ∃ t, live f s = .next t ∧ Kept s t ∧ t.pending = s.pending := by
  refine ⟨_, rfl, ?_⟩
  split
  · exact ⟨.refl s, rfl⟩
  · exact ⟨kept, pending⟩

/-- Every command answers a next state, which carries the invariants on and leaves the queue alone. -/
theorem exec_completes (c : Instr) (s : State) : ∃ t, exec c s = .next t ∧ Kept s t ∧ t.pending = s.pending := by
  cases c with
  | powerOn _ => exact ⟨_, rfl, kept_powerOn _ s, by simp⟩
  | supplyLow => exact ⟨_, rfl, kept_power _ s, rfl⟩
  | supplyRecover _ => exact ⟨_, rfl, kept_supplyRecover _ s, by simp⟩
  | resetNAssert => exact ⟨_, rfl, kept_power _ s, rfl⟩
  | resetNRelease _ => exact ⟨_, rfl, kept_resetNRelease _ s, by simp⟩
  | headerRead _ _ _ _ => exact completes_live (kept_readHeader _ _ _ _ s) (by simp)
  | profileReadDone _ _ => exact completes_live (kept_finishRead _ _ s) (by simp)
  | startingExit => exact completes_act (kept_leaveStarting s) (by simp)
  | msTick _ => exact ⟨_, rfl, kept_msTick _ s, by simp⟩
  | sampleTick => exact completes_act (kept_sampleTick s) (by simp)
  | quadratureEdge _ _ => exact ⟨_, rfl, kept_sampleChannels _ _ s, by simp⟩
  | markerRead _ => exact completes_live (kept_takeMarker _ s) (by simp)
  | weighingGateEnd => exact completes_live (kept_endGate s) (by simp)
  | estopAssert => exact completes_act (kept_assertEstop s) (by simp)
  | estopRelease => exact completes_live (kept_releaseEstop s) (by simp)
  | ackPress => exact completes_act (kept_takeAck s) (by simp)
  | dispatchPress _ => exact completes_act (kept_takeDispatch _ s) (by simp)
  | standDownPress => exact completes_act (kept_takeStandDown s) (by simp)
  | standUpPress => exact completes_act (kept_takeStandUp s) (by simp)
  | doorContactChange => exact completes_act (kept_changeDoor s) (by simp)
  | gateContactChange => exact completes_act (kept_changeGate s) (by simp)
  | detectorRise _ => exact completes_act (kept_riseEdge _ s) (by simp)
  | detectorFall _ => exact completes_act (kept_fallEdge _ s) (by simp)
  | feedbackLifted _ => exact completes_act (kept_liftByFeedback _ s) (by simp)
  | feedbackApplied _ => exact completes_live (kept_clearReleaseLatch _ s) (by simp)
  | fixedLiftDone _ => exact completes_act (kept_liftByTime _ s) (by simp)
  | liftTimeout _ => exact completes_act (kept_timeOutLift _ s) (by simp)
  | holdCheck _ => exact completes_act (kept_holdCheck _ s) (by simp)
  | releaseCheck _ => exact completes_act (kept_releaseCheck _ s) (by simp)
  | beaconDue => exact completes_live (kept_takeDue s) (by simp)
  | attemptStart => exact completes_live (kept_startAttempt s) (by simp)
  | lineLost => exact completes_live (kept_loseLine s) (by simp)
  | attemptComplete => exact completes_live (kept_completeAttempt s) (by simp)
  | receiveBadFrame _ => exact completes_live (kept_takeBadFrame _ s) (by simp)
  | receiveBeacon _ => exact completes_act (kept_receive (kept_takeBeacon _)) (by simp)
  | receiveAnnounce _ => exact completes_act (kept_receive (fun _ _ _ => kept_acceptAnnounce _ _ _ _ _)) (by simp)
  | entryStale _ => exact completes_act (kept_makeStale _ s) (by simp)
  | entryLost _ => exact completes_act (kept_makeLost _ s) (by simp)
  | armingDeadline => exact completes_act (kept_expireArming s) (by simp)
  | refusalWindowEnd => exact completes_live (kept_endRefusal s) (by simp)
  | downshift => exact completes_act (kept_downshift s) (by simp)
  | standDownDeadline => exact completes_act (kept_expireStandDown s) (by simp)
  | alertPulseEnd => exact completes_live (kept_endAlert s) (by simp)
  | ceilingApply => exact completes_live (kept_applyCeiling s) (by simp)
  | highPhaseEnd => exact completes_live (kept_endHigh s) (by simp)
  | periodEnd => exact completes_live (kept_endPeriod s) (by simp)
  | serviceSelect => exact ⟨_, rfl, kept_select s, by simp⟩
  | serviceDeselect _ => exact ⟨_, rfl, kept_deselect _ s, by simp⟩
  | status _ => exact completes_live (kept_capture _ s) (by simp)
  | peer _ => exact completes_live (kept_capture _ s) (by simp)
  | trip _ => exact completes_live (kept_capture _ s) (by simp)
  | profile _ => exact completes_live (kept_capture _ s) (by simp)
  | restart _ => exact completes_live (kept_takeRestart s) (by simp)
  | clearHistory _ => exact completes_live (kept_takeClear s) (by simp)
  | unknown _ _ => exact completes_live (kept_capture _ s) (by simp)
  | weighingPulseEdge => exact completes_live (kept_countPulse s) (by simp)

/-- Settles O3: each command is one of the three forms of a block's work, each of which answers a next state. -/
theorem everyCommandCompletes : Obligations.EveryCommandCompletes := by
  intro c s
  obtain ⟨t, outcome, -, pending⟩ := exec_completes c s
  exact ⟨t, outcome, pending⟩

/-- A step is a command or a microsecond, and either carries the invariants on. -/
theorem kept_step {s t : State} (steps : step s = .next t) : Kept s t := by
  unfold step at steps
  split at steps
  · obtain rfl := Host.Outcome.next.inj steps
    exact kept_microTick s
  next c rest _ =>
    obtain ⟨u, outcome, kept, -⟩ := exec_completes c { s with pending := rest }
    rw [outcome] at steps
    obtain rfl := Host.Outcome.next.inj steps
    exact (kept_pending rest s).trans kept

/-- Settles O57. -/
theorem stepKeepsTheGates : Obligations.StepKeepsTheGates :=
  fun _ _ holds steps => (kept_step steps).gates holds

/-- Settles O58. -/
theorem classFitsTheState : Obligations.ClassFitsTheState :=
  fun _ _ holds steps => (kept_step steps).cls holds

/-- Settles O59. -/
theorem stepKeepsTheRecords : Obligations.StepKeepsTheRecords :=
  fun _ _ holds steps => (kept_step steps).records holds

/-- Settles O60: the reset state is one closed term, which the invariants evaluate. -/
theorem invariantsHoldAtReset : Obligations.InvariantsHoldAtReset := by
  refine ⟨?_, ?_, ?_, rfl, rfl, rfl, rfl, rfl⟩ <;> decide

/-- Settles O1. -/
theorem stepTakesTheFrontCommand : Obligations.StepTakesTheFrontCommand := by
  intro c rest s front
  simp [step, front]

end Sys2Proof.Machine
end

section
/-! PROOF. The microsecond of an empty queue, the hold, and the beginnings of the two kinds of start (O2, O4 to O6). -/

namespace Sys2Proof.Machine

/-! ## A microsecond (R1, R6, R65, R116, R190) -/

theorem memorySelect_congr {s t : State} (power : t.power = s.power) (state : t.seq.state = s.seq.state)
    (stage : t.loader.stage = s.loader.stage) : memorySelect t = memorySelect s := by
  simp [memorySelect, held, inState, power, state, stage]

/-- Octets of the read that the loader has clocked in after some microseconds (R6). -/
def loaderBits (n : Nat) (s : State) : Nat :=
  if memorySelect s then min (max s.loader.bits (readBits (octetsToRead s.loader))) (s.loader.bits + n)
  else s.loader.bits

/-- What passes with the microseconds, block by block. -/
theorem passTime_eq (n : Nat) (s : State) : passTime n s =
    { s with
      generator.micros := min (phaseMicros s.generator) (s.generator.micros + n)
      access := bitTimes (deferralGap (ownId s)) (bitsWithin n s.time.micros) s.inputs.line s.access
      inputs.line := s.inputs.line.drop (bitsWithin n s.time.micros)
      loader.bits := loaderBits n s } := by
  have select : memorySelect (passLine (bitsWithin n s.time.micros) (passMicros n s)) = memorySelect s :=
    memorySelect_congr rfl rfl rfl
  unfold passTime passLoader loaderBits
  rw [select]
  split <;> rfl

/-- A bit time ends at every eighth microsecond (R65). -/
theorem bitsWithin_one (m : Nat) : bitsWithin 1 m = if (m + 1) % 8 = 0 then 1 else 0 := by
  unfold bitsWithin Config.bitMicros
  split <;> omega

/-- The clock moves only the bits to come, the port and the queue. -/
theorem clockPort_moves (s : State) :
    ∃ bits port pending, clockPort s = { s with inputs.service := bits, port := port, pending := pending } := by
  unfold clockPort
  (repeat' split)
  · exact ⟨_, _, _, rfl⟩
  · unfold shiftBit endOctet
    (repeat' split) <;> exact ⟨_, _, _, rfl⟩
  · exact ⟨_, _, _, rfl⟩

theorem clockPort_of_idle {s : State} (idle : s.port.selected = false ∨ s.inputs.service = []) : clockPort s = s := by
  unfold clockPort
  split
  · rfl
  next bit rest bits => simp [bits] at idle; simp [idle]

theorem clockPort_of_bit {s : State} {b : Bool} {rest : List Bool} (bits : s.inputs.service = b :: rest)
    (selected : s.port.selected = true) : clockPort s = shiftBit b { s with inputs.service := rest } := by
  simp [clockPort, bits, selected]

/-- The eighth bit completes an octet: a command asked for, or one more octet of the answer (R190, R191). -/
theorem endOctet_port (o : Byte) (s : State) :
    (endOctet o s).port =
        { s.port with sent := if s.port.state = .answer then min (s.port.sent + 1) s.port.answer.length else s.port.sent }
      ∧ (endOctet o s).pending = s.pending ++ (if s.port.state = .command then [decodeService o] else []) := by
  unfold endOctet
  cases state : s.port.state <;> simp

/-- A bit shifted in, and an octet completed with every eighth (R190). -/
theorem shiftBit_port (b : Bool) (s : State) :
    (shiftBit b s).inputs = s.inputs
      ∧ (if s.port.shift.length < 7 then
          (shiftBit b s).port = { s.port with shift := s.port.shift ++ [b] } ∧ (shiftBit b s).pending = s.pending
        else
          (shiftBit b s).port =
              { s.port with
                shift := []
                sent := if s.port.state = .answer then min (s.port.sent + 1) s.port.answer.length else s.port.sent }
            ∧ (shiftBit b s).pending = s.pending
                ++ (if s.port.state = .command then [decodeService (octetHigh (s.port.shift ++ [b]))] else [])) := by
  unfold shiftBit
  split
  · exact ⟨rfl, rfl, rfl⟩
  · exact ⟨by simp, endOctet_port _ _⟩

theorem microTick_of_rests {s : State} (rests : coldHold s = true ∨ 999 ≤ s.time.micros) : microTick s = s := by
  simp [microTick, rests]

theorem microTick_of_held {s : State} (cold : coldHold s = false) (before : s.time.micros < 999)
    (holds : held s = true) : microTick s = { s with time.micros := s.time.micros + 1 } := by
  simp [microTick, cold, holds, before]

theorem coldHold_of_not_held {s : State} (live : held s = false) : coldHold s = false := by
  simp only [held, Option.isSome_eq_false_iff, Option.isNone_iff_eq_none] at live
  simp [coldHold, live]

theorem microTick_of_live {s : State} (live : held s = false) (before : s.time.micros < 999) :
    microTick s = { clockPort (passTime 1 s) with time.micros := s.time.micros + 1 } := by
  simp [microTick, coldHold_of_not_held live, live, before]

/-- Settles O2. -/
theorem emptyQueueCountsAMicrosecond : Obligations.EmptyQueueCountsAMicrosecond := by
  intro s empty
  refine ⟨microTick s, by simp [step, empty], microTick_of_rests, microTick_of_held, fun live before => ?_⟩
  rw [microTick_of_live live before]
  have passed := passTime_eq 1 s
  rw [bitsWithin_one] at passed
  refine ⟨?_, ?_, fun idle => ?_, fun b bit selected => ?_⟩
  · obtain ⟨bits, port, pending, clocked⟩ := clockPort_moves (passTime 1 s)
    rw [clocked, passed]
    rfl
  · obtain ⟨bits, port, pending, clocked⟩ := clockPort_moves (passTime 1 s)
    rw [clocked, passed]
    split
    next eighth => exact ⟨rfl, by simp⟩
    next between => exact ⟨rfl, rfl⟩
  · rw [clockPort_of_idle (by simpa [passed] using idle), passed]
    exact ⟨rfl, rfl, empty⟩
  · obtain ⟨rest, bits⟩ : ∃ rest, s.inputs.service = b :: rest := by
      cases bits : s.inputs.service <;> simp_all
    have port : (passTime 1 s).port = s.port := by simp
    have pending : (passTime 1 s).pending = [] := by simpa using empty
    rw [clockPort_of_bit (b := b) (rest := rest) (by rw [passed]; exact bits) (port ▸ selected), bits]
    generalize passTime 1 s = u at port pending
    obtain ⟨inputs, shifted⟩ := shiftBit_port b { u with inputs.service := rest }
    refine ⟨congrArg Inputs.service inputs, ?_⟩
    simpa [port, pending] using shifted

/-! ## The hold (R2) -/

/-- Every command of a block stands behind the hold. -/
theorem exec_forBlocks {c : Instr} (blocks : forBlocks c = true) (s : State) :
    ∃ t, exec c s = .next (if held s then s else t) := by
  cases c
  case powerOn | supplyLow | supplyRecover | resetNAssert | resetNRelease | msTick | quadratureEdge | serviceSelect
      | serviceDeselect => cases blocks
  all_goals exact ⟨_, rfl⟩

theorem outputsInactive_of_held {s : State} (holds : held s = true) : outputsInactive s = true := by
  simp [outputsInactive, driveEn, ceilingOut, liftOutput, doorReleaseOut, gateReleaseOut, alertOut, goLamp, stopLamp,
    memorySelect, lineOut, holds]

theorem exec_powerOn_eq (x : Straps) (s : State) : exec (.powerOn x) s = .next (powerOn x s) := rfl

theorem exec_supplyRecover_eq (x : Straps) (s : State) : exec (.supplyRecover x) s = .next (supplyRecover x s) := rfl

theorem exec_resetNRelease_eq (x : Straps) (s : State) : exec (.resetNRelease x) s = .next (resetNRelease x s) := rfl

theorem exec_serviceDeselect_eq (x : Straps) (s : State) : exec (.serviceDeselect x) s = .next (deselect x s) := rfl

/-- Settles O4. -/
theorem holdKeepsThePart : Obligations.HoldKeepsThePart := by
  intro c x s
  refine ⟨fun holds => ⟨outputsInactive_of_held holds, fun blocks => ?_⟩, rfl, ?_, fun low => ?_, fun low supply => ?_,
    fun low supply => ?_⟩
  · obtain ⟨t, outcome⟩ := exec_forBlocks blocks s
    rw [outcome, if_pos holds]
  · cases hold : s.power.hold <;> simp [exec, execResetNAssert, hold]
  · simp [exec_powerOn_eq, powerOn, low]
  · simp [exec_supplyRecover_eq, supplyRecover, low, supply]
  · simp [exec_resetNRelease_eq, resetNRelease, low, supply]

/-! ## The starts (R2, R3) -/

/-- What stands at the power supply, and whether the port is selected, is not part of what a start leaves of the state
before it. -/
theorem startBegun_coldStart (cause : ResetCause) (x : Straps) (s : State) :
    startBegun cause x s.port.selected s (coldStart cause x s) := by
  unfold startBegun
  exact ⟨rfl, rfl, rfl, rfl, rfl, rfl, rfl, rfl, rfl, rfl, rfl, rfl, rfl, rfl, rfl, rfl⟩

theorem coldlyBegun_coldStart (cause : ResetCause) (x : Straps) (s : State) : coldlyBegun (coldStart cause x s) :=
  ⟨rfl, rfl, rfl, rfl, rfl, rfl, rfl, rfl, rfl⟩

theorem startBegun_warmStart (cause : ResetCause) (x : Straps) (s : State) :
    startBegun cause x s.port.selected s (warmStart cause x s) := by
  unfold startBegun
  exact ⟨rfl, rfl, rfl, rfl, rfl, rfl, rfl, rfl, rfl, rfl, rfl, rfl, rfl, rfl, rfl, rfl⟩

theorem warmlyBegun_warmStart (cause : ResetCause) (x : Straps) (s : State) :
    warmlyBegun x s (warmStart cause x s) := by
  refine ⟨rfl, rfl, rfl, ?_, fun encoder => ?_, rfl, rfl, rfl⟩
  · simp only [warmStart]
    cases s.tracker.quality <;> rfl
  · rcases encoder with h | h <;> simp [warmStart, keptCounts, keptMark, h]

/-- Settles O5: each of the three ways leads to `coldStart`, of a state that differs in the power record alone. -/
theorem coldStartBeginsAfresh : Obligations.ColdStartBeginsAfresh := by
  rintro c x cause s (⟨rfl, rfl, reset⟩ | ⟨rfl, rfl, supply, reset⟩ | ⟨rfl, reset, supply, hold, cold⟩)
  · refine ⟨_, exec_powerOn_eq x s, ?_⟩
    simp only [powerOn, reset, Bool.false_eq_true, if_false]
    exact ⟨startBegun_coldStart .coldPower x s, coldlyBegun_coldStart _ x _, rfl, rfl⟩
  · refine ⟨_, exec_supplyRecover_eq x s, ?_⟩
    simp only [supplyRecover, supply, reset, Bool.false_eq_true, if_false, if_true]
    exact ⟨startBegun_coldStart .coldSupply x s, coldlyBegun_coldStart _ x _, rfl, rfl⟩
  · refine ⟨_, exec_resetNRelease_eq x s, ?_⟩
    simp only [resetNRelease, supply, reset, hold, Bool.false_eq_true, if_false, if_true, Option.getD_some]
    rcases cold with rfl | rfl
    · exact ⟨startBegun_coldStart .coldPower x s, coldlyBegun_coldStart _ x _, rfl, rfl⟩
    · exact ⟨startBegun_coldStart .coldSupply x s, coldlyBegun_coldStart _ x _, rfl, rfl⟩

/-- Settles O6: both ways lead to `warmStart`, from the deselection with the port returned to IDLE. -/
theorem warmStartRetains : Obligations.WarmStartRetains := by
  rintro c x cause s (⟨rfl, rfl, reset, supply, hold⟩ | ⟨rfl, rfl, live, selected, restart⟩)
  · refine ⟨_, exec_resetNRelease_eq x s, ?_⟩
    simp only [resetNRelease, supply, reset, hold, Bool.false_eq_true, if_false, if_true, Option.getD_some]
    exact ⟨startBegun_warmStart .warmLine x s, warmlyBegun_warmStart .warmLine x s⟩
  · refine ⟨_, exec_serviceDeselect_eq x s, ?_⟩
    simp only [deselect, live, selected, restart, Bool.false_eq_true, if_false, if_true, Bool.and_self]
    exact ⟨startBegun_warmStart .warmService x { s with port := _ }, warmlyBegun_warmStart .warmService x s⟩

end Sys2Proof.Machine
end

section
/-! PROOF. The load of the profile: the header, the image that fails, the image that is handed off, and the peer table
(O7 to O10). -/

namespace Sys2Proof.Machine

/-! ## Commands behind the hold -/

theorem live_of_not_held {s : State} (f : State → State) (live' : held s = false) : live f s = .next (f s) := by
  simp [live, live']

theorem exec_headerRead_eq (f r h l : Byte) (s : State) : exec (.headerRead f r h l) s = live (readHeader f r h l) s := rfl

theorem exec_profileReadDone_eq (octets : List Byte) (m : Option (BitVec 5)) (s : State) :
    exec (.profileReadDone octets m) s = live (finishRead octets m) s := rfl

/-! ## What a load leaves in the store (R3, R7) -/

theorem read_append (k m : List Host.Cell) (a : Nat) (absent : ∀ c ∈ k, c.1 ≠ a) :
    Store.read (k ++ m) a = Store.read m a := by
  induction k with
  | nil => rfl
  | cons c k ih =>
    obtain ⟨x, y⟩ := c
    simp only [List.forall_mem_cons] at absent
    simp only [List.cons_append, Store.read, if_neg absent.1]
    exact ih absent.2

theorem cellsFrom_below (l : List Byte) (n : Nat) : ∀ c ∈ Store.cellsFrom n l, c.1 < n + l.length := by
  induction l generalizing n with
  | nil => simp [Store.cellsFrom]
  | cons b l ih =>
    intro c listed
    have later : c ∈ Store.cellsFrom (n + 1) l → c.1 < n + (b :: l).length := by
      intro there
      have := ih (n + 1) c there
      simp only [List.length_cons]
      omega
    simp only [Store.cellsFrom] at listed
    split at listed
    · exact later listed
    · rcases List.mem_cons.1 listed with rfl | there
      · simp
      · exact later there

theorem read_filter (q : Host.Cell → Bool) (m : List Host.Cell) (a : Nat) (kept : ∀ v, q (a, v) = true) :
    Store.read (m.filter q) a = Store.read m a := by
  induction m with
  | nil => rfl
  | cons c m ih =>
    obtain ⟨x, y⟩ := c
    by_cases here : x = a
    · subst here
      simp [kept, Store.read]
    · rw [List.filter_cons]
      split
      · simp only [Store.read, if_neg here, ih]
      · simp only [Store.read, if_neg here, ih]

/-- The octets beyond a load stay in place (R3). -/
theorem read_load_beyond (m : List Host.Cell) (l : List Byte) (a : Nat) (beyond : l.length ≤ a) :
    Store.read (Store.load m l) a = Store.read m a := by
  unfold Store.load
  rw [read_append, read_filter]
  · simpa using beyond
  · intro c listed here
    have := cellsFrom_below l 0 c listed
    omega

/-- A load is read back whole. -/
theorem take_load (m : List Host.Cell) (l : List Byte) (room : l.length ≤ 512) :
    Store.take (Store.load m l) l.length = l := by
  unfold Store.take
  refine List.ext_getElem (by simp) fun i _ inside => ?_
  rw [List.getElem_map, List.getElem_range, read_load m l i inside (lt_of_lt_of_le inside room)]
  simp [inside]

/-! ## The header (R6, R7) -/

/-- The read instruction 0x03 and an offset of 0, bit by bit (R6). -/
theorem serialBit_readInstruction :
    ∀ i < 24, serialBit Config.readInstruction i = some (decide (i = 6 ∨ i = 7)) := by decide

theorem serialBit_beyond_readInstruction {i : Nat} (beyond : 24 ≤ i) : serialBit Config.readInstruction i = none := by
  have octets : Config.readInstruction.length ≤ i / 8 := by
    simp only [Config.readInstruction, List.length_cons, List.length_nil]
    omega
  simp [serialBit, octets]

theorem memorySelect_of_reading {s : State} (live : held s = false) (starting : s.seq.state = .starting)
    (stage : s.loader.stage ≠ .ended) : memorySelect s = true := by
  simp [memorySelect, inState, live, starting, stage]

theorem memorySelect_of_ended {s : State} (ended : s.loader.stage = .ended) : memorySelect s = false := by
  simp [memorySelect, ended]

/-- The judgement of the header, with its octets held (R7). -/
theorem readHeader_eq {f r h l : Byte} {s : State} (starting : s.seq.state = .starting)
    (stage : s.loader.stage = .header) : readHeader f r h l s =
      if f ≠ 0x2C#8 then endLoad .profileAbsent (headerHeld f r h l s)
      else if h.toNat * 256 + l.toNat < 106 ∨ 512 < h.toNat * 256 + l.toNat then
        endLoad .profileCheck (headerHeld f r h l s)
      else { headerHeld f r h l s with
        loader := { (headerHeld f r h l s).loader with stage := .body, imageLength := h.toNat * 256 + l.toNat } } := by
  simp only [readHeader, inState, starting, stage]
  rfl

/-- Settles O7. -/
theorem headerIsHeldAndJudged : Obligations.HeaderIsHeldAndJudged := by
  intro f r h l a s live starting stage
  have select := memorySelect_of_reading live starting (by simp [stage])
  refine ⟨select, fun early => ?_, fun late => ?_, readHeader f r h l s, ?_, ?_⟩
  · rw [memoryOut, if_pos select, serialBit_readInstruction _ early]
  · rw [memoryOut, if_pos select, serialBit_beyond_readInstruction late]
  · rw [exec_headerRead_eq, live_of_not_held _ live]
  · have store : Store.take (headerHeld f r h l s).loader.store 4 = [f, r, h, l] :=
      take_load s.loader.store [f, r, h, l] (by simp)
    have kept : 4 ≤ a → Store.read (headerHeld f r h l s).loader.store a = Store.read s.loader.store a :=
      read_load_beyond s.loader.store [f, r, h, l] a
    have reading : ∀ n, memorySelect { headerHeld f r h l s with
        loader := { (headerHeld f r h l s).loader with stage := .body, imageLength := n } } = true :=
      fun n => memorySelect_of_reading (by exact live) starting (by simp)
    rw [readHeader_eq starting stage]
    split
    · exact ⟨rfl, rfl, store, kept, rfl, memorySelect_of_ended rfl⟩
    · split
      · exact ⟨rfl, rfl, store, kept, rfl, memorySelect_of_ended rfl⟩
      · exact ⟨rfl, rfl, store, kept, rfl, rfl, reading _, rfl⟩

/-! ## The image (R7 to R13) -/

/-- The state with the whole image held (R7). -/
def imageHeld (octets : List Byte) (s : State) : State :=
  { s with
    loader.store := Store.load s.loader.store (imageOf octets s)
    loader.heldLength := s.loader.imageLength
    loader.bits := readBits s.loader.imageLength }

/-- The judgement of the image, with its octets held (R7, R9 to R14). -/
theorem finishRead_eq {octets : List Byte} {m : Option (BitVec 5)} {s : State} (starting : s.seq.state = .starting)
    (stage : s.loader.stage = .body) : finishRead octets m s =
      if imageChecks (imageOf octets s) then
        match validProfile (imageOf octets s) with
        | none => endLoad .profileContent (imageHeld octets s)
        | some p =>
          if (ownEntry p s.loader.straps).isSome then
            handOff (imageOf octets s) p m (endLoad .loaded (imageHeld octets s))
          else endLoad .roleMismatch (imageHeld octets s)
      else endLoad .profileCheck (imageHeld octets s) := by
  simp only [finishRead, inState, starting, stage]
  rfl

/-- An image whose octets are all given is the header held and those octets (R7). -/
theorem imageOf_of_given {octets : List Byte} {s : State} (given : s.loader.imageLength = octets.length + 4) :
    imageOf octets s = Store.take s.loader.store 4 ++ octets := by
  have clocked : clockedIn octets octets.length = octets := by
    unfold clockedIn
    refine List.ext_getElem (by simp) fun i _ inside => ?_
    simp [inside]
  simp [imageOf, given, clocked]

theorem take_imageHeld {octets : List Byte} {s : State} (given : s.loader.imageLength = octets.length + 4)
    (room : s.loader.imageLength ≤ 512) :
    Store.take (imageHeld octets s).loader.store s.loader.imageLength = Store.take s.loader.store 4 ++ octets := by
  have length : s.loader.imageLength = (imageOf octets s).length := by
    simp only [imageOf_of_given given, Store.take, List.length_append, List.length_map, List.length_range]
    omega
  have back := take_load s.loader.store (imageOf octets s) (length ▸ room)
  rw [← length] at back
  rw [← imageOf_of_given given]
  exact back

theorem readBits_eq (n : Nat) : readBits n = 8 * (n + 3) := by
  simp only [readBits, Config.readInstruction, List.length_cons, List.length_nil]
  omega

/-- Settles O8. -/
theorem badImageEndsTheLoad : Obligations.BadImageEndsTheLoad := by
  intro octets m s live starting stage given room bad
  refine ⟨finishRead octets m s, by rw [exec_profileReadDone_eq, live_of_not_held _ live], ?_⟩
  have image := imageOf_of_given given
  have back := take_imageHeld given room
  have ended : finishRead octets m s = endLoad
      (if imageChecks (Store.take s.loader.store 4 ++ octets) = false then .profileCheck
        else if (validProfile (Store.take s.loader.store 4 ++ octets)).isNone then .profileContent
        else .roleMismatch) (imageHeld octets s) := by
    rw [finishRead_eq starting stage, image]
    cases checks : imageChecks (Store.take s.loader.store 4 ++ octets) with
    | false => simp
    | true =>
      cases valid : validProfile (Store.take s.loader.store 4 ++ octets) with
      | none => simp
      | some p =>
        have strapped : ownEntry p s.loader.straps = none := by simpa [checks, valid] using bad
        simp [strapped]
  rw [ended]
  refine ⟨rfl, ?_, back⟩
  rw [← readBits_eq]
  rfl

/-! ## The hand-off (R14, R22, R63) -/

/-- In STARTING the mark alone is set: no attempt is prepared (R71, R76). -/
theorem requestAnnounce_of_starting {s : State} (starting : s.seq.state = .starting) :
    requestAnnounce s = { s with access.pendingAnnounce := true } := by
  simp [requestAnnounce, wakeTransmitter, inState, starting]

theorem fold_of_encoder {p : Profile} {s : State} (encoder : hasEncoder s = true) : fold p s =
    { s with
      tracker.counts := sat32 (s.tracker.counts + invertedDelta s p)
      tracker.delta := 0
      tracker.illegal := false } := by
  simp [fold, encoder]

theorem fold_of_no_encoder {p : Profile} {s : State} (encoder : hasEncoder s = false) : fold p s = s := by
  simp [fold, encoder]

theorem fold_moves (p : Profile) (s : State) : fold p s = { s with tracker := (fold p s).tracker } := by
  unfold fold
  split <;> rfl

theorem readMarker_moves (c : BitVec 5) (p : Profile) (s : State) :
    readMarker c p s = { s with tracker := (readMarker c p s).tracker } := by
  unfold readMarker
  (repeat' split) <;> rfl

theorem startUpRead_moves (m : Option (BitVec 5)) (p : Profile) (s : State) :
    startUpRead m p s = { s with tracker := (startUpRead m p s).tracker } := by
  unfold startUpRead
  (repeat' split)
  · rfl
  · exact readMarker_moves _ p s
  · rfl

/-- A read leaves the delta counter and its mark to the next take (R18, R23). -/
theorem startUpRead_gathered (m : Option (BitVec 5)) (p : Profile) (s : State) :
    (startUpRead m p s).tracker.delta = s.tracker.delta ∧ (startUpRead m p s).tracker.illegal = s.tracker.illegal := by
  unfold startUpRead readMarker
  (repeat' split) <;> exact ⟨rfl, rfl⟩

theorem startUpRead_of_none {m : Option (BitVec 5)} {p : Profile} {s : State} (none : isCar s = false ∨ m = none) :
    startUpRead m p s = s := by
  unfold startUpRead
  split
  · rfl
  · simp_all

/-- EB and SB are the DRIVE's units, TB a CAR's (R158). -/
theorem giveModes_eq (p : Profile) (s : State) : giveModes p s =
    { s with
      brakes.eb.mode := if isDrive s then some p.liftEB else none
      brakes.sb.mode := if isDrive s then some p.liftSB else none
      brakes.tb.mode := if isCar s then some p.liftTB else none } := by
  unfold giveModes isDrive isCar
  cases role s <;> rfl

/-- The hand-off but for the tracker. -/
def handedOff (octets : List Byte) (p : Profile) (s : State) : State :=
  requestAnnounce (giveModes p (profileTaken (imageOf octets s) p (endLoad .loaded (imageHeld octets s))))

theorem handedOff_eq {octets : List Byte} {p : Profile} {s : State} (starting : s.seq.state = .starting) :
    handedOff octets p s =
      { s with
        time.sampleDue := false
        loader :=
          { s.loader with
            store := Store.load s.loader.store (imageOf octets s)
            heldLength := s.loader.imageLength
            bits := readBits s.loader.imageLength
            outcome := .loaded
            stage := .ended
            fingerprint := storedCheck (imageOf octets s)
            revision := p.revision
            profile := some p }
        access.pendingAnnounce := true
        peers := buildPeers p (ownId s)
        envelope.bEff := some p.bFloor
        brakes.eb.mode := if isDrive s then some p.liftEB else none
        brakes.sb.mode := if isDrive s then some p.liftSB else none
        brakes.tb.mode := if isCar s then some p.liftTB else none } := by
  unfold handedOff
  rw [giveModes_eq]
  exact requestAnnounce_of_starting starting

/-- The tracker as the hand-off finds it is that of the state before. -/
theorem handedOff_tracker (octets : List Byte) (p : Profile) (s : State) :
    (handedOff octets p s).tracker = s.tracker ∧ (handedOff octets p s).loader.straps = s.loader.straps := by
  unfold handedOff
  simp only [requestAnnounce_frame, giveModes_frame]
  exact ⟨rfl, rfl⟩

theorem roles_congr {s t : State} (straps : t.loader.straps = s.loader.straps) :
    isDrive t = isDrive s ∧ isCar t = isCar s ∧ hasEncoder t = hasEncoder s ∧ side t = side s := by
  simp [isDrive, isCar, hasEncoder, role, side, straps]

/-- Counts and quality after the gathered counts are folded in (R22). -/
theorem fold_counts {p : Profile} {s t : State} (tracker : t.tracker = s.tracker)
    (straps : t.loader.straps = s.loader.straps) (encoder : hasEncoder s = true) :
    (fold p t).tracker =
      { s.tracker with counts := sat32 (s.tracker.counts + invertedDelta s p), delta := 0, illegal := false } := by
  obtain ⟨drive, -, hasIt, own⟩ := roles_congr straps
  rw [fold_of_encoder (hasIt.trans encoder), tracker]
  have delta : invertedDelta t p = invertedDelta s p := by simp [invertedDelta, inverted, drive, own, tracker]
  rw [delta]

/-- A start-up read that matches a marker of the own table sets the present position to it (R14, R23). -/
theorem startUpRead_of_matched {c : BitVec 5} {p : Profile} {k : Marker} {s : State} (car : isCar s = true)
    (taken : s.tracker.delta = 0) (marker : markerOf s p c.toNat = some k)
    (near : s.tracker.quality = .none
      ∨ ((k.position : Int) - s.tracker.counts * 100 / (p.cpmOdo : Int)).natAbs ≤ p.wMark) :
    (startUpRead (some c) p s).tracker.quality = .marked ∧ (startUpRead (some c) p s).tracker.lastMatched = some k
      ∧ (startUpRead (some c) p s).tracker.counts = sat32 (k.position * p.cpmOdo / 100 : Nat) := by
  have odometer : cpm s p = p.cpmOdo := by
    have drive : isDrive s = false := by
      simp only [isCar, beq_iff_eq] at car
      simp [isDrive, car]
    simp [cpm, drive]
  have still : invertedDelta s p = 0 := by simp [invertedDelta, invertBy, taken]
  have fits : readMatches s p k = true := by
    simpa [readMatches, located, odometer, centimetres, presentCounts, still] using near
  have read : startUpRead (some c) p s = snap p k s := by
    simp [startUpRead, car, readMarker, marker, fits]
  rw [read]
  refine ⟨rfl, rfl, ?_⟩
  simp [snap, setPresent, odometer, still, countsAt]

/-- Settles O9. -/
theorem goodImageIsHandedOff : Obligations.GoodImageIsHandedOff := by
  intro octets m p s live starting stage given room checks valid strapped
  refine ⟨finishRead octets m s, by rw [exec_profileReadDone_eq, live_of_not_held _ live], ?_⟩
  have image := imageOf_of_given given
  have back := take_imageHeld given room
  have handed : finishRead octets m s = startUpRead m p (fold p (handedOff octets p s)) := by
    rw [finishRead_eq starting stage, image, checks, valid]
    simp only [strapped, if_true, ← image]
    rfl
  obtain ⟨tracker, straps⟩ := handedOff_tracker octets p s
  obtain ⟨-, car, encoder, own⟩ := roles_congr straps
  have foldStraps : (fold p (handedOff octets p s)).loader.straps = s.loader.straps := by simpa using straps
  obtain ⟨-, carFolded, -, ownFolded⟩ := roles_congr foldStraps
  rw [handed]
  refine ⟨?_, ?_, ?_, fun plain => ?_, fun turns => ?_, fun turns unread => ?_, fun isIt c read k marker near => ?_⟩
  · rw [startUpRead_moves, fold_moves, handedOff_eq starting]
  · rw [startUpRead_moves, fold_moves, handedOff_eq starting, ← image, readBits_eq]
  · rw [startUpRead_moves, fold_moves, handedOff_eq starting]
    exact back
  · rw [fold_of_no_encoder (encoder.trans plain), startUpRead_of_none, tracker]
    rw [car]
    simp only [hasEncoder, Bool.or_eq_false_iff] at plain
    exact .inl plain.2
  · rw [(startUpRead_gathered m p _).1, (startUpRead_gathered m p _).2, fold_counts tracker straps turns]
    exact ⟨rfl, rfl⟩
  · rw [startUpRead_of_none (carFolded ▸ unread), fold_counts tracker straps turns]
    exact ⟨rfl, rfl⟩
  · obtain rfl := read
    have turns : hasEncoder s = true := by simp [hasEncoder, isIt]
    have folded := fold_counts (p := p) tracker straps turns
    refine startUpRead_of_matched (carFolded.trans isIt) (by rw [folded]) ?_ (by rw [folded]; exact near)
    rw [← show markerOf s p c.toNat = some k from marker]
    simp [markerOf, ownMarkers, ownFolded]

/-! ## The peer table (R81, R82) -/

theorem nodesHold_ids {p : Profile} (holds : nodesHold p = true) :
    (∀ n ∈ p.nodes, n.id ≤ 7) ∧ (p.nodes.map ListedNode.id).Nodup := by
  simp only [nodesHold, Bool.and_eq_true, List.all_eq_true, within, decide_eq_true_eq] at holds
  obtain ⟨⟨⟨⟨⟨⟨⟨ids, distinct⟩, -⟩, -⟩, -⟩, -⟩, -⟩, -⟩ := holds
  exact ⟨fun n listed => (ids n listed).2, distinct⟩

/-- The entry that an id of the table's range is given. -/
def entryFor (p : Profile) (own : NodeId) (i : Nat) : Option Entry :=
  if i = own.val then none else (p.nodes.find? (fun n => n.id == i)).map newEntry

theorem buildPeers_eq (p : Profile) (own : NodeId) : buildPeers p own = (List.range 8).filterMap (entryFor p own) := rfl

/-- An entry stands for a listed node of its id, which is not the own one. -/
theorem entryFor_eq_some {p : Profile} {own : NodeId} {i : Nat} {e : Entry} (found : entryFor p own i = some e) :
    i ≠ own.val ∧ ∃ n ∈ p.nodes, n.id = i ∧ e = newEntry n := by
  unfold entryFor at found
  split at found
  · cases found
  next other =>
    obtain ⟨n, first, rfl⟩ := Option.map_eq_some_iff.mp found
    exact ⟨other, n, List.mem_of_find?_eq_some first, by simpa using List.find?_some first, rfl⟩

theorem entryFor_isSome (p : Profile) (own : NodeId) (i : Nat) :
    (entryFor p own i).isSome = decide (i ≠ own.val ∧ i ∈ p.nodes.map ListedNode.id) := by
  unfold entryFor
  split
  next same => simp [same]
  next other =>
    rw [Option.isSome_map, Bool.eq_iff_iff, List.find?_isSome]
    simp [other]

theorem newEntry_id {n : ListedNode} (small : n.id ≤ 7) : (newEntry n).id.val = n.id := by
  simp only [newEntry, Fin.ofNat]
  omega

/-- The ids of the entries are those listed, without the own one. -/
theorem length_buildPeers {p : Profile} {own : NodeId} (holds : nodesHold p = true)
    (listed : own.val ∈ p.nodes.map ListedNode.id) : (buildPeers p own).length + 1 = p.nodes.length := by
  obtain ⟨small, distinct⟩ := nodesHold_ids holds
  have same : List.Perm ((List.range 8).filter (fun i => (entryFor p own i).isSome))
      ((p.nodes.map ListedNode.id).erase own.val) := by
    rw [List.perm_ext_iff_of_nodup (List.nodup_range.filter _) (distinct.erase _)]
    intro i
    rw [List.mem_filter, entryFor_isSome, distinct.mem_erase_iff]
    simp only [List.mem_range, decide_eq_true_eq, and_iff_right_iff_imp]
    rintro ⟨-, there⟩
    obtain ⟨n, node, rfl⟩ := List.mem_map.mp there
    have := small n node
    omega
  have counted := same.length_eq
  rw [List.length_erase_of_mem listed, List.length_map] at counted
  have some : 0 < p.nodes.length := by
    rw [← List.length_map (f := ListedNode.id)]
    exact List.length_pos_of_mem listed
  rw [buildPeers_eq, List.length_filterMap_eq_countP, List.countP_eq_length_filter, counted]
  omega

/-- Settles O10. -/
theorem peerTableFollowsTheList : Obligations.PeerTableFollowsTheList := by
  intro p own holds listed
  obtain ⟨small, distinct⟩ := nodesHold_ids holds
  refine ⟨length_buildPeers holds ?_, ?_, fun e entry => ?_⟩
  · simpa using listed
  · rw [buildPeers_eq, List.pairwise_map, List.pairwise_filterMap]
    refine List.pairwise_lt_range.imp fun less e first f second => ?_
    obtain ⟨-, n, node, rfl, rfl⟩ := entryFor_eq_some first
    obtain ⟨-, k, other, rfl, rfl⟩ := entryFor_eq_some second
    rwa [newEntry_id (small n node), newEntry_id (small k other)]
  · rw [buildPeers_eq, List.mem_filterMap] at entry
    obtain ⟨i, -, found⟩ := entry
    obtain ⟨foreign, n, node, rfl, rfl⟩ := entryFor_eq_some found
    have id := newEntry_id (small n node)
    refine ⟨fun same => foreign ?_, rfl, rfl, rfl, rfl, rfl, rfl, rfl, rfl, ?_⟩
    · rw [← same, id]
    · rw [List.any_eq_true]
      refine ⟨n, node, ?_⟩
      rw [id]
      simp [newEntry]

end Sys2Proof.Machine
end

section
/-! PROOF. The 1 ms tick, the encoder channels, the marker reader, the weighing gate, and what ends by itself (O13, O21 to
O23, O25). -/

namespace Sys2Proof.Machine

/-! ## The 1 ms tick (R1, R29, R83, R148, R162, R167) -/

/-- The detector inputs after a sample, at a LOOP in service (R148). -/
def sampledLoop (pins : Pins) (s : State) : LoopMonitor :=
  if isLoop s && inService s then
    { s.loop with
      aLow := sampleDetector pins.aLow s.loop.aLow
      aUp := sampleDetector pins.aUp s.loop.aUp
      bLow := sampleDetector pins.bLow s.loop.bLow
      bUp := sampleDetector pins.bUp s.loop.bUp }
  else s.loop

theorem sampleDetectors_eq (pins : Pins) (s : State) :
    sampleDetectors pins s = { s with loop := sampledLoop pins s } := by
  unfold sampleDetectors sampledLoop
  split <;> rfl

/-- The brake units after a sample, in service (R162). -/
def sampledBrakes (now : Time) (pins : Pins) (s : State) : Brakes :=
  if inService s then
    { eb := sampleFeedback now pins.ebLifted s.brakes.eb
      sb := sampleFeedback now pins.sbLifted s.brakes.sb
      tb := sampleFeedback now pins.tbLifted s.brakes.tb }
  else s.brakes

theorem sampleFeedbacks_eq (pins : Pins) (s : State) :
    sampleFeedbacks pins s = { s with brakes := sampledBrakes s.time.now pins s } := by
  unfold sampleFeedbacks sampledBrakes
  split <;> rfl

/-- The tracker after a tick at a node time: the weighing gates (R29). -/
def gatedTracker (now : Time) (s : State) : Tracker :=
  if isCar s = true ∧ s.loader.profile.isSome = true ∧ s.seq.state ≠ .starting ∧ now.toNat % 100 = 0 then
    (if s.tracker.gateRunning = true then { s.tracker with gateDue := true }
      else { s.tracker with gateRunning := true, gateCount := 0 })
  else s.tracker

theorem gateTick_eq (s : State) : gateTick s = { s with tracker := gatedTracker s.time.now s } := by
  have condition : (isCar s && s.loader.profile.isSome && !inState s .starting && decide (s.time.now.toNat % 100 = 0))
      = decide (isCar s = true ∧ s.loader.profile.isSome = true ∧ s.seq.state ≠ .starting
          ∧ s.time.now.toNat % 100 = 0) := by
    simp [inState, Bool.and_assoc, Bool.beq_eq_decide_eq]
  unfold gateTick gatedTracker
  rw [condition]
  simp only [decide_eq_true_eq]
  (repeat' split) <;> rfl

/-- The 1 ms tick of a part that is not held, record by record. -/
theorem liveTick_eq (pins : Pins) (s : State) : liveTick pins s =
    { s with
      time := { now := s.time.now + 1, micros := 0, sampleDue := decide ((s.time.now + 1).toNat % 10 = 0) }
      inputs :=
        { s.inputs with
          pins := pins
          previous := s.inputs.pins
          estopReleased :=
            if inState s .starting || pins.estop then 0 else min (s.inputs.estopReleased + 1) Config.debounceSamples
          line := s.inputs.line.drop (bitsWithin (1000 - s.time.micros) s.time.micros) }
      loader.bits := loaderBits (1000 - s.time.micros) s
      access :=
        bitTimes (deferralGap (ownId s)) (bitsWithin (1000 - s.time.micros) s.time.micros) s.inputs.line s.access
      peers := s.peers.map olderEntry
      tracker := gatedTracker (s.time.now + 1) s
      generator.micros := min (phaseMicros s.generator) (s.generator.micros + (1000 - s.time.micros))
      loop := sampledLoop pins s
      brakes := sampledBrakes (s.time.now + 1) pins s } := by
  unfold liveTick
  rw [gateTick_eq, sampleFeedbacks_eq, sampleDetectors_eq, passTime_eq]
  rfl

theorem olderEntry_eq (e : Entry) :
    olderEntry e = { e with age := if e.fresh = .empty then e.age else min (e.age + 1) 65535 } := by
  unfold olderEntry
  cases fresh : e.fresh <;> simp [Config.count16Max]
  rw [← fresh]

/-- What is left of a millisecond holds the bit times that end in it (R65). -/
theorem bitsWithin_rest {m : Nat} (within : m ≤ 1000) : bitsWithin (1000 - m) m = 125 - m / 8 := by
  unfold bitsWithin Config.bitMicros
  omega

theorem bitsWithin_none {m : Nat} (beyond : 1000 < m) : bitsWithin (1000 - m) m = 0 ∧ 125 - m / 8 = 0 := by
  unfold bitsWithin Config.bitMicros
  omega

theorem bitsWithin_millisecond (m : Nat) : bitsWithin (1000 - m) m = 125 - m / 8 := by
  by_cases within : m ≤ 1000
  · exact bitsWithin_rest within
  · obtain ⟨none, zero⟩ := bitsWithin_none (m := m) (by omega)
    rw [none, zero]

/-- A sample counts at each detector input by its pin, and moves neither levels nor tracks (R148). -/
theorem sampledLoop_differing (pins : Pins) (s : State) : ∀ d ∈ detectorsInOrder,
    (detectorInput (sampledLoop pins s) d).differing =
      (if isLoop s = true ∧ inService s = true then
        (if detectorPin pins d = (detectorInput s.loop d).level then 0
          else min ((detectorInput s.loop d).differing + 1) 3)
      else (detectorInput s.loop d).differing) := by
  intro d listed
  unfold sampledLoop
  by_cases samples : isLoop s = true ∧ inService s = true
  · simp only [samples, Bool.and_self, and_self, if_true]
    simp only [detectorsInOrder, List.mem_cons, List.not_mem_nil, or_false] at listed
    rcases listed with rfl | rfl | rfl | rfl <;>
      simp only [detectorInput, detectorPin, sampleDetector, Config.debounceSamples] <;>
      exact if_congr beq_iff_eq rfl rfl
  · rw [if_neg (by simpa using samples), if_neg samples]

theorem sampledLoop_levels (pins : Pins) (s : State) :
    (sampledLoop pins s).trackA = s.loop.trackA ∧ (sampledLoop pins s).trackB = s.loop.trackB
      ∧ (sampledLoop pins s).aLow.level = s.loop.aLow.level ∧ (sampledLoop pins s).aUp.level = s.loop.aUp.level
      ∧ (sampledLoop pins s).bLow.level = s.loop.bLow.level ∧ (sampledLoop pins s).bUp.level = s.loop.bUp.level := by
  unfold sampledLoop
  split <;> exact ⟨rfl, rfl, rfl, rfl, rfl, rfl⟩

theorem sampleFeedback_since (now : Time) (lifted : Bool) (u : BrakeUnit) :
    (sampleFeedback now lifted u).appliedSince =
      if u.mode = some .feedback ∧ u.state = .lifted ∧ lifted = false then some (u.appliedSince.getD now) else none := by
  unfold sampleFeedback inFeedbackMode
  by_cases shows : u.mode = some .feedback ∧ u.state = .lifted ∧ lifted = false
  · simp [shows]
  · rw [if_neg shows, if_neg (by simpa [and_assoc] using shows)]

/-- A sample moves nothing of a unit but its run of samples that show it applied (R162). -/
theorem sampleFeedback_moves (now : Time) (lifted : Bool) (u : BrakeUnit) :
    sampleFeedback now lifted u = { u with appliedSince := (sampleFeedback now lifted u).appliedSince } := by
  unfold sampleFeedback
  split <;> rfl

theorem sampledBrakes_since (now : Time) (pins : Pins) (s : State) : ∀ b ∈ [BrakeId.eb, BrakeId.sb, BrakeId.tb],
    (brakeUnit (sampledBrakes now pins s) b).appliedSince =
      (if inService s = true then
        (if (brakeUnit s.brakes b).mode = some .feedback ∧ (brakeUnit s.brakes b).state = .lifted
            ∧ feedbackPin pins b = false then
          some ((brakeUnit s.brakes b).appliedSince.getD now)
        else none)
      else (brakeUnit s.brakes b).appliedSince) := by
  intro b _
  unfold sampledBrakes
  split
  · cases b <;> exact sampleFeedback_since _ _ _
  · rfl

theorem sampledBrakes_moves (now : Time) (pins : Pins) (s : State) :
    (sampledBrakes now pins s).eb = { s.brakes.eb with appliedSince := (sampledBrakes now pins s).eb.appliedSince }
      ∧ (sampledBrakes now pins s).sb = { s.brakes.sb with appliedSince := (sampledBrakes now pins s).sb.appliedSince }
      ∧ (sampledBrakes now pins s).tb = { s.brakes.tb with appliedSince := (sampledBrakes now pins s).tb.appliedSince } := by
  unfold sampledBrakes
  split
  · exact ⟨sampleFeedback_moves _ _ _, sampleFeedback_moves _ _ _, sampleFeedback_moves _ _ _⟩
  · exact ⟨rfl, rfl, rfl⟩

theorem held_of_coldHold {s : State} (cold : coldHold s = true) : held s = true := by
  by_contra live
  rw [coldHold_of_not_held (by simpa using live)] at cold
  cases cold

/-- Settles O13: in a hold `samplePins` with or without the time, otherwise `liveTick_eq`. -/
theorem millisecondTickAdvances : Obligations.MillisecondTickAdvances := by
  intro pins s
  refine ⟨msTick pins s, rfl, ?_⟩
  unfold msTick
  cases cold : coldHold s with
  | true =>
    have holds := held_of_coldHold cold
    simp only [if_true, holds]
    exact ⟨rfl, rfl, rfl, ⟨rfl, rfl, rfl, rfl, rfl, rfl, rfl, rfl⟩, rfl, rfl, rfl, rfl, rfl, rfl, rfl, rfl, rfl⟩
  | false =>
    cases holds : held s with
    | true =>
      simp only [Bool.false_eq_true, if_false, if_true]
      exact ⟨rfl, rfl, rfl, ⟨rfl, rfl, rfl, rfl, rfl, rfl, rfl, rfl⟩, rfl, rfl, rfl, rfl, rfl, rfl, rfl, rfl, rfl⟩
    | false =>
      obtain ⟨trackA, trackB, aLow, aUp, bLow, bUp⟩ := sampledLoop_levels pins s
      obtain ⟨eb, sb, tb⟩ := sampledBrakes_moves (s.time.now + 1) pins s
      simp only [Bool.false_eq_true, if_false, liveTick_eq, bitsWithin_millisecond]
      refine ⟨trivial, trivial, ?_, ⟨trivial, rfl, trivial, rfl, ?_, rfl, sampledLoop_differing pins s,
        sampledBrakes_since _ pins s⟩, trackA, trackB, aLow, aUp, bLow, bUp, eb, sb, tb⟩
      · exact List.map_congr_left fun e _ => olderEntry_eq e
      · simp [inState, Config.debounceSamples]

/-! ## The encoder channels (R17) -/

/-- Settles O21. -/
theorem quadratureEdgeCounts : Obligations.QuadratureEdgeCounts := by
  intro a b s
  refine ⟨sampleChannels a b s, rfl, ?_⟩
  unfold sampleChannels firstLeads
  by_cases counts : (hasEncoder s && !coldHold s) = true
  · obtain ⟨encoder, cold⟩ : hasEncoder s = true ∧ coldHold s = false := by simpa using counts
    simp only [encoder, cold]
    cases a <;> cases b <;> cases first : s.tracker.first <;> cases second : s.tracker.second <;>
      simp [sat32, Config.countMin, Config.countMax]
  · rw [if_neg counts]
    refine ⟨rfl, fun _ => ⟨rfl, rfl⟩, fun encoder cold => absurd ?_ counts⟩
    simp [encoder, cold]

/-! ## The marker reader (R23, R24) -/

theorem isDrive_of_isCar {s : State} (car : isCar s = true) : isDrive s = false := by
  simp only [isCar, beq_iff_eq] at car
  simp [isDrive, car]

theorem cpm_of_isCar {s : State} (p : Profile) (car : isCar s = true) : cpm s p = p.cpmOdo := by
  simp [cpm, isDrive_of_isCar car]

theorem exec_markerRead_eq (c : BitVec 5) (s : State) : exec (.markerRead c) s = live (takeMarker c) s := rfl

/-- Settles O22. -/
theorem markerReadSnapsOrWarns : Obligations.MarkerReadSnapsOrWarns := by
  intro code p s live car started profile
  have taken : takeMarker code s = readMarker code p s := by
    simp [takeMarker, profile, car, inState, started]
  refine ⟨takeMarker code s, by rw [exec_markerRead_eq, live_of_not_held _ live], ?_⟩
  rw [taken]
  refine ⟨readMarker_moves code p s, fun none => by simp [readMarker, none], fun m marker => ?_⟩
  have found : markerOf s p code.toNat = some m := marker
  have fits : readMatches s p m = decide (s.tracker.quality = .none
      ∨ ((m.position : Int) - presentCounts s p * 100 / (p.cpmOdo : Int)).natAbs ≤ p.wMark) := by
    cases quality : s.tracker.quality <;>
      simp [readMatches, located, centimetres, cpm_of_isCar p car, quality]
  split
  next near =>
    have snapped : readMarker code p s = snap p m s := by simp [readMarker, found, fits, near]
    rw [snapped]
    refine ⟨rfl, ?_⟩
    simp [snap, setPresent, countsAt, cpm_of_isCar p car]
  next far => simp [readMarker, found, fits, far]

/-! ## Weighing (R29, R30) -/

theorem exec_weighingGateEnd_eq (s : State) : exec .weighingGateEnd s = live endGate s := rfl

theorem exec_weighingPulseEdge_eq (s : State) : exec .weighingPulseEdge s = live countPulse s := rfl

/-- The load of a count, in natural numbers: at least half the offset, and 0 below the offset itself (R30). -/
theorem loadOfCount_eq (p : Profile) (n : Nat) : loadOfCount p n =
    if n < p.loadOffset / 2 then none else some (min ((n - p.loadOffset) * p.loadScale) p.wMax) := by
  unfold loadOfCount clampInt
  split
  · rfl
  · congr 1
    by_cases above : p.loadOffset ≤ n
    · have difference : (n : Int) - p.loadOffset = ((n - p.loadOffset : Nat) : Int) := by omega
      rw [difference, ← Int.natCast_mul]
      omega
    · have below : ((n : Int) - p.loadOffset) * p.loadScale ≤ 0 :=
        Int.mul_nonpos_of_nonpos_of_nonneg (by omega) (by omega)
      have none : n - p.loadOffset = 0 := by omega
      rw [none, Nat.zero_mul]
      omega

/-- Settles O23. -/
theorem weighingGateGivesTheLoad : Obligations.WeighingGateGivesTheLoad := by
  intro p s live profile
  refine ⟨fun running => ?_, fun due => ?_⟩
  · rw [exec_weighingPulseEdge_eq, live_of_not_held _ live]
    simp [countPulse, running, Config.count16Max]
  · rw [exec_weighingGateEnd_eq, live_of_not_held _ live]
    simp [endGate, profile, due, loadOfCount_eq]

/-! ## Levels and windows (R145, R162, R167, R176) -/

theorem exec_estopRelease_eq (s : State) : exec .estopRelease s = live releaseEstop s := rfl

theorem exec_alertPulseEnd_eq (s : State) : exec .alertPulseEnd s = live endAlert s := rfl

theorem exec_refusalWindowEnd_eq (s : State) : exec .refusalWindowEnd s = live endRefusal s := rfl

theorem exec_feedbackApplied_eq (b : BrakeId) (s : State) :
    exec (.feedbackApplied b) s = live (clearReleaseLatch b) s := rfl

theorem reached_iff (now d : Time) : reached now d = true ↔ (now - d).toNat < 2147483648 := by
  rw [reached, elapsed, decide_eq_true_iff]

theorem setUnit_moves (b : BrakeId) (u : BrakeUnit) (s : State) :
    setUnit b u s = { s with brakes := (setUnit b u s).brakes } := by
  cases b <;> rfl

/-- One unit record is replaced, and no other (R158). -/
theorem setUnit_units (b : BrakeId) (u : BrakeUnit) (s : State) :
    brakeUnit (setUnit b u s).brakes b = u ∧ (b ≠ .eb → (setUnit b u s).brakes.eb = s.brakes.eb)
      ∧ (b ≠ .sb → (setUnit b u s).brakes.sb = s.brakes.sb) ∧ (b ≠ .tb → (setUnit b u s).brakes.tb = s.brakes.tb) := by
  cases b <;> simp [setUnit, brakeUnit]

theorem goLamp_of_not_held {s : State} (live : held s = false) : goLamp s =
    (if s.seq.state = .armed then .on else if s.seq.state = .running ∨ s.seq.state = .stopping then .blink else .off) := by
  unfold goLamp
  cases s.seq.state <;> simp [live]

theorem stopLamp_of_not_held {s : State} (live : held s = false) : stopLamp s =
    (if s.seq.state = .night ∨ s.seq.state = .starting then .off
      else if s.seq.state = .tripped ∨ s.seq.state = .faulted then .on
      else if s.seq.refusal ≠ none ∨ s.seq.state = .hold then .blink
      else .off) := by
  unfold stopLamp
  cases s.seq.state <;> cases s.seq.refusal <;> simp [live]

/-- Settles O25. -/
theorem levelsAndWindowsEnd : Obligations.LevelsAndWindowsEnd := by
  intro b d s live
  refine ⟨fun estop samples => ?_, fun ends past => ?_, fun window past => ?_, fun checked applied shows => ?_,
    goLamp_of_not_held live, stopLamp_of_not_held live, rfl, rfl, rfl⟩
  · rw [exec_estopRelease_eq, live_of_not_held _ live]
    simp [releaseEstop, estop, Config.debounceSamples, samples]
  · rw [exec_alertPulseEnd_eq, live_of_not_held _ live]
    simp [endAlert, ends, (reached_iff _ _).mpr past]
  · rw [exec_refusalWindowEnd_eq, live_of_not_held _ live]
    simp [endRefusal, window, (reached_iff _ _).mpr past]
  · have clears : clearReleaseLatch b s = setUnit b { brakeUnit s.brakes b with releaseLatch := false } s := by
      simp only [checkedUnit, Bool.and_eq_true, beq_iff_eq] at checked
      simp [clearReleaseLatch, fitted, inFeedbackMode, showsLifted, checked, applied, shows]
    refine ⟨_, by rw [exec_feedbackApplied_eq, live_of_not_held _ live, clears], setUnit_moves _ _ s, setUnit_units _ _ s⟩

end Sys2Proof.Machine
end

section
/-! PROOF. The ends of an attempt, the ceiling output, and the service port (O37, O39, O52 to O55). -/

namespace Sys2Proof.Machine

/-! ## The due time and the ends of an attempt (R71 to R76, R181, R185) -/

theorem exec_beaconDue_eq (s : State) : exec .beaconDue s = live takeDue s := rfl

theorem exec_lineLost_eq (s : State) : exec .lineLost s = live loseLine s := rfl

theorem exec_attemptComplete_eq (s : State) : exec .attemptComplete s = live completeAttempt s := rfl

/-- Settles O37. -/
theorem dueBeaconIsPending : Obligations.DueBeaconIsPending := by
  intro u d s live started last due reached unmarked free
  have isDue : beaconIsDue s = true := by
    simp only [beaconIsDue, last, due, elapsed]
    exact decide_eq_true reached
  have taken : takeDue s =
      { s with
        access.tx := if s.access.tx = .idle then .deferring else s.access.tx
        access.pendingBeacon := true
        access.pendingAnnounce :=
          s.access.pendingAnnounce || (s.seq.state == .faulted && s.loader.profile.isNone) } := by
    unfold takeDue
    rw [if_neg (by simp [inState, started, isDue, unmarked, free])]
    have marked : ∀ t : State, t.seq = s.seq → t.loader = s.loader →
        (inState t .faulted && t.loader.profile.isNone) = (s.seq.state == .faulted && s.loader.profile.isNone) := by
      intro t seq loader
      simp [inState, seq, loader]
    dsimp only
    rw [marked _ (by simp) (by simp)]
    cases s.seq.state == .faulted && s.loader.profile.isNone <;> cases s.access.tx <;>
      simp [inState, wakeTransmitter, requestAnnounce, started]
  rw [exec_beaconDue_eq, live_of_not_held _ live, taken]

/-- A beacon repeated for COMMIT, with no frame in hand and the transmitter at rest (R75, R185). -/
theorem repeatCommit_eq {s : State} (started : s.seq.state ≠ .starting) (free : s.access.inHand = none)
    (rests : s.access.tx = .idle ∨ s.access.tx = .deferring) : repeatCommit s =
      { s with
        access.tx := if 0 < s.cls.commit then .deferring else s.access.tx
        access.pendingBeacon := s.access.pendingBeacon || decide (0 < s.cls.commit) } := by
  unfold repeatCommit
  by_cases commits : 0 < s.cls.commit
  · rcases rests with tx | tx <;> simp [commits, requestBeacon, wakeTransmitter, inState, started, free, tx]
  · simp [commits]

theorem restingTx_rests (a : LineAccess) : restingTx a = .idle ∨ restingTx a = .deferring := by
  unfold restingTx
  split <;> simp

/-- The transmit state where a mark is set, or COMMIT asks for another beacon. -/
theorem commitTx_eq (a : LineAccess) (n : Nat) : (if 0 < n then .deferring else restingTx a) =
    (if 0 < n ∨ a.pendingBeacon = true ∨ a.pendingAnnounce = true then TxState.deferring else .idle) := by
  unfold restingTx
  by_cases commits : 0 < n <;> simp [commits]

theorem restingTx_eq (a : LineAccess) : restingTx a =
    (if a.pendingBeacon = true ∨ a.pendingAnnounce = true then TxState.deferring else .idle) := by
  unfold restingTx
  simp

/-- The frame dropped at the fourth attempt (R72, R185). -/
theorem loseLine_of_dropped {k : FrameKind} {s : State} (started : s.seq.state ≠ .starting)
    (sending : s.access.tx = .sending) (inHand : s.access.inHand = some k) (lost : s.access.lost = true)
    (attempts : 4 ≤ s.access.attempts) : loseLine s =
      { s with
        access.tx :=
          if (k = .beacon ∧ 0 < s.cls.commit) ∨ s.access.pendingBeacon = true ∨ s.access.pendingAnnounce = true then
            .deferring
          else .idle
        access.inHand := none
        access.attempts := 0
        access.pendingBeacon := s.access.pendingBeacon || (k == .beacon && decide (0 < s.cls.commit))
        access.txFrame := []
        access.txBits := []
        access.lost := false } := by
  have isLost : attemptLost s.access = true := by simp [attemptLost, sending, lost]
  have last : ¬ s.access.attempts < Config.maxAttempts := by
    simp only [Config.maxAttempts]
    omega
  unfold loseLine
  rw [if_pos isLost, if_neg last]
  cases k with
  | beacon =>
    simp only [inHand, beq_self_eq_true, if_true, true_and]
    rw [repeatCommit_eq (by exact started) rfl (restingTx_rests _), Bool.true_and, ← commitTx_eq]
    rfl
  | announce =>
    have other : (some FrameKind.announce == some FrameKind.beacon) = false := by decide
    simp only [inHand, other, Bool.false_eq_true, if_false, reduceCtorEq, false_and, false_or]
    rw [← restingTx_eq]
    simp [releaseFrame, endAttempt]

/-- The counts of WAKE and COMMIT beacons after a completed BEACON (R181, R185). -/
theorem carried_eq (l : List Byte) (wake commit : Nat) :
    ((if carriedWake l then wake - 1 else wake) = wake - if (octetAt l 2).testBit 1 = true then 1 else 0)
      ∧ ((if carriedCommit l then commit - 1 else commit) = commit - if octetAt l 6 / 64 = 3 then 1 else 0) := by
  unfold carriedWake carriedCommit flag
  constructor
  · split <;> rfl
  · simp only [decide_eq_true_eq]
    split <;> rfl

/-- Settles O39. -/
theorem attemptEnds : Obligations.AttemptEnds := by
  intro k s live started sending inHand
  refine ⟨fun kept => ?_, fun goes => ?_, fun lost few => ?_, fun lost last => ?_, fun kept driven => ?_⟩
  · rw [exec_lineLost_eq, live_of_not_held _ live, loseLine, if_neg (by simp [attemptLost, kept])]
  · have open' : attemptDriven s.access = false := by
      rcases goes with lost | bits
      · simp [attemptDriven, lost]
      · simp [attemptDriven, bits]
    rw [exec_attemptComplete_eq, live_of_not_held _ live, completeAttempt, if_neg (by simp [open'])]
  · rw [exec_lineLost_eq, live_of_not_held _ live, loseLine, if_pos (by simp [attemptLost, sending, lost]),
      if_pos (show s.access.attempts < Config.maxAttempts from few)]
    rfl
  · rw [exec_lineLost_eq, live_of_not_held _ live, loseLine_of_dropped started sending inHand lost last]
  · refine ⟨completeAttempt s, by rw [exec_attemptComplete_eq, live_of_not_held _ live], ?_⟩
    have whole : attemptDriven s.access = true := by simp [attemptDriven, sending, driven, kept]
    unfold completeAttempt
    rw [if_pos whole]
    cases k with
    | beacon =>
      obtain ⟨wake, commit⟩ := carried_eq s.access.txFrame s.cls.wake s.cls.commit
      simp only [inHand, countDown]
      rw [repeatCommit_eq (by exact started) rfl (restingTx_rests _), wake, commit]
      simp only [true_and, beq_self_eq_true, Bool.true_and, reduceCtorEq, if_false]
      rw [← commitTx_eq]
      simp [releaseFrame, endAttempt, kept]
    | announce =>
      simp only [inHand, clearOwed, reduceCtorEq, false_and, false_or, if_false, Nat.sub_zero, if_true]
      rw [← restingTx_eq]
      simp [releaseFrame, endAttempt, kept]

/-! ## The ceiling output (R116 to R118) -/

theorem hold_of_not_held {s : State} (live : held s = false) : s.power.hold = none := by
  simpa [held] using live

theorem exec_ceilingApply_eq (s : State) : exec .ceilingApply s = live applyCeiling s := rfl

theorem exec_highPhaseEnd_eq (s : State) : exec .highPhaseEnd s = live endHigh s := rfl

theorem exec_periodEnd_eq (s : State) : exec .periodEnd s = live endPeriod s := rfl

/-- The period is 100,000 µs divided by the ceiling, rounded up (R116). -/
theorem periodOf_eq {c q : Nat} (positive : 1 ≤ c) (reaches : 100000 ≤ q * c) (least : (q - 1) * c < 100000) :
    periodOf c = q := by
  obtain ⟨k, rfl⟩ : ∃ k, q = k + 1 := by
    refine Nat.exists_eq_succ_of_ne_zero ?_
    rintro rfl
    omega
  rw [Nat.add_sub_cancel] at least
  rw [Nat.succ_mul] at reaches
  unfold periodOf Config.outputMicros
  refine Nat.div_eq_of_lt_le ?_ ?_
  · rw [Nat.succ_mul]
    omega
  · rw [Nat.succ_mul, Nat.succ_mul]
    omega

/-- The generator takes a positive ceiling by its period (R117). -/
theorem takeCeiling_eq {c q : Nat} {g : Generator} (positive : 1 ≤ c) (period : periodOf c = q) : takeCeiling c g =
    g.current.elim (beginPeriod q) (fun r =>
      if r < q then beginPeriod q else if r = q then { g with next := none } else { g with next := some q }) := by
  unfold takeCeiling
  rw [if_neg (by omega), period]
  cases current : g.current <;> simp

theorem takeCeiling_runs {c q : Nat} {g : Generator} (positive : 1 ≤ c) (period : periodOf c = q) :
    (takeCeiling c g).current.isSome = true := by
  rw [takeCeiling_eq positive period]
  cases current : g.current with
  | none => rfl
  | some r =>
    rw [Option.elim_some]
    (repeat' split) <;> rfl

theorem endHigh_of_due {p : Nat} {s : State} (current : s.generator.current = some p) (high : s.generator.phase = .high)
    (due : (p + 1) / 2 ≤ s.generator.micros) :
    endHigh s = { s with generator.phase := .low, generator.micros := 0 } := by
  simp [endHigh, phaseMicros, highMicros, current, high, due]

theorem endPeriod_of_due {p : Nat} {s : State} (current : s.generator.current = some p) (low : s.generator.phase = .low)
    (due : p / 2 ≤ s.generator.micros) :
    endPeriod s = { s with generator := beginPeriod (s.generator.next.getD p) } := by
  simp [endPeriod, phaseMicros, lowMicros, current, low, due]

/-- Settles O52. -/
theorem ceilingOutputRunsItsPeriods : Obligations.CeilingOutputRunsItsPeriods := by
  intro q cur s live
  have hold := hold_of_not_held live
  have applied : isDrive s = true → s.seq.state ≠ .starting →
      exec .ceilingApply s = .next { s with generator := takeCeiling s.ceiling.line s.generator } := by
    intro drive started
    rw [exec_ceilingApply_eq, live_of_not_held _ live]
    simp [applyCeiling, inState, drive, started]
  refine ⟨fun drive started zero => ?_, fun drive started positive reaches least => ?_, fun current high due => ?_,
    fun current none low due => ?_⟩
  · refine ⟨_, applied drive started, rfl, ?_, ?_⟩ <;> simp [driveEn, ceilingOut, takeCeiling, zero, Generator.stopped]
  · have period := periodOf_eq positive reaches least
    refine ⟨_, applied drive started, rfl, ?_, fun begins => ?_, fun equal => ?_, fun c current shorter => ?_⟩
    · simp [driveEn, held, hold, takeCeiling_runs positive period]
    · have begun : takeCeiling s.ceiling.line s.generator = beginPeriod q := by
        rw [takeCeiling_eq positive period]
        rcases begins with none | ⟨c, current, longer⟩
        · simp [none]
        · simp [Option.mem_def.mp current, longer]
      rw [begun]
      exact ⟨rfl, by simp [ceilingOut, driveEn, held, hold, beginPeriod]⟩
    · simp [takeCeiling_eq positive period, equal]
    · have waits : takeCeiling s.ceiling.line s.generator = { s.generator with next := some q } := by
        rw [takeCeiling_eq positive period, Option.mem_def.mp current]
        rw [Option.elim_some, if_neg (by omega), if_neg (by omega)]
        simp only [Option.mem_def.mp current]
      rw [waits]
      refine ⟨rfl, fun low due => ?_⟩
      rw [exec_periodEnd_eq, live_of_not_held _ (by exact live), endPeriod_of_due (p := c)
        (s := { s with generator := { s.generator with next := some q } }) current low due]
      rfl
  · rw [exec_highPhaseEnd_eq, live_of_not_held _ live, endHigh_of_due current high due]
  · rw [exec_periodEnd_eq, live_of_not_held _ live, endPeriod_of_due current low due, none]
    simp [beginPeriod, current, none]

/-! ## The service port (R190 to R194) -/

/-- Settles O53. -/
theorem selectionOpensATransaction : Obligations.SelectionOpensATransaction := by
  intro x s live
  refine ⟨fun idle => ⟨by simp [serviceOut, idle], ?_⟩, fun plain => ?_⟩
  · refine ⟨select s, rfl, ?_⟩
    have opened : select s = { s with
        port := { selected := true, state := .command, shift := [], answer := [], sent := 0, restart := false } } := by
      simp [select, live, idle]
    refine ⟨?_, opened⟩
    simp [serviceOut, held, hold_of_not_held live, opened, outgoing]
  · refine ⟨deselect x s, rfl, ?_⟩
    have closed : deselect x s = { s with
        port := { selected := false, state := .idle, shift := [], answer := [], sent := 0, restart := false } } := by
      simp only [deselect, live, Bool.false_eq_true, if_false]
      rw [if_neg (by rcases plain with h | h <;> simp [h])]
    exact ⟨by simp [serviceOut, closed], closed⟩

/-- An answer of a status and a record is the two and their check sequence (R190). -/
theorem withCheck_length (l : List Byte) : (withCheck l).length = l.length + 2 := by
  simp [withCheck, be16]

theorem withCheck_take (l : List Byte) : (withCheck l).take ((withCheck l).length - 2) = l := by
  rw [withCheck_length, Nat.add_sub_cancel, withCheck, List.take_left]

theorem checkAgrees_withCheck (l : List Byte) : checkAgrees (withCheck l) = true := by
  rw [checkAgrees, withCheck_take]
  exact beq_self_eq_true _

/-- The command is a readout of a reply. -/
theorem capture_of_command {reply : State → Status × List Byte} {s : State} (command : s.port.state = .command) :
    capture reply s = { s with port :=
      { s.port with state := .answer, shift := [], answer := answerOf (reply s).1 (reply s).2, sent := 0 } } := by
  simp [capture, command]

theorem capture_of_other {reply : State → Status × List Byte} {s : State} (other : s.port.state ≠ .command) :
    capture reply s = s := by
  simp [capture, other]

/-- The reply of a readout command, by its record: NO_ENTRY where there is none, UNKNOWN for an unknown command. -/
def replyOf (unknown : Bool) (record : Option (List Byte)) : Status × List Byte :=
  match record with
  | some l => (.ok, l)
  | none => (if unknown then .unknown else .noEntry, [])

/-- The octets of a reply before its check sequence. -/
def replyBody (unknown : Bool) (record : Option (List Byte)) : List Byte :=
  match record with
  | some l => 0x00#8 :: l
  | none => [if unknown then 0x03#8 else 0x01#8]

theorem answerOf_replyOf (unknown : Bool) (record : Option (List Byte)) :
    answerOf (replyOf unknown record).1 (replyOf unknown record).2 = withCheck (replyBody unknown record) := by
  cases record with
  | some l => rfl
  | none => cases unknown <;> rfl

theorem statusRecord_length (s : State) : (statusRecord s).length = 30 := rfl

theorem beaconBody_length (r : BeaconRec) : (beaconBody r).length = 19 := rfl

theorem peerRecord_length (e : Entry) : (peerRecord e).length = 30 := by
  cases beacon : e.beacon <;> simp [peerRecord, beacon, be16, beaconBody_length]

theorem historyRecord_length (r : TripRecord) : (historyRecord r).length = 23 := rfl

theorem block_length (m : List Host.Cell) (n b : Nat) : (Store.block m n b).length = 16 := by
  simp [Store.block]

/-- What a readout leaves, whatever its record (R190, R191). -/
theorem serviceOut_of_captured {s : State} {l : List Byte} (live : held s = false) (selected : s.port.selected = true)
    (some : l ≠ []) :
    serviceOut { s with port := { s.port with state := .answer, shift := [], answer := l, sent := 0 } }
      = l.head?.map BitVec.msb := by
  cases l with
  | nil => exact absurd rfl some
  | cons b l =>
    simp [serviceOut, held, hold_of_not_held live, selected, outgoing, BitVec.msb]

/-- Each readout command captures the reply of its record. -/
theorem exec_readout {c : Instr} {k : BitVec 5} {v : Bool} {record : Option (List Byte)} {s : State}
    (live : held s = false)
    (readout : (c = .status k ∧ record = some (statusRecord s))
      ∨ (c = .peer k ∧ record = (s.peers[k.toNat]?).map peerRecord)
      ∨ (c = .trip k ∧ record = (s.trips.history.reverse[k.toNat]?).map historyRecord)
      ∨ (c = .profile k ∧ record =
          if 16 * k.toNat < s.loader.heldLength then
            some (octet (min 16 (s.loader.heldLength - 16 * k.toNat))
              :: Store.block s.loader.store s.loader.heldLength k.toNat)
          else none)
      ∨ (c = .unknown v k ∧ record = none)) :
    ∃ reply, exec c s = .next (capture reply s) ∧ reply s = replyOf (decide (c = .unknown v k)) record := by
  rcases readout with ⟨rfl, rfl⟩ | ⟨rfl, rfl⟩ | ⟨rfl, rfl⟩ | ⟨rfl, rfl⟩ | ⟨rfl, rfl⟩
  · exact ⟨statusReply, live_of_not_held _ live, rfl⟩
  · refine ⟨peerReply k.toNat, live_of_not_held _ live, ?_⟩
    unfold peerReply
    cases s.peers[k.toNat]? <;> simp [replyOf]
  · refine ⟨tripReply k.toNat, live_of_not_held _ live, ?_⟩
    unfold tripReply
    cases s.trips.history.reverse[k.toNat]? <;> simp [replyOf]
  · refine ⟨profileReply k.toNat, live_of_not_held _ live, ?_⟩
    unfold profileReply
    split <;> simp [replyOf, blockRecord, blockCount]
  · exact ⟨unknownReply, live_of_not_held _ live, by simp [replyOf, unknownReply]⟩

/-- The length of a readout's record by its command (R191, R194). -/
theorem readout_length {c : Instr} {k : BitVec 5} {v : Bool} {l : List Byte} {s : State}
    (readout : (c = .status k ∧ some l = some (statusRecord s))
      ∨ (c = .peer k ∧ some l = (s.peers[k.toNat]?).map peerRecord)
      ∨ (c = .trip k ∧ some l = (s.trips.history.reverse[k.toNat]?).map historyRecord)
      ∨ (c = .profile k ∧ some l =
          if 16 * k.toNat < s.loader.heldLength then
            some (octet (min 16 (s.loader.heldLength - 16 * k.toNat))
              :: Store.block s.loader.store s.loader.heldLength k.toNat)
          else none)
      ∨ (c = .unknown v k ∧ some l = none)) :
    l.length + 3 = match (generalizing := false) c with
      | .status _ => 33
      | .peer _ => 33
      | .trip _ => 26
      | _ => 20 := by
  rcases readout with ⟨rfl, shown⟩ | ⟨rfl, shown⟩ | ⟨rfl, shown⟩ | ⟨rfl, shown⟩ | ⟨-, shown⟩
  · rw [Option.some.inj shown, statusRecord_length]
  · obtain ⟨e, -, rfl⟩ := Option.map_eq_some_iff.mp shown.symm
    rw [peerRecord_length]
  · obtain ⟨r, -, rfl⟩ := Option.map_eq_some_iff.mp shown.symm
    rw [historyRecord_length]
  · split at shown
    · rw [Option.some.inj shown, List.length_cons, block_length]
    · cases shown
  · cases shown

/-- Settles O54: `capture` of the reply of the command's record. -/
theorem readoutAnswersItsRecord : Obligations.ReadoutAnswersItsRecord := by
  intro c k v record s live readout
  obtain ⟨reply, outcome, shown⟩ := exec_readout live readout
  refine ⟨fun other => by rw [outcome, capture_of_other other], fun command => ?_⟩
  refine ⟨_, by rw [outcome, capture_of_command command, shown, answerOf_replyOf], rfl, fun selected => ?_,
    checkAgrees_withCheck _, ?_, ?_⟩
  · exact serviceOut_of_captured live selected (List.ne_nil_of_length_pos (by rw [withCheck_length]; omega))
  · refine (withCheck_take _).trans ?_
    cases record with
    | some l => rfl
    | none => by_cases unknown : c = .unknown v k <;> simp [replyBody, unknown]
  · refine (withCheck_length _).trans ?_
    cases record with
    | some l => exact readout_length readout
    | none => rfl

/-! ## RESTART and CLEAR_HISTORY (R193) -/

theorem exec_restart_eq (k : BitVec 5) (s : State) : exec (.restart k) s = live takeRestart s := rfl

theorem exec_clearHistory_eq (k : BitVec 5) (s : State) : exec (.clearHistory k) s = live takeClear s := rfl

theorem serviceAllowed_iff (s : State) : serviceAllowed s = true ↔
    (s.seq.state = .dwell ∨ s.seq.state = .hold ∨ s.seq.state = .night ∨ s.seq.state = .faulted)
      ∧ (stands s = true ∨ (hasEncoder s = false ∧ s.seq.state = .faulted ∧ s.loader.profile = none)) := by
  simp only [serviceAllowed, standsForService, resting, inState, Bool.and_eq_true, Bool.or_eq_true, beq_iff_eq,
    Bool.not_eq_true', Option.isNone_iff_eq_none, and_assoc]
  tauto

/-- Settles O55. -/
theorem serviceActsAtRestOnly : Obligations.ServiceActsAtRestOnly := by
  intro c k ok s live command acts allowed
  have judged : serviceAllowed s = ok := by
    rw [Bool.eq_iff_iff, serviceAllowed_iff, ← allowed]
  have answer : answerOf (actingReply s).1 (actingReply s).2 = withCheck [if ok then 0x00#8 else 0x02#8] := by
    unfold actingReply answerOf
    rw [judged]
    cases ok <;> rfl
  have head : ∀ b : Byte, (withCheck [b]).head? = some b := fun _ => rfl
  rcases acts with rfl | rfl
  · refine ⟨takeRestart s, by rw [exec_restart_eq, live_of_not_held _ live], ?_⟩
    unfold takeRestart
    rw [capture_of_command command, answer]
    cases ok <;> simp [command, judged, head, withCheck_length, checkAgrees_withCheck]
  · refine ⟨takeClear s, by rw [exec_clearHistory_eq, live_of_not_held _ live], ?_⟩
    unfold takeClear
    rw [capture_of_command command, answer]
    cases ok <;> simp [command, judged, head, withCheck_length, checkAgrees_withCheck]

end Sys2Proof.Machine
end

section
/-! PROOF. Frames are read back as they were sent, and an attempt samples one that is (O38, O56). -/

namespace Sys2Proof.Machine

/-! ## Codes -/

@[simp] theorem stateOfCode_stateCode (x : NodeState) : stateOfCode (stateCode x) = some x := by cases x <;> rfl
@[simp] theorem classOfCode_classCode (x : BeaconClass) : classOfCode (classCode x) = x := by cases x <;> rfl
@[simp] theorem directionOfCode_directionCode (x : Direction) : directionOfCode (directionCode x) = some x := by
  cases x <;> rfl
@[simp] theorem qualityOfCode_qualityCode (x : Quality) : qualityOfCode (qualityCode x) = some x := by cases x <;> rfl
@[simp] theorem motionOfCode_motionCode (x : Motion) : motionOfCode (motionCode x) = some x := by cases x <;> rfl
@[simp] theorem occupancyOfCode_occupancyCode (x : Occupancy) : occupancyOfCode (occupancyCode x) = x := by
  cases x <;> rfl
@[simp] theorem sdCodeOfCode_sdCodeCode (x : StandDownCode) : sdCodeOfCode (sdCodeCode x) = x := by cases x <;> rfl
@[simp] theorem roleOfCode_roleCode (x : Role) : roleOfCode (roleCode x) = x := by cases x <;> rfl
@[simp] theorem sideOfCode_sideCode (x : Side) : sideOfCode (sideCode x) = x := by cases x <;> rfl
@[simp] theorem resetCauseOfCode_resetCauseCode (x : ResetCause) : resetCauseOfCode (resetCauseCode x) = x := by
  cases x <;> rfl
@[simp] theorem causeOfCode_causeCode (x : Cause) : causeOfCode (causeCode x) = some x := by cases x <;> rfl

@[simp] theorem legOfCode_legCode (x : Option (Fin 5)) : legOfCode (legCode x) = some x := by
  cases x with
  | none => rfl
  | some k => simp [legOfCode, legCode]

theorem causeCode_range (c : Cause) : 1 ≤ causeCode c ∧ causeCode c ≤ 20 := by cases c <;> decide

@[simp] theorem causeOfField_causeField (x : Option Cause) : causeOfField (causeField x) = some x := by
  cases x with
  | none => rfl
  | some c =>
    have := causeCode_range c
    simp [causeOfField, causeField, show causeCode c ≠ 0 by omega]

/-- A peer-trip origin whose cause the layout defines (R168). -/
theorem originOfFields_fields {x : Option (NodeId × Cause)} (own : ∀ o ∈ x, causeCode o.2 ≤ 12) :
    originOfFields (originIdField x) (originCauseField x) = some x := by
  match x, own with
  | none, _ => rfl
  | some (i, c), own =>
    have := own (i, c) rfl
    simp [originOfFields, originIdField, originCauseField, this]

theorem positionOfField_field24 (trackLength : Nat) {x : Option Nat} (range : x.getD 0 ≤ 400000) :
    positionOfField trackLength (field24 x) = x := by
  cases x with
  | none => rfl
  | some n =>
    simp only [Option.getD_some] at range
    rw [show field24 (some n) = n from rfl, positionOfField, if_neg (by omega), if_neg (by omega)]

theorem speedOfField_field16 {x : Option Nat} (range : x.getD 0 ≤ 1400) : speedOfField (field16 x) = x := by
  cases x with
  | none => rfl
  | some n =>
    simp only [Option.getD_some] at range
    rw [show field16 (some n) = n from rfl, speedOfField, if_neg (by omega), Nat.min_eq_left (by exact range)]

theorem loadOfField_field16 (wMax : Nat) {x : Option Nat} (range : x.getD 0 ≤ 20000) :
    loadOfField wMax (field16 x) = x := by
  cases x with
  | none => rfl
  | some n =>
    simp only [Option.getD_some] at range
    rw [show field16 (some n) = n from rfl, loadOfField, if_neg (by omega), if_neg (by omega)]

theorem field16_lt {x : Option Nat} {n : Nat} (range : x.getD 0 ≤ n) (small : n ≤ 65535) : field16 x < 65536 := by
  cases x with
  | none => decide
  | some m => simp only [Option.getD_some, field16] at *; omega

theorem field24_lt {x : Option Nat} (range : x.getD 0 ≤ 400000) : field24 x < 16777216 := by
  cases x with
  | none => decide
  | some m => simp only [Option.getD_some, field24] at *; omega

/-! ## Octets -/

theorem octet_toNat (n : Nat) : (octet n).toNat = n % 256 := by simp [octet]

theorem octet_toNat_of_lt {n : Nat} (small : n < 256) : (octet n).toNat = n := by
  rw [octet_toNat, Nat.mod_eq_of_lt small]

@[simp] theorem octet_of_toNat (b : Byte) : octet b.toNat = b := by simp [octet]

/-- The two octets of a number below 65,536, read big-endian. -/
theorem be16_read {n : Nat} (small : n < 65536) :
    (0 * 256 + (octet (n / 256)).toNat) * 256 + (octet n).toNat = n := by
  rw [octet_toNat, octet_toNat]
  omega

theorem be24_read {n : Nat} (small : n < 16777216) :
    ((0 * 256 + (octet (n / 65536)).toNat) * 256 + (octet (n / 256)).toNat) * 256 + (octet n).toNat = n := by
  rw [octet_toNat, octet_toNat, octet_toNat]
  omega

theorem flag_of_div_mod {n i : Nat} {b : Bool} (bit : n / 2 ^ i % 2 = b.toNat) : flag n i = b := by
  rw [flag, Nat.testBit_eq_decide_div_mod_eq, bit]
  cases b <;> rfl

theorem stateCode_le (x : NodeState) : stateCode x ≤ 8 := by cases x <;> decide
theorem classCode_le (x : BeaconClass) : classCode x ≤ 3 := by cases x <;> decide
theorem directionCode_le (x : Direction) : directionCode x ≤ 2 := by cases x <;> decide
theorem qualityCode_le (x : Quality) : qualityCode x ≤ 2 := by cases x <;> decide
theorem motionCode_le (x : Motion) : motionCode x ≤ 2 := by cases x <;> decide
theorem occupancyCode_le (x : Occupancy) : occupancyCode x ≤ 3 := by cases x <;> decide
theorem sdCodeCode_le (x : StandDownCode) : sdCodeCode x ≤ 3 := by cases x <;> decide
theorem roleCode_le (x : Role) : roleCode x ≤ 3 := by cases x <;> decide
theorem sideCode_le (x : Side) : sideCode x ≤ 1 := by cases x <;> decide
theorem resetCauseCode_le (x : ResetCause) : resetCauseCode x ≤ 3 := by cases x <;> decide

theorem legCode_le (x : Option (Fin 5)) : legCode x ≤ 7 := by
  cases x with
  | none => decide
  | some k => simp only [legCode]; omega

theorem causeField_le (x : Option Cause) : causeField x ≤ 20 := by
  cases x with
  | none => decide
  | some c => exact (causeCode_range c).2

theorem originIdField_le (x : Option (NodeId × Cause)) : originIdField x ≤ 15 := by
  match x with
  | none => decide
  | some (i, _) => simp only [originIdField]; omega

theorem originCauseField_le (x : Option (NodeId × Cause)) : originCauseField x ≤ 20 := by
  match x with
  | none => decide
  | some (_, c) => exact (causeCode_range c).2

/-! ## BEACON (R67) -/

section

variable (id : NodeId) (n : SeqNo) (r : BeaconRec)

/-- The octet of state, class and two flags. -/
theorem beaconFrame_octet2 : octetAt (beaconFrame id n r) 2
    = stateCode r.state * 16 + classCode r.cls * 4 + r.wake.toNat * 2 + r.annReq.toNat := by
  have := stateCode_le r.state
  have := classCode_le r.cls
  have := Bool.toNat_le r.wake
  have := Bool.toNat_le r.annReq
  exact octet_toNat_of_lt (by omega)

/-- The octet of direction, leg target and three flags. -/
theorem beaconFrame_octet5 : octetAt (beaconFrame id n r) 5
    = directionCode r.dir * 64 + legCode r.leg * 8 + r.dispatch.toNat * 4 + r.consent.toNat * 2 + r.recovery.toNat := by
  have := directionCode_le r.dir
  have := legCode_le r.leg
  have := Bool.toNat_le r.dispatch
  have := Bool.toNat_le r.consent
  have := Bool.toNat_le r.recovery
  exact octet_toNat_of_lt (by omega)

/-- The stand-down octet. -/
theorem beaconFrame_octet6 : octetAt (beaconFrame id n r) 6 = sdCodeCode r.sdCode * 64 + r.sdId.val := by
  have := sdCodeCode_le r.sdCode
  exact octet_toNat_of_lt (by omega)

/-- The octet of quality, motion and the two occupancies. -/
theorem beaconFrame_octet10 : octetAt (beaconFrame id n r) 10
    = qualityCode r.quality * 64 + motionCode r.motion * 16 + occupancyCode r.occA * 4 + occupancyCode r.occB := by
  have := qualityCode_le r.quality
  have := motionCode_le r.motion
  have := occupancyCode_le r.occA
  have := occupancyCode_le r.occB
  exact octet_toNat_of_lt (by omega)

theorem beaconFrame_octet17 : octetAt (beaconFrame id n r) 17 = causeField r.cause := by
  have := causeField_le r.cause
  exact octet_toNat_of_lt (by omega)

theorem flagsOctet_lt : flagsOctet r < 256 := by
  have := Bool.toNat_le r.overhaul
  have := Bool.toNat_le r.atMark
  have := Bool.toNat_le r.misaligned
  have := Bool.toNat_le r.disagree
  have := Bool.toNat_le r.doorsShut
  have := Bool.toNat_le r.brakesLifted
  have := Bool.toNat_le r.gateOpen
  have := Bool.toNat_le r.commsStop
  unfold flagsOctet
  omega

theorem beaconFrame_octet18 : octetAt (beaconFrame id n r) 18 = flagsOctet r := octet_toNat_of_lt (flagsOctet_lt r)

theorem beaconFrame_octet19 : octetAt (beaconFrame id n r) 19 = originIdField r.origin := by
  have := originIdField_le r.origin
  exact octet_toNat_of_lt (by omega)

theorem beaconFrame_octet20 : octetAt (beaconFrame id n r) 20 = originCauseField r.origin := by
  have := originCauseField_le r.origin
  exact octet_toNat_of_lt (by omega)

/-- The fields of the octet of state, class and two flags. -/
theorem beaconFrame_state : octetAt (beaconFrame id n r) 2 / 16 = stateCode r.state
    ∧ octetAt (beaconFrame id n r) 2 / 4 % 4 = classCode r.cls
    ∧ flag (octetAt (beaconFrame id n r) 2) 1 = r.wake ∧ flag (octetAt (beaconFrame id n r) 2) 0 = r.annReq := by
  have := classCode_le r.cls
  have := Bool.toNat_le r.wake
  have := Bool.toNat_le r.annReq
  rw [beaconFrame_octet2]
  refine ⟨by omega, by omega, flag_of_div_mod ?_, flag_of_div_mod ?_⟩ <;> omega

/-- The fields of the octet of direction, leg target and three flags. -/
theorem beaconFrame_run : octetAt (beaconFrame id n r) 5 / 64 = directionCode r.dir
    ∧ octetAt (beaconFrame id n r) 5 / 8 % 8 = legCode r.leg
    ∧ flag (octetAt (beaconFrame id n r) 5) 2 = r.dispatch ∧ flag (octetAt (beaconFrame id n r) 5) 1 = r.consent
    ∧ flag (octetAt (beaconFrame id n r) 5) 0 = r.recovery := by
  have := legCode_le r.leg
  have := Bool.toNat_le r.dispatch
  have := Bool.toNat_le r.consent
  have := Bool.toNat_le r.recovery
  rw [beaconFrame_octet5]
  refine ⟨by omega, by omega, flag_of_div_mod ?_, flag_of_div_mod ?_, flag_of_div_mod ?_⟩ <;> omega

/-- The fields of the stand-down octet. -/
theorem beaconFrame_standDown : octetAt (beaconFrame id n r) 6 / 64 = sdCodeCode r.sdCode
    ∧ octetAt (beaconFrame id n r) 6 % 16 = r.sdId.val ∧ Fin.ofNat 16 (octetAt (beaconFrame id n r) 6) = r.sdId := by
  rw [beaconFrame_octet6]
  refine ⟨by omega, by omega, Fin.ext ?_⟩
  simp only [Fin.ofNat]
  omega

/-- The fields of the octet of quality, motion and the two occupancies. -/
theorem beaconFrame_quality : octetAt (beaconFrame id n r) 10 / 64 = qualityCode r.quality
    ∧ octetAt (beaconFrame id n r) 10 / 16 % 4 = motionCode r.motion
    ∧ octetAt (beaconFrame id n r) 10 / 4 % 4 = occupancyCode r.occA
    ∧ octetAt (beaconFrame id n r) 10 % 4 = occupancyCode r.occB := by
  have := motionCode_le r.motion
  have := occupancyCode_le r.occA
  have := occupancyCode_le r.occB
  rw [beaconFrame_octet10]
  omega

/-- The flags octet, bit by bit. -/
theorem beaconFrame_flags : flag (octetAt (beaconFrame id n r) 18) 7 = r.overhaul
    ∧ flag (octetAt (beaconFrame id n r) 18) 6 = r.atMark ∧ flag (octetAt (beaconFrame id n r) 18) 5 = r.misaligned
    ∧ flag (octetAt (beaconFrame id n r) 18) 4 = r.disagree ∧ flag (octetAt (beaconFrame id n r) 18) 3 = r.doorsShut
    ∧ flag (octetAt (beaconFrame id n r) 18) 2 = r.brakesLifted
    ∧ flag (octetAt (beaconFrame id n r) 18) 1 = r.gateOpen ∧ flag (octetAt (beaconFrame id n r) 18) 0 = r.commsStop := by
  have := Bool.toNat_le r.overhaul
  have := Bool.toNat_le r.atMark
  have := Bool.toNat_le r.misaligned
  have := Bool.toNat_le r.disagree
  have := Bool.toNat_le r.doorsShut
  have := Bool.toNat_le r.brakesLifted
  have := Bool.toNat_le r.gateOpen
  have := Bool.toNat_le r.commsStop
  rw [beaconFrame_octet18]
  unfold flagsOctet
  refine ⟨flag_of_div_mod ?_, flag_of_div_mod ?_, flag_of_div_mod ?_, flag_of_div_mod ?_, flag_of_div_mod ?_,
    flag_of_div_mod ?_, flag_of_div_mod ?_, flag_of_div_mod ?_⟩ <;> omega

theorem beaconFrame_runNo : BitVec.ofNat 16 (beAt (beaconFrame id n r) 3 2) = r.run := by
  have read : beAt (beaconFrame id n r) 3 2 = r.run.toNat := be16_read r.run.isLt
  rw [read]
  simp

end

/-- A BEACON whose fields lie in the ranges of the layout is read back field for field (R67, R78). -/
theorem parseBeacon_beaconFrame {id : NodeId} {n : SeqNo} {trackLength wMax : Nat} {r : BeaconRec}
    (position : r.position.getD 0 ≤ 400000) (speed : r.speed.getD 0 ≤ 1400) (vperm : r.vperm ≤ 1400)
    (load : r.load.getD 0 ≤ 20000) (part : r.sdCode ≠ .none → r.sdId.val ≤ 7)
    (origin : ∀ o ∈ r.origin, causeCode o.2 ≤ 12) :
    parseBeacon trackLength wMax (beaconFrame id n r) = some r := by
  obtain ⟨state, cls, wake, annReq⟩ := beaconFrame_state id n r
  obtain ⟨dir, leg, dispatch, consent, recovery⟩ := beaconFrame_run id n r
  obtain ⟨sdCode, sdNibble, sdId⟩ := beaconFrame_standDown id n r
  obtain ⟨quality, motion, occA, occB⟩ := beaconFrame_quality id n r
  obtain ⟨overhaul, atMark, misaligned, disagree, doorsShut, brakesLifted, gateOpen, commsStop⟩ := beaconFrame_flags id n r
  have shown24 : beAt (beaconFrame id n r) 7 3 = field24 r.position := be24_read (field24_lt position)
  have shownSpeed : beAt (beaconFrame id n r) 11 2 = field16 r.speed := be16_read (field16_lt speed (by omega))
  have shownVperm : beAt (beaconFrame id n r) 13 2 = r.vperm := be16_read (by omega)
  have shownLoad : beAt (beaconFrame id n r) 15 2 = field16 r.load := be16_read (field16_lt load (by omega))
  have defined : ¬ (sdCodeCode r.sdCode ≠ 0 ∧ 7 < r.sdId.val) := by
    rintro ⟨shows, beyond⟩
    have := part (by rintro none; rw [none] at shows; exact shows rfl)
    omega
  unfold parseBeacon
  simp only [state, cls, wake, annReq, dir, leg, dispatch, consent, recovery, sdCode, sdNibble, sdId, quality, motion,
    occA, occB, overhaul, atMark, misaligned, disagree, doorsShut, brakesLifted, gateOpen, commsStop,
    beaconFrame_octet17, beaconFrame_octet19, beaconFrame_octet20, beaconFrame_runNo, shown24, shownSpeed, shownVperm,
    shownLoad, stateOfCode_stateCode, classOfCode_classCode, directionOfCode_directionCode, legOfCode_legCode,
    qualityOfCode_qualityCode, motionOfCode_motionCode, occupancyOfCode_occupancyCode, sdCodeOfCode_sdCodeCode,
    causeOfField_causeField, originOfFields_fields origin, positionOfField_field24 trackLength position,
    speedOfField_field16 speed, loadOfField_field16 wMax load, Nat.min_eq_left (show r.vperm ≤ Config.speedMax from vperm),
    if_neg defined]

/-! ## Every frame of the layout -/

/-- Octet 0 names the kind and the sender (R67). -/
theorem sourceId_of_octet0 {l : List Byte} {id : NodeId} {kind : Nat} (head : octetAt l 0 = kind * 16 + id.val) :
    sourceId l = id := by
  rw [sourceId, head]
  apply Fin.ext
  simp only [Fin.ofNat]
  omega

/-- A frame whose check sequence agrees is well checked by its kind and length (R77). -/
theorem wellChecked_of_kind {l : List Byte} {id : NodeId} {k : FrameKind} (checks : checkAgrees l = true)
    (kind : (k = .beacon ∧ octetAt l 0 = 16 + id.val ∧ l.length = 23)
      ∨ (k = .announce ∧ octetAt l 0 = 32 + id.val ∧ l.length = 9)) :
    wellChecked { octets := l, framingError := false, overlong := false } = some k := by
  have := id.isLt
  unfold wellChecked
  rw [if_neg (by simp)]
  rcases kind with ⟨rfl, head, length⟩ | ⟨rfl, head, length⟩
  · rw [if_pos ⟨by dsimp only; omega, checks⟩, if_pos ⟨by dsimp only; omega, length⟩]
  · rw [if_pos ⟨by dsimp only; omega, checks⟩, if_neg (by dsimp only; omega), if_pos ⟨by dsimp only; omega, length⟩]

theorem beaconFrame_checked (id : NodeId) (n : SeqNo) (r : BeaconRec) :
    wellChecked { octets := beaconFrame id n r, framingError := false, overlong := false } = some .beacon
      ∧ sourceId (beaconFrame id n r) = id ∧ frameSeq (beaconFrame id n r) = n := by
  have head : octetAt (beaconFrame id n r) 0 = 16 + id.val := octet_toNat_of_lt (by omega)
  refine ⟨wellChecked_of_kind (id := id) (checkAgrees_withCheck _) (.inl ⟨rfl, head, rfl⟩), ?_, octet_of_toNat n⟩
  exact sourceId_of_octet0 (kind := 1) head

theorem announceFrame_checked (id : NodeId) (n : SeqNo) (a : AnnounceFrame) :
    wellChecked { octets := announceFrame id n a, framingError := false, overlong := false } = some .announce
      ∧ sourceId (announceFrame id n a) = id ∧ frameSeq (announceFrame id n a) = n := by
  have head : octetAt (announceFrame id n a) 0 = 32 + id.val := octet_toNat_of_lt (by omega)
  refine ⟨wellChecked_of_kind (id := id) (checkAgrees_withCheck _) (.inr ⟨rfl, head, rfl⟩), ?_, octet_of_toNat n⟩
  exact sourceId_of_octet0 (kind := 2) head

/-- An ANNOUNCE whose count fits its octet is read back field for field (R67, R70). -/
theorem parseAnnounce_announceFrame {id : NodeId} {n : SeqNo} {a : AnnounceFrame} (count : a.held.count ≤ 255) :
    parseAnnounce (announceFrame id n a) = a := by
  have octet2 : octetAt (announceFrame id n a) 2
      = roleCode a.role * 64 + sideCode a.side * 32 + resetCauseCode a.held.resetCause * 8 := by
    have := roleCode_le a.role
    have := sideCode_le a.side
    have := resetCauseCode_le a.held.resetCause
    exact octet_toNat_of_lt (by omega)
  have fields : octetAt (announceFrame id n a) 2 / 64 = roleCode a.role
      ∧ octetAt (announceFrame id n a) 2 / 32 % 2 = sideCode a.side
      ∧ octetAt (announceFrame id n a) 2 / 8 % 4 = resetCauseCode a.held.resetCause := by
    have := sideCode_le a.side
    have := resetCauseCode_le a.held.resetCause
    rw [octet2]
    omega
  obtain ⟨role, side, cause⟩ := fields
  have fingerprint : BitVec.ofNat 16 (beAt (announceFrame id n a) 3 2) = a.held.fingerprint := by
    have read : beAt (announceFrame id n a) 3 2 = a.held.fingerprint.toNat := be16_read a.held.fingerprint.isLt
    rw [read]
    simp
  have revision : octet (octetAt (announceFrame id n a) 5) = a.held.revision := octet_of_toNat a.held.revision
  have listed : octetAt (announceFrame id n a) 6 = a.held.count := octet_toNat_of_lt (by omega)
  simp only [parseAnnounce, role, side, cause, fingerprint, revision, listed, roleOfCode_roleCode, sideOfCode_sideCode,
    resetCauseOfCode_resetCauseCode]

/-- Settles O56. -/
theorem framesRoundTrip : Obligations.FramesRoundTrip := by
  intro id n trackLength wMax r a
  refine ⟨fun position speed vperm load part origin => ?_, fun count => ?_⟩
  · exact ⟨parseBeacon_beaconFrame position speed vperm load part origin, beaconFrame_checked id n r⟩
  · exact ⟨parseAnnounce_announceFrame count, announceFrame_checked id n a⟩

end Sys2Proof.Machine
end

section
/-! PROOF. An attempt starts with a frame that carries what its owners hold, and frames cross the line bit by bit (O38,
O40). -/

namespace Sys2Proof.Machine

/-! ## What the own BEACON carries (R69) -/

theorem fieldsFit_iff (s : State) : fieldsFit s = true ↔
    s.loader.profile.all Profile.fits = true
      ∧ (s.loader.profile.isSome = true ∨ s.seq.state = .starting ∨ s.seq.state = .faulted)
      ∧ s.tracker.speed ≤ 1400 ∧ s.envelope.vperm ≤ 1400 ∧ s.tracker.load.getD 0 ≤ 20000
      ∧ ∀ o ∈ s.trips.origin, causeCode o.2 ≤ 12 := by
  have fits : (fun p => rangesHold p && decide (p.nodes.length ≤ 255)) = Profile.fits := rfl
  simp only [fieldsFit, fits, inState, Bool.and_eq_true, Bool.or_eq_true, beq_iff_eq, decide_eq_true_eq, or_assoc,
    and_assoc, Option.all_eq_true (p := fun o : NodeId × Cause => decide (causeCode o.2 ≤ 12)), Option.mem_def]

theorem length_le_of_ranges {p : Profile} (ranges : rangesHold p = true) : p.length ≤ 400000 := by
  simp only [rangesHold, within, Bool.and_eq_true, decide_eq_true_eq] at ranges
  omega

/-- The reported position lies on the track (R21). -/
theorem reported_le (s : State) (p : Profile) : reported s p ≤ p.length := by
  unfold reported clampInt
  omega

/-- A node without a profile, after STARTING, is FAULTED (R15). -/
theorem faulted_of_no_profile {s : State} (fit : fieldsFit s = true) (started : s.seq.state ≠ .starting)
    (none : s.loader.profile = none) : s.seq.state = .faulted := by
  rw [fieldsFit_iff] at fit
  obtain ⟨-, loaded, -⟩ := fit
  simp only [none, Option.isSome_none, Bool.false_eq_true, false_or] at loaded
  exact loaded.resolve_left started

theorem shownPosition_eq {s : State} (fit : fieldsFit s = true) (started : s.seq.state ≠ .starting) :
    shownPosition s = if hasEncoder s = true then some (s.loader.profile.elim 0 (reported s)) else none := by
  unfold shownPosition
  cases profile : s.loader.profile with
  | some p => rfl
  | none => simp [inState, faulted_of_no_profile fit started profile]

theorem shownPosition_le {s : State} (fit : fieldsFit s = true) (started : s.seq.state ≠ .starting) :
    (shownPosition s).getD 0 ≤ 400000 := by
  rw [shownPosition_eq fit started]
  rw [fieldsFit_iff] at fit
  obtain ⟨profile, -⟩ := fit
  split
  · cases loaded : s.loader.profile with
    | none => simp
    | some p =>
      simp only [loaded, Option.all_some, Profile.fits_iff] at profile
      exact (reported_le s p).trans (length_le_of_ranges profile.1)
  · simp

theorem shownQuality_eq {s : State} (fit : fieldsFit s = true) (started : s.seq.state ≠ .starting) :
    shownQuality s = if hasEncoder s = true ∧ s.loader.profile ≠ none then s.tracker.quality else .none := by
  unfold shownQuality
  cases profile : s.loader.profile with
  | some p => simp
  | none => simp [inState, faulted_of_no_profile fit started profile]

theorem shownCause_eq (s : State) : shownCause s =
    if s.seq.state = .tripped then s.trips.primary else if s.seq.state = .faulted then s.seq.faultCause else none := by
  unfold shownCause
  cases s.seq.state <;> rfl

/-- The stand-down field of a part (R183). -/
theorem standDownField_code (s : State) : (standDownField s).1 =
    if 0 < s.cls.commit then .commit
    else match s.cls.sdRole with
      | .none => .none
      | .initiating => .request
      | .acking => .ack := by
  unfold standDownField
  split
  · rfl
  · cases s.cls.sdRole <;> rfl

theorem standDownField_id (s : State) : (standDownField s).2 =
    if 0 < s.cls.commit ∨ s.cls.sdRole = .initiating then Fin.ofNat 16 (ownId s).val
    else if s.cls.sdRole = .acking then s.cls.sdId.elim 15 (fun i => Fin.ofNat 16 i.val)
    else 15 := by
  unfold standDownField
  by_cases commits : 0 < s.cls.commit
  · simp [commits]
  · cases s.cls.sdRole <;> cases s.cls.sdId <;> simp [commits]

/-- A part that stands has its id, so that what the field shows with a code is a node id (R183). -/
theorem standDownField_small {s : State} (fits : classHolds s = true) (shows : (standDownField s).1 ≠ .none) :
    (standDownField s).2.val ≤ 7 := by
  have small : ∀ i : NodeId, (Fin.ofNat 16 i.val).val ≤ 7 := by decide
  rw [classHolds_iff] at fits
  obtain ⟨-, -, -, -, -, part⟩ := fits
  rw [standDownField_code] at shows
  rw [standDownField_id]
  by_cases own : 0 < s.cls.commit ∨ s.cls.sdRole = .initiating
  · rw [if_pos own]
    exact small _
  · rw [if_neg own]
    obtain ⟨noCommit, other⟩ := not_or.mp own
    rw [if_neg noCommit] at shows
    cases role : s.cls.sdRole with
    | none => simp [role] at shows
    | initiating => exact absurd role other
    | acking =>
      obtain ⟨-, held, -⟩ := part.resolve_left (by simp [role])
      obtain ⟨i, id⟩ := Option.isSome_iff_exists.mp held
      simpa [id] using small i

/-! ## The start of an attempt (R71) -/

theorem exec_attemptStart_eq (s : State) : exec .attemptStart s = live startAttempt s := rfl

/-- The frame of an attempt: the one in hand, else an ANNOUNCE, else a BEACON (R71). -/
theorem chosenFrame_eq {k : FrameKind} {a : LineAccess}
    (chosen : a.inHand = some k ∨ (a.inHand = none ∧ a.pendingAnnounce = true ∧ k = .announce)
      ∨ (a.inHand = none ∧ a.pendingAnnounce = false ∧ a.pendingBeacon = true ∧ k = .beacon)) :
    chosenFrame a = some k := by
  rcases chosen with inHand | ⟨free, announce, rfl⟩ | ⟨free, noAnnounce, beacon, rfl⟩
  · simp [chosenFrame, inHand]
  · simp [chosenFrame, free, announce]
  · simp [chosenFrame, free, noAnnounce, beacon]

/-- What the beginning of an attempt leaves at the Line Access Unit (R69, R71, R74). -/
theorem beginAttempt_eq {k : FrameKind} {s : State} (chosen : s.access.inHand = some k ∨ s.access.inHand = none) :
    beginAttempt k s =
      { s with access :=
        { s.access with
          tx := .sending
          inHand := some k
          pendingBeacon := s.access.pendingBeacon && !(s.access.inHand.isNone && k == .beacon)
          pendingAnnounce := s.access.pendingAnnounce && !(s.access.inHand.isNone && k == .announce)
          attempts := s.access.attempts + 1
          ownSeq := s.access.ownSeq + 1
          beaconDue :=
            if k = .beacon then some (s.time.now + BitVec.ofNat 32 (beaconPeriod s.cls.cls)) else s.access.beaconDue
          lastAttempt := if k = .beacon then some s.time.now else s.access.lastAttempt
          gapReached := false
          txFrame := ownFrame k (s.access.ownSeq + 1) s
          txBits := frameLevels (ownFrame k (s.access.ownSeq + 1) s)
          lost := false
          sent := [] } } := by
  rcases chosen with inHand | free
  · cases k <;> simp [beginAttempt, takeInHand, inHand, after]
  · cases k <;> simp [beginAttempt, takeInHand, free, after]

theorem ownFrame_checked (k : FrameKind) (n : SeqNo) (s : State) :
    wellChecked { octets := ownFrame k n s, framingError := false, overlong := false } = some k
      ∧ sourceId (ownFrame k n s) = ownId s ∧ frameSeq (ownFrame k n s) = n := by
  cases k with
  | beacon => exact beaconFrame_checked _ n _
  | announce => exact announceFrame_checked _ n _

/-- The own BEACON's fields keep to the layout, so that a receiver reads them back (R67, R69). -/
theorem parseBeacon_ownFrame {n : SeqNo} {trackLength wMax : Nat} {s : State} (started : s.seq.state ≠ .starting)
    (fit : fieldsFit s = true) (fits : classHolds s = true) :
    parseBeacon trackLength wMax (ownFrame .beacon n s) = some (ownBeacon s) := by
  have fields := fit
  rw [fieldsFit_iff] at fields
  obtain ⟨-, -, speed, vperm, load, origin⟩ := fields
  refine parseBeacon_beaconFrame (shownPosition_le fit started) ?_ ?_ ?_ (standDownField_small fits) origin
  · simp only [ownBeacon, shownSpeed]
    split <;> simp [speed]
  · simp only [ownBeacon]
    split <;> omega
  · simp only [ownBeacon, shownLoad]
    split <;> simp [load]

theorem parseAnnounce_ownFrame {n : SeqNo} {s : State} (fit : fieldsFit s = true) :
    parseAnnounce (ownFrame .announce n s) = ownAnnounce s := by
  rw [fieldsFit_iff] at fit
  obtain ⟨profile, -⟩ := fit
  refine parseAnnounce_announceFrame ?_
  simp only [ownAnnounce]
  cases loaded : s.loader.profile with
  | none => simp
  | some p =>
    simp only [loaded, Option.all_some, Profile.fits_iff] at profile
    exact profile.2

/-- Settles O38. -/
theorem attemptStarts : Obligations.AttemptStarts := by
  intro k trackLength wMax s live started deferring chosen
  refine ⟨startAttempt s, by rw [exec_attemptStart_eq, live_of_not_held _ live], ?_⟩
  cases gap : s.access.gapReached with
  | false =>
    have waits : startAttempt s = s := by simp [startAttempt, gap]
    rw [waits]
    exact ⟨rfl, fun _ => rfl, by simp⟩
  | true =>
    have begins : startAttempt s = beginAttempt k s := by
      simp [startAttempt, inState, deferring, gap, started, chosenFrame_eq chosen]
    have inHand : s.access.inHand = some k ∨ s.access.inHand = none := by tauto
    obtain ⟨checked, source, seq⟩ := ownFrame_checked k (s.access.ownSeq + 1) s
    rw [begins, beginAttempt_eq inHand]
    refine ⟨rfl, by simp, fun _ => ⟨rfl, checked, source, seq, ?_, ?_⟩⟩
    · rintro rfl fit fits
      refine (parseBeacon_ownFrame started fit fits).trans (congrArg some ?_)
      unfold ownBeacon
      rw [standDownField_code, standDownField_id, shownPosition_eq fit started, shownQuality_eq fit started,
        shownCause_eq]
      simp only [inState, beq_iff_eq]
      rfl
    · rintro rfl fit
      refine (parseAnnounce_ownFrame fit).trans ?_
      simp only [ownAnnounce, inState, beq_iff_eq]

/-! ## Bit times (R65, R66, R71, R72) -/

theorem bitTime_of_deferring {gap : Nat} {x : LineLevel} {a : LineAccess} (deferring : a.tx = .deferring) :
    (bitTime gap x a).idleCount = idleAfter x a.idleCount
      ∧ (bitTime gap x a).gapReached = decide (gap ≤ (bitTime gap x a).idleCount) := by
  have silent : drivenLevel a = .recessive := by simp [drivenLevel, deferring]
  simp [bitTime, judgeGap, silent, deferring]

/-- A bit driven RECESSIVE against a DOMINANT line loses it, and one that the line shows as driven lets the next follow
(R72). -/
theorem bitTime_of_recessive {gap : Nat} {rest : List LineLevel} {a : LineAccess} (sending : a.tx = .sending)
    (driven : a.txBits = .recessive :: rest) :
    attemptLost (bitTime gap .dominant a) = true ∧ drivenLevel (bitTime gap .dominant a) = .recessive
      ∧ (a.lost = false → attemptLost (bitTime gap .recessive a) = false
          ∧ (bitTime gap .recessive a).txBits = rest) := by
  have level : drivenLevel a = .recessive := by simp [drivenLevel, sending, driven]
  simp only [bitTime, level, recessive_lineLevel, transmitBit_lost rest a sending driven,
    transmitBit_driven .recessive rest a sending driven]
  refine ⟨?_, ?_, fun kept => ⟨?_, ?_⟩⟩
  · simp [judgeGap, attemptLost, sending]
  · simp [judgeGap, drivenLevel]
  · simp [judgeGap, attemptLost, kept]
  · simp [judgeGap]

/-- A bit driven DOMINANT stands on the line whatever the others give it (R65, R72). -/
theorem bitTime_of_dominant {gap : Nat} {x : LineLevel} {rest : List LineLevel} {a : LineAccess}
    (sending : a.tx = .sending) (driven : a.txBits = .dominant :: rest) (kept : a.lost = false) :
    attemptLost (bitTime gap x a) = false ∧ (bitTime gap x a).txBits = rest ∧ (bitTime gap x a).idleCount = 0 := by
  have level : lineLevel (drivenLevel a) x = .dominant := by
    simp [drivenLevel, sending, driven, lineLevel]
  simp only [bitTime, level, transmitBit_driven .dominant rest a sending driven]
  refine ⟨?_, ?_, ?_⟩
  · simp [judgeGap, attemptLost, kept]
  · simp [judgeGap]
  · simp [judgeGap, idleAfter]

/-! ## A frame on the line (R65, R66) -/

/-- The bits still to cross the line, driven by the node itself against a line that nobody else drives, or by another node
while the node itself is silent. -/
def Carried (own : Bool) (todo levels : List LineLevel) (a : LineAccess) : Prop :=
  if own then a.tx = .sending ∧ a.txBits = todo ∧ levels = [] else a.tx ≠ .sending ∧ levels = todo

theorem carried_own {todo levels : List LineLevel} {a : LineAccess} :
    Carried true todo levels a ↔ a.tx = .sending ∧ a.txBits = todo ∧ levels = [] := by
  simp [Carried]

/-- The receiver has gathered octets, and of the octet in progress some bits, while bits cross the line. -/
structure Receives (own : Bool) (todo levels : List LineLevel) (taken : Option (List Bool)) (kept : List Byte)
    (long : Bool) (a : LineAccess) : Prop where
  carried : Carried own todo levels a
  bits : a.rxBits = taken
  octets : a.rxBuffer = kept
  framing : a.rxFramingError = false
  overlong : a.rxOverlong = long
  lost : a.lost = false
  idle : taken = none → 0 < a.idleCount

/-- A bit time in which a bit crosses the line: the transmitter goes on, and the receiver samples the bit. -/
theorem bitTime_of_receives {gap : Nat} {own : Bool} {x : LineLevel} {rest levels : List LineLevel}
    {taken : Option (List Bool)} {octets : List Byte} {overlong : Bool} {a : LineAccess}
    (h : Receives own (x :: rest) levels taken octets overlong a) :
    ∃ b, bitTime gap (levels.headD .recessive) a = judgeGap gap (receiveBit x b)
      ∧ Receives own rest levels.tail taken octets overlong b := by
  obtain ⟨carried, bits, buffer, framing, long, lost, idle⟩ := h
  cases own with
  | true =>
    obtain ⟨sending, driven, rfl⟩ : a.tx = .sending ∧ a.txBits = x :: rest ∧ levels = [] := carried_own.mp carried
    have level : drivenLevel a = x := by simp [drivenLevel, sending, driven]
    refine ⟨{ a with txBits := rest }, ?_, by simp [Carried, sending], bits, buffer, framing, long, lost, idle⟩
    simp [bitTime, level, transmitBit_driven x rest a sending driven]
  | false =>
    obtain ⟨silent, rfl⟩ : a.tx ≠ .sending ∧ levels = x :: rest := by simpa [Carried] using carried
    have level : drivenLevel a = .recessive := by simp [drivenLevel, silent]
    refine ⟨a, ?_, by simp [Carried, silent], bits, buffer, framing, long, lost, idle⟩
    simp [bitTime, level, transmitBit_idle _ a silent]

theorem carried_congr {own : Bool} {todo levels : List LineLevel} {a b : LineAccess} (tx : b.tx = a.tx)
    (txBits : b.txBits = a.txBits) (carried : Carried own todo levels a) : Carried own todo levels b := by
  unfold Carried at carried ⊢
  rwa [tx, txBits]

section

variable {gap : Nat} {own : Bool} {rest levels : List LineLevel} {bits : List Bool} {octets : List Byte} {overlong : Bool}
  {a : LineAccess}

/-- The start bit. -/
theorem receives_start (h : Receives own (.dominant :: rest) levels none octets overlong a) :
    Receives own rest levels.tail (some []) octets overlong (bitTime gap (levels.headD .recessive) a) := by
  obtain ⟨b, passed, g⟩ := bitTime_of_receives (gap := gap) h
  rw [passed, receiveBit_start _ g.bits (g.idle rfl)]
  exact ⟨carried_congr rfl rfl g.carried, rfl, g.octets, g.framing, g.overlong, g.lost, by simp⟩

/-- A data bit. -/
theorem receives_data {d : Bool} (h : Receives own (bitLevel d :: rest) levels (some bits) octets overlong a)
    (short : bits.length < 8) :
    Receives own rest levels.tail (some (bits ++ [d])) octets overlong (bitTime gap (levels.headD .recessive) a) := by
  have shown : (bitLevel d == .recessive) = d := by cases d <;> rfl
  obtain ⟨b, passed, g⟩ := bitTime_of_receives (gap := gap) h
  rw [passed, receiveBit_data _ _ bits g.bits short, shown]
  exact ⟨carried_congr rfl rfl g.carried, rfl, g.octets, g.framing, g.overlong, g.lost, by simp⟩

/-- The data bits one after another. -/
theorem receives_dataBits (ds : List Bool) {bits : List Bool} {levels : List LineLevel} {a : LineAccess}
    (h : Receives own (ds.map bitLevel ++ rest) levels (some bits) octets overlong a)
    (short : bits.length + ds.length ≤ 8) :
    Receives own rest (levels.drop ds.length) (some (bits ++ ds)) octets overlong (bitTimes gap ds.length levels a) := by
  induction ds generalizing bits levels a with
  | nil => simpa using h
  | cons d ds ih =>
    simp only [List.length_cons] at short
    have next := ih (receives_data (gap := gap) h (by omega)) (by simp only [List.length_append, List.length_singleton]; omega)
    simpa [List.drop_tail] using next

/-- The stop bit completes the octet, which joins the buffer where there is room (R66). -/
theorem receives_stop (h : Receives own (.recessive :: rest) levels (some bits) octets overlong a)
    (full : bits.length = 8) :
    Receives own rest levels.tail none (if octets.length < 23 then octets ++ [octetLow bits] else octets)
      (overlong || decide (23 ≤ octets.length)) (bitTime gap (levels.headD .recessive) a) := by
  obtain ⟨b, passed, g⟩ := bitTime_of_receives (gap := gap) h
  rw [passed, receiveBit_stop _ _ bits g.bits full, keepOctet, g.octets]
  by_cases room : octets.length < 23
  · rw [if_pos (show octets.length < Config.rxOctets from room), if_pos room, decide_eq_false (by omega), Bool.or_false]
    exact ⟨carried_congr rfl rfl g.carried, rfl, rfl, by simp [judgeGap, g.framing], g.overlong, g.lost,
      fun _ => by simp [judgeGap, idleAfter, Config.idleMax]⟩
  · rw [if_neg (show ¬ octets.length < Config.rxOctets from room), if_neg room, decide_eq_true (by omega), Bool.or_true]
    exact ⟨carried_congr rfl rfl g.carried, rfl, rfl, by simp [judgeGap, g.framing], rfl, g.lost,
      fun _ => by simp [judgeGap, idleAfter, Config.idleMax]⟩

end

theorem octetLow_bits (b : Byte) : octetLow ((List.range 8).map (fun i => b.getLsbD i)) = b := by
  revert b
  decide

section

variable {gap : Nat} {own : Bool} {rest levels : List LineLevel} {octets : List Byte} {overlong : Bool} {a : LineAccess}

/-- The ten bit times of an octet (R65, R66). -/
theorem receives_octet {b : Byte} (h : Receives own (octetLevels b ++ rest) levels none octets overlong a) :
    Receives own rest (levels.drop 10) none (if octets.length < 23 then octets ++ [b] else octets)
      (overlong || decide (23 ≤ octets.length)) (bitTimes gap 10 levels a) := by
  have spelled : octetLevels b ++ rest
      = .dominant :: (((List.range 8).map (fun i => b.getLsbD i)).map bitLevel ++ (.recessive :: rest)) := by
    simp [octetLevels, Function.comp_def]
  rw [spelled] at h
  have data := receives_dataBits (gap := gap) _ (receives_start (gap := gap) h) (by simp)
  have stop := receives_stop (gap := gap) data (by simp)
  rw [List.nil_append, octetLow_bits] at stop
  have split : bitTimes gap 10 levels a = bitTimes gap (1 + 8 + 1) levels a := rfl
  rw [split, bitTimes_add, bitTimes_add]
  simpa [List.drop_tail] using stop

/-- A whole frame, of which the first 23 octets are kept (R66). -/
theorem receives_frame (l : List Byte) {levels : List LineLevel} {octets : List Byte} {overlong : Bool} {a : LineAccess}
    (h : Receives own (frameLevels l) levels none octets overlong a) (room : octets.length ≤ 23) :
    Receives own [] (levels.drop (10 * l.length)) none ((octets ++ l).take 23)
      (overlong || decide (23 < octets.length + l.length)) (bitTimes gap (10 * l.length) levels a) := by
  induction l generalizing levels octets overlong a with
  | nil =>
    have whole : (octets ++ []).take 23 = octets := by simp [List.take_of_length_le room]
    have fits : decide (23 < octets.length + ([] : List Byte).length) = false := decide_eq_false (by simp; omega)
    rw [whole, fits, Bool.or_false]
    simpa using h
  | cons b l ih =>
    rw [frameLevels_cons] at h
    have octet := receives_octet (gap := gap) h
    have space : (if octets.length < 23 then octets ++ [b] else octets).length ≤ 23 := by
      split
      · rw [List.length_append, List.length_singleton]
        omega
      · exact room
    have next := ih octet space
    have times : 10 * (b :: l).length = 10 + 10 * l.length := by simp only [List.length_cons]; omega
    rw [times, bitTimes_add, ← List.drop_drop]
    convert next using 1
    · by_cases space : octets.length < 23
      · simp [space]
      · have full : octets.length = 23 := by omega
        simp [full]
    · by_cases space : octets.length < 23
      · have later : decide (23 ≤ octets.length) = false := decide_eq_false (by omega)
        simp only [space, if_true, List.length_append, List.length_cons, List.length_nil, later, Bool.or_false]
        congr 2
        simp only [eq_iff_iff]
        omega
      · have full : octets.length = 23 := by omega
        simp [full]

/-- An idle bit time only counts (R66). -/
theorem receives_idle (h : Receives own [] [] none octets overlong a) :
    Receives own [] [] none octets overlong (bitTime gap .recessive a)
      ∧ (bitTime gap .recessive a).idleCount = min (a.idleCount + 1) 255 := by
  have level : lineLevel (drivenLevel a) .recessive = .recessive := by
    cases own with
    | true =>
      obtain ⟨-, driven, -⟩ : a.tx = .sending ∧ a.txBits = [] ∧ ([] : List LineLevel) = [] := carried_own.mp h.carried
      simp [drivenLevel, driven]
    | false =>
      obtain silent : a.tx ≠ .sending := by simpa [Carried] using h.carried
      simp [drivenLevel, silent]
  have silent : transmitBit .recessive a = a := by
    cases own with
    | true =>
      obtain ⟨-, driven, -⟩ : a.tx = .sending ∧ a.txBits = [] ∧ ([] : List LineLevel) = [] := carried_own.mp h.carried
      simp [transmitBit, driven]
    | false => exact transmitBit_idle _ a (by simpa [Carried] using h.carried)
  rw [bitTime, level, silent, receiveBit_rest a h.bits]
  exact ⟨⟨carried_congr rfl rfl h.carried, h.bits, h.octets, h.framing, h.overlong, h.lost,
    fun _ => by simp [judgeGap, Config.idleMax]⟩, rfl⟩

/-- The idle bit times that end a frame (R66). -/
theorem receives_idleTimes (n : Nat) {a : LineAccess} (h : Receives own [] [] none octets overlong a) :
    Receives own [] [] none octets overlong (bitTimes gap n [] a)
      ∧ min (a.idleCount + n) 255 ≤ (bitTimes gap n [] a).idleCount := by
  induction n generalizing a with
  | zero => exact ⟨h, by simp⟩
  | succ n ih =>
    obtain ⟨next, counted⟩ := receives_idle (gap := gap) h
    obtain ⟨later, atLeast⟩ := ih next
    exact ⟨later, by simp only [bitTimes_succ, List.tail_nil, List.headD_nil]; omega⟩

end

theorem attemptDriven_of_carried {own : Bool} {levels : List LineLevel} {a : LineAccess}
    (carried : Carried own [] levels a) (kept : a.lost = false) : attemptDriven a = own := by
  cases own with
  | true =>
    obtain ⟨sending, driven, -⟩ : a.tx = .sending ∧ a.txBits = [] ∧ levels = [] := carried_own.mp carried
    simp [attemptDriven, sending, driven, kept]
  | false =>
    obtain ⟨silent, -⟩ : a.tx ≠ .sending ∧ _ := by simpa [Carried] using carried
    simp [attemptDriven, silent]

theorem frameLevels_length (l : List Byte) : (frameLevels l).length = 10 * l.length := by
  induction l with
  | nil => rfl
  | cons b l ih =>
    simp only [frameLevels_cons, List.length_append, octetLevels_length, ih, List.length_cons]
    omega

/-- Settles O40: octet by octet the receiver gathers what crosses the line, and then the idle bit times. -/
theorem framesCrossTheLine : Obligations.FramesCrossTheLine := by
  intro gap l own x rest a
  refine ⟨fun some free after empty sound short kept drives => ?_, bitTime_of_recessive, bitTime_of_dominant,
    fun deferring level => ?_, fun deferring level => ?_, fun deferring => (bitTime_of_deferring deferring).2⟩
  · have begun : Receives own (frameLevels l) (if own then [] else frameLevels l) none [] false a := by
      refine ⟨?_, free, empty, sound, short, kept, fun _ => after⟩
      cases own with
      | true => simpa [Carried] using drives
      | false => simpa [Carried] using drives
    have crossed := receives_frame (gap := gap) l begun (by simp)
    have gone : (if own then [] else frameLevels l).drop (10 * l.length) = [] := by
      cases own with
      | true => simp
      | false => simp [frameLevels_length]
    rw [gone] at crossed
    obtain ⟨ended, idle⟩ := receives_idleTimes (gap := gap) 20 crossed
    simp only [List.nil_append] at crossed ended
    refine ⟨crossed.octets, by simpa using crossed.overlong, crossed.framing,
      attemptDriven_of_carried crossed.carried crossed.lost, ?_, ?_⟩
    · rw [bitTimes_add, gone, frameHasEnded, ended.octets]
      have nonempty : (l.take 23).isEmpty = false := by cases l <;> simp_all
      have enough : Config.frameEndIdle ≤ (bitTimes gap 20 [] (bitTimes gap (10 * l.length)
          (if own then [] else frameLevels l) a)).idleCount := by
        simp only [Config.frameEndIdle]
        omega
      rw [nonempty, decide_eq_true enough]
      rfl
    · rw [bitTimes_add, gone]
      exact ended.octets
  · rw [(bitTime_of_deferring deferring).1, level]
    rfl
  · rw [(bitTime_of_deferring deferring).1, level]
    rfl

end Sys2Proof.Machine
end

section
/-! PROOF. What a raised cause and an entry to DWELL show, and the ESTOP input (R141, R165 to R167, R173, R174). -/

namespace Sys2Proof.Machine

theorem State.eq_of_fields {s t : State} (power : t.power = s.power) (time : t.time = s.time) (inputs : t.inputs = s.inputs)
    (loader : t.loader = s.loader) (access : t.access = s.access) (peers : t.peers = s.peers)
    (tracker : t.tracker = s.tracker) (envelope : t.envelope = s.envelope) (ceiling : t.ceiling = s.ceiling)
    (generator : t.generator = s.generator) (seq : t.seq = s.seq) (loop : t.loop = s.loop) (brakes : t.brakes = s.brakes)
    (trips : t.trips = s.trips) (cls : t.cls = s.cls) (port : t.port = s.port) (pending : t.pending = s.pending) :
    t = s := by
  cases s
  cases t
  simp_all

/-! ## The downshift clock after a command (R178) -/

/-- A state with its downshift clock at a value. -/
def State.clocked (c : Option Time) (s : State) : State := { s with cls.clock := c }

@[simp] theorem State.clocked_frame (c : Option Time) (s : State) :
    (s.clocked c).power = s.power ∧ (s.clocked c).time = s.time ∧ (s.clocked c).inputs = s.inputs
      ∧ (s.clocked c).loader = s.loader ∧ (s.clocked c).access = s.access ∧ (s.clocked c).peers = s.peers
      ∧ (s.clocked c).tracker = s.tracker ∧ (s.clocked c).envelope = s.envelope ∧ (s.clocked c).ceiling = s.ceiling
      ∧ (s.clocked c).generator = s.generator ∧ (s.clocked c).seq = s.seq ∧ (s.clocked c).loop = s.loop
      ∧ (s.clocked c).brakes = s.brakes ∧ (s.clocked c).trips = s.trips ∧ (s.clocked c).port = s.port
      ∧ (s.clocked c).pending = s.pending ∧ (s.clocked c).cls = { s.cls with clock := c } :=
  ⟨rfl, rfl, rfl, rfl, rfl, rfl, rfl, rfl, rfl, rfl, rfl, rfl, rfl, rfl, rfl, rfl, rfl⟩

theorem settleSpell_clocked (before s : State) : ∃ c, settleSpell before s = s.clocked c := by
  unfold settleSpell
  split
  · split
    · exact ⟨_, rfl⟩
    · exact ⟨_, rfl⟩
  · split
    · exact ⟨_, rfl⟩
    · exact ⟨s.cls.clock, rfl⟩

/-- A command that a block takes changes what the block changes, and the downshift clock (R178). -/
theorem act_clocked {s : State} (f : State → State) (live : held s = false) : ∃ c, act f s = .next ((f s).clocked c) := by
  obtain ⟨c, clocked⟩ := settleSpell_clocked s (f s)
  exact ⟨c, by rw [act_of_not_held f live, clocked]⟩

/-! ## A raised cause (R165, R166, R174) -/

theorem tripRecord_eq (c : Cause) (s : State) : tripRecord s c false none s.seq.state = firstRecord c none s := rfl

theorem tripRecord_secondary_eq (c : Cause) (s : State) :
    tripRecord s c true none s.seq.state = { firstRecord c none s with secondary := true, ceiling := 0, vperm := 0 } := rfl

theorem standsTripped_enterState (s : State) : standsTripped (enterState .tripped s) = true := by
  have rests : (NodeState.tripped ≠ .armed ∧ NodeState.tripped ≠ .running ∧ NodeState.tripped ≠ .stopping) := by simp
  have still : (enterState .tripped s).tracker.stillRef = none := by
    rw [enterState_tracker_eq]
    rfl
  simp [standsTripped, inState, enterState_brakes_of_rest s rests, enterState_ceiling_of_rest, enterState_generator,
    enterState_seq_of_not_dwell, enterSequencer, enterState_cls, ClassUnit.entered_cls, still]

/-- The state from which a cause is raised stands, in everything that the record and the Trip Unit read, as another. -/
structure SameTrips (s u : State) : Prop where
  record : ∀ c, firstRecord c none u = firstRecord c none s
  history : u.trips.history = s.trips.history
  own : u.trips.own = s.trips.own
  primary : u.trips.primary = s.trips.primary
  origin : u.trips.origin = s.trips.origin

theorem SameTrips.refl (s : State) : SameTrips s s := ⟨fun _ => rfl, rfl, rfl, rfl, rfl⟩

theorem SameTrips.state {s u : State} (same : SameTrips s u) : u.seq.state = s.seq.state :=
  congrArg TripRecord.state (same.record .stopInput)

theorem SameTrips.serial {s u : State} (same : SameTrips s u) : u.trips.nextSerial = s.trips.nextSerial :=
  congrArg TripRecord.serial (same.record .stopInput)

/-- What the record shows is the owners' (R174). -/
theorem SameTrips.of_blocks {s u : State} (trips : u.trips.history = s.trips.history ∧ u.trips.own = s.trips.own
      ∧ u.trips.primary = s.trips.primary ∧ u.trips.origin = s.trips.origin ∧ u.trips.nextSerial = s.trips.nextSerial)
    (time : u.time = s.time) (seq : u.seq = s.seq) (loader : u.loader = s.loader) (tracker : u.tracker = s.tracker)
    (ceiling : u.ceiling.line = s.ceiling.line) (vperm : u.envelope.vperm = s.envelope.vperm) : SameTrips s u := by
  obtain ⟨history, own, primary, origin, serial⟩ := trips
  refine ⟨fun c => ?_, history, own, primary, origin⟩
  simp [firstRecord, shownPosition, shownQuality, shownSpeed, shownMotion, reported, positionCm, cpm,
    hasEncoder, isDrive, isCar, role, inState, time, seq, loader, tracker, ceiling, vperm, serial]

theorem appended_appendRecord {s u v : State} {r : TripRecord} (same : SameTrips s u)
    (trips : v.trips.history = (appendRecord r u).trips.history ∧ v.trips.nextSerial = (appendRecord r u).trips.nextSerial) :
    appended r s v = true := by
  obtain ⟨history, serial⟩ := trips
  simp [appended, keptRecords, history, serial, appendRecord, same.history, same.serial, nextSerialAfter,
    Config.tripRecords]

@[simp] theorem causeRecorded_fields (c : Cause) (b : Bool) (s : State) :
    (causeRecorded c b s).trips.own = addCause c s.trips.own
      ∧ (causeRecorded c b s).trips.primary = (if b then s.trips.primary else some c)
      ∧ (causeRecorded c b s).trips.origin = s.trips.origin ∧ (causeRecorded c b s).seq = s.seq
      ∧ (causeRecorded c b s).trips.estop = s.trips.estop :=
  ⟨rfl, rfl, rfl, rfl, rfl⟩

theorem causeTaken_raiseCause {c : Cause} {s u : State} (service : inService s = true) (same : SameTrips s u) :
    causeTaken c s (raiseCause c u) = true := by
  have serviceOf : inService u = true := by
    rw [inService_iff] at service ⊢
    rwa [same.state]
  unfold causeTaken
  by_cases tripped : s.seq.state = .tripped
  · have trippedOf : u.seq.state = .tripped := same.state.trans tripped
    have record : appended { firstRecord c none s with secondary := true, ceiling := 0, vperm := 0 } s
        (causeRecorded c true u) = true := by
      rw [← same.record c, ← tripRecord_secondary_eq]
      exact appended_appendRecord same ⟨rfl, rfl⟩
    rw [if_pos (by simp [inState, tripped]), raiseCause_of_tripped trippedOf]
    simp only [joinsTrip, record]
    simp [inState, trippedOf, same.own, same.primary, same.origin]
  · have otherOf : u.seq.state ≠ .tripped := fun trippedOf => tripped (same.state.symm.trans trippedOf)
    have record : appended (firstRecord c none s) s (enterState .tripped (causeRecorded c false u)) = true := by
      rw [← same.record c, ← tripRecord_eq]
      exact appended_appendRecord same ⟨by simp [causeRecorded], by simp [causeRecorded]⟩
    rw [if_neg (by simp [inState, tripped]), raiseCause_of_trips serviceOf otherOf]
    simp only [tripsOn, record, standsTripped_enterState]
    simp [same.own, same.origin]

/-! ## An entry to DWELL at a CAR (R141) -/

theorem stopHere_eq_head (p : Profile) (s : State) : stopHere s p = (stopsNear p s).head? := by
  simp [stopHere, stopNear, stopsNear, List.head?_filter]

theorem stopHere_isSome (p : Profile) (s : State) : (stopHere s p).isSome = !(stopsNear p s).isEmpty := by
  rw [stopHere_eq_head]
  cases stopsNear p s <;> rfl

theorem atStop_eq (p : Profile) (s : State) : atStop s p = !awayFromStops p s := by
  simp [atStop, awayFromStops, stopHere_isSome]

theorem misalignedAt_armed (p : Profile) (s : State) : misalignedAt .armed p s = awayFromStops p s := by
  simp [misalignedAt, atStop_eq]

theorem misalignedAt_stopping (p : Profile) (s : State) : misalignedAt .stopping p s = stoppedWide p s := by
  unfold misalignedAt stoppedWide
  cases ownDistance s <;> rfl

/-- What the door's judgement reads of the blocks other than the Run Sequencer (R141). -/
theorem doorJudged_congr {m : Bool} {p : Profile} {s t : State} (loader : t.loader = s.loader) (peers : t.peers = s.peers)
    (seq : t.seq = s.seq) (counts : isCar s = true → t.tracker.counts = s.tracker.counts) :
    doorJudged m p t = doorJudged m p s := by
  have carOf : isCar t = isCar s := isCar_congr loader
  cases car : isCar s with
  | false => simp [doorJudged, carOf, car]
  | true =>
    have near : stopsNear p t = stopsNear p s := by
      simp [stopsNear, ownStops, reported, positionCm, cpm, isDrive, isCar, role, side, loader, counts car]
    have loop : loopShowsOccupied t = loopShowsOccupied s := by
      simp [loopShowsOccupied, loopEntry, side, loader, peers]
    simp [doorJudged, carOf, car, near, loop, seq, inState]

/-- The release at a car that is not misaligned follows the stops within W_stop (R141). -/
theorem doorReleased_of_stops (stops : List Stop) (shown : Bool) :
    (if stops.isEmpty then !(stops.head?.any fun t => t.loopFlag != 1 || shown)
      else if stops.all (fun k => k.loopFlag != 1) then stops.head?.any fun t => t.loopFlag != 1 || shown
      else !stops.all (fun k => k.loopFlag == 1) || (stops.head?.any fun t => t.loopFlag != 1 || shown) == shown) = true := by
  cases stops with
  | nil => rfl
  | cons k l =>
    by_cases loopStop : k.loopFlag = 1
    · simp [loopStop]
    · simp [loopStop]

/-- A CAR that enters DWELL is MISALIGNED as the state it leaves tells, and its door is released by the stops within W_stop
and the LOOP's record (R141). -/
theorem doorJudged_enterState {m : Bool} {p : Profile} {s : State} (n : NodeState) (loaded : s.loader.profile = some p)
    (judged : isCar s = true → n = .dwell → misalignedAt s.seq.state p s = m) : doorJudged m p (enterState n s) = true := by
  by_cases enters : isCar s = true ∧ n = .dwell
  · obtain ⟨car, rfl⟩ := enters
    have misaligned := judged car rfl
    have counts : (enterState .dwell s).tracker.counts = s.tracker.counts := by
      have notDrive : isDrive s = false := by
        simp only [isCar, role, beq_iff_eq] at car
        simp [isDrive, role, car]
      obtain ⟨r, same⟩ := enterState_tracker_of_no_reference (n := .dwell) (.inl notDrive)
      rw [same]
    have near : stopsNear p (enterState .dwell s) = stopsNear p s := by
      simp [stopsNear, ownStops, reported, positionCm, cpm, isDrive, isCar, role, side, counts]
    have loop : loopShowsOccupied (enterState .dwell s) = loopShowsOccupied s := by
      simp [loopShowsOccupied, loopEntry, side]
    have follows := doorReleased_of_stops (stopsNear p s) (loopShowsOccupied s)
    have carOf : isCar (enterState .dwell s) = true := (isCar_congr (by simp)).trans car
    unfold doorJudged
    rw [carOf, near, loop, enterState_seq_dwell, car, loaded]
    simp only [Option.any_some, doorOpensAt, misaligned, stopHere_eq_head, Bool.true_and]
    cases m with
    | true => simp
    | false => simpa only [inState, enterState_state, beq_self_eq_true, Bool.and_self, Bool.not_true, Bool.false_or,
        Bool.not_false, Bool.true_and] using follows
  · have away : (isCar (enterState n s) && inState (enterState n s) .dwell) = false := by
      have carOf : isCar (enterState n s) = isCar s := isCar_congr (by simp)
      simp only [carOf, inState, enterState_state]
      simpa [not_and] using enters
    simp [doorJudged, away]

/-! ## ESTOP (R167) -/

/-- A cause raised moves nothing of the tracker but the still-entry reference (R35). -/
theorem raiseCause_tracker (c : Cause) (s : State) : ∃ r, (raiseCause c s).tracker = { s.tracker with stillRef := r } := by
  by_cases service : inService s = true
  · by_cases tripped : s.seq.state = .tripped
    · rw [raiseCause_of_tripped tripped]
      exact ⟨_, rfl⟩
    · rw [raiseCause_of_trips service tripped]
      exact enterState_tracker_of_no_reference (.inr (.inl (by simp)))
  · rw [raiseCause_of_not_inService (by simpa using service)]
    exact ⟨_, rfl⟩

theorem raiseCause_estop (c : Cause) (s : State) : (raiseCause c s).trips.estop = s.trips.estop := by
  by_cases service : inService s = true
  · by_cases tripped : s.seq.state = .tripped
    · rw [raiseCause_of_tripped tripped]
      rfl
    · rw [raiseCause_of_trips service tripped]
      simp
  · rw [raiseCause_of_not_inService (by simpa using service)]

theorem assertEstop_of_asserted {s : State} (asserted : s.inputs.pins.estop = true) (fresh : s.trips.estop = false)
    (begun : s.seq.state ≠ .starting) :
    assertEstop s = raiseCause .stopInput (wakeEvent { s with trips.estop := true }) := by
  simp [assertEstop, asserted, fresh, inState, begun]

/-- Settles O24: the cause is raised in the state that the wake event leaves. -/
theorem estopTrips : Obligations.EstopTrips := by
  intro s live asserted fresh begun
  obtain ⟨c, taken⟩ := act_clocked assertEstop live
  rw [assertEstop_of_asserted asserted fresh begun] at taken
  refine ⟨_, taken, ?_, ?_, ?_⟩
  · obtain ⟨r, tracker⟩ := raiseCause_tracker .stopInput (wakeEvent { s with trips.estop := true })
    apply State.eq_of_fields <;> simp [State.clocked, tracker]
  · simp [State.clocked, raiseCause_estop]
  · by_cases faulted : s.seq.state = .faulted
    · rw [if_pos faulted]
      have off : inService (wakeEvent { s with trips.estop := true }) = false := by
        simp [inService, inState, faulted]
      rw [raiseCause_of_not_inService off]
      simp [State.clocked]
    · rw [if_neg faulted]
      refine causeTaken_raiseCause ((inService_iff s).mpr ⟨begun, faulted⟩) (.of_blocks ?_ ?_ ?_ ?_ ?_ ?_ ?_)
      all_goals simp

end Sys2Proof.Machine
end

section
/-! PROOF. The Brake Controller's checks and completions (R113, R134, R135, R159 to R162). -/

namespace Sys2Proof.Machine

/-! ## Units after a drop (R161) -/

@[simp] theorem brakeUnit_dropped (now : Time) (k : Brakes) (b : BrakeId) :
    brakeUnit (k.dropped now) b = dropUnit now (brakeUnit k b) := by
  cases b <;> rfl

theorem dropUnit_of_applied {now : Time} {u : BrakeUnit} (applied : u.state = .applied) :
    dropUnit now u = { u with liftTime := none } := by
  simp [dropUnit, applied]

theorem dropUnit_of_not_applied {now : Time} {u : BrakeUnit} (moves : u.state ≠ .applied) :
    dropUnit now u =
      { u with state := .applied, liftTime := none, dropTime := now, holdLatch := false, appliedSince := none } := by
  simp [dropUnit, moves]

/-- A cause raised drops every unit, but in TRIPPED (R165, R166). -/
theorem raiseCause_brakes {c : Cause} {s : State} (service : inService s = true) :
    (raiseCause c s).brakes = if s.seq.state = .tripped then s.brakes else s.brakes.dropped s.time.now := by
  by_cases tripped : s.seq.state = .tripped
  · rw [raiseCause_of_tripped tripped, if_pos tripped]
    rfl
  · rw [raiseCause_of_trips service tripped, if_neg tripped, enterState_brakes_of_rest _ (by simp)]
    rfl

/-! ## The feedback checks (R162) -/

theorem act_of_same {f : State → State} {s : State} (live : held s = false) (same : f s = s) : act f s = .next s := by
  rw [act_of_not_held f live, same, settleSpell_of_quietSpell_eq rfl]

theorem checkedUnit_iff (b : BrakeId) (s : State) :
    checkedUnit b s = true ↔ fitted s b = true ∧ inService s = true ∧ inFeedbackMode (brakeUnit s.brakes b) = true := by
  simp [checkedUnit, fitted, inFeedbackMode, and_assoc]

theorem holdFails_iff {b : BrakeId} {s : State} (checked : checkedUnit b s = true) :
    holdFails s b = true ↔ (brakeUnit s.brakes b).state = .lifted ∧ (brakeUnit s.brakes b).holdLatch = false
      ∧ (brakeUnit s.brakes b).appliedSince.any (fun v => decide (100 < (s.time.now - v).toNat)) = true := by
  obtain ⟨fit, service, mode⟩ := (checkedUnit_iff b s).mp checked
  simp only [holdFails, fit, service, mode, Bool.true_and, Bool.and_eq_true, beq_iff_eq, Bool.not_eq_eq_eq_not,
    Bool.not_true, and_assoc]
  rfl

theorem releaseFails_iff {b : BrakeId} {s : State} (checked : checkedUnit b s = true) :
    releaseFails s b = true ↔ (brakeUnit s.brakes b).state = .applied ∧ (brakeUnit s.brakes b).releaseLatch = false
      ∧ feedbackPin s.inputs.pins b = true ∧ 1000 < (s.time.now - (brakeUnit s.brakes b).dropTime).toNat := by
  obtain ⟨fit, service, mode⟩ := (checkedUnit_iff b s).mp checked
  simp only [releaseFails, fit, service, mode, Bool.true_and, Bool.and_eq_true, beq_iff_eq, Bool.not_eq_eq_eq_not,
    Bool.not_true, and_assoc, decide_eq_true_eq]
  rfl

/-- BRAKE_FAULT is raised from the state in which a check's latch has been set. -/
theorem causeTaken_of_latch (b : BrakeId) (u : BrakeUnit) {s : State} (service : inService s = true) :
    causeTaken .brakeFault s (raiseCause .brakeFault (setUnit b u s)) = true := by
  refine causeTaken_raiseCause service (.of_blocks ?_ ?_ ?_ ?_ ?_ ?_ ?_)
  all_goals simp

theorem latched_brakes {b : BrakeId} {u : BrakeUnit} {s : State} (service : inService s = true) :
    brakeUnit (raiseCause .brakeFault (setUnit b u s)).brakes b =
      if s.seq.state = .tripped then u else dropUnit s.time.now u := by
  have serviceOf : inService (setUnit b u s) = true := (inService_congr (by simp)).trans service
  rw [raiseCause_brakes serviceOf]
  simp only [setUnit_frame, setUnit_brakes]
  split <;> simp

/-- Settles O31: what makes each check fail, and the trip that drops the unit. -/
theorem feedbackChecksRaiseBrakeFault : Obligations.FeedbackChecksRaiseBrakeFault := by
  intro b u s live checked
  obtain ⟨-, service, -⟩ := (checkedUnit_iff b s).mp checked
  refine ⟨fun lifted clear since late => ?_, fun applied clear shows late => ?_, fun passes => ?_, fun passes => ?_⟩
  · have fails : holdFails s b = true :=
      (holdFails_iff checked).mpr ⟨lifted, clear, by rw [since]; exact decide_eq_true late⟩
    obtain ⟨c, taken⟩ := act_clocked (holdCheck b) live
    rw [holdCheck, if_pos fails] at taken
    refine ⟨_, taken, causeTaken_of_latch b _ service, ?_, by simp [State.clocked], by simp [State.clocked],
      by simp [State.clocked], by simp [State.clocked], by simp [State.clocked], by simp [State.clocked]⟩
    have unit := latched_brakes (b := b) (u := { brakeUnit s.brakes b with holdLatch := true }) service
    by_cases tripped : s.seq.state = .tripped
    · rw [if_pos tripped] at unit ⊢
      exact unit
    · rw [if_neg tripped, dropUnit_of_not_applied (by simp [lifted])] at unit
      rw [if_neg tripped]
      exact ⟨congrArg BrakeUnit.state unit, congrArg BrakeUnit.holdLatch unit, congrArg BrakeUnit.dropTime unit⟩
  · have fails : releaseFails s b = true := (releaseFails_iff checked).mpr ⟨applied, clear, shows, late⟩
    obtain ⟨c, taken⟩ := act_clocked (releaseCheck b) live
    rw [releaseCheck, if_pos fails] at taken
    have unit := latched_brakes (b := b) (u := { brakeUnit s.brakes b with releaseLatch := true }) service
    rw [dropUnit_of_applied (by exact applied)] at unit
    refine ⟨_, taken, causeTaken_of_latch b _ service, ?_, ?_, by simp [State.clocked], by simp [State.clocked],
      by simp [State.clocked], by simp [State.clocked], by simp [State.clocked], by simp [State.clocked]⟩
    · refine (congrArg BrakeUnit.releaseLatch unit).trans ?_
      split <;> rfl
    · refine (congrArg BrakeUnit.dropTime unit).trans ?_
      split <;> rfl
  · have clear : holdFails s b ≠ true := fun fails => by
      obtain ⟨lifted, latch, late⟩ := (holdFails_iff checked).mp fails
      cases since : (brakeUnit s.brakes b).appliedSince with
      | none => simp [since] at late
      | some v =>
        rw [since] at late passes
        have beyond : 100 < (s.time.now - v).toNat := of_decide_eq_true late
        rcases passes with set | moved | early
        · simp [set] at latch
        · exact moved lifted
        · have within : (s.time.now - v).toNat ≤ 100 := of_decide_eq_true early
          omega
    exact act_of_same live (by rw [holdCheck, if_neg clear])
  · have clear : releaseFails s b ≠ true := fun fails => by
      obtain ⟨applied, latch, shows, late⟩ := (releaseFails_iff checked).mp fails
      rcases passes with set | moved | silent | early
      · simp [set] at latch
      · exact moved applied
      · simp [silent] at shows
      · omega
    exact act_of_same live (by rw [releaseCheck, if_neg clear])

/-! ## The line start (R134, R135) -/

/-- The Run Sequencer judges the line start at a DRIVE in ARMED with CONSENT only. -/
theorem judgeLineStart_of_other {s : State} (other : isDrive s = false ∨ s.seq.state ≠ .armed ∨ s.seq.consent = false) :
    judgeLineStart s = s := by
  have shut : (isDrive s && inState s .armed && s.seq.consent) = false := by
    rcases other with h | h | h <;> simp [inState, h]
  simp [judgeLineStart, shut]

theorem judgeLineStart_of_begun {s : State} (begun : s.seq.stage ≠ .idle) (holds : lineStartHolds s = true) :
    judgeLineStart s = s := by
  simp [judgeLineStart, begun, holds]

/-- A line start whose condition is lost is aborted (R135). -/
theorem judgeLineStart_of_lost {s : State} (drive : isDrive s = true) (armed : s.seq.state = .armed)
    (consent : s.seq.consent = true) (begun : s.seq.stage ≠ .idle) (lost : lineStartHolds s = false) :
    judgeLineStart s =
      { s with
        seq.stage := .idle
        brakes := (s.brakes.put .eb (dropUnit s.time.now s.brakes.eb)).put .sb (dropUnit s.time.now s.brakes.sb) } := by
  have judged : (isDrive s && inState s .armed && s.seq.consent) = true := by simp [drive, inState, armed, consent]
  rw [judgeLineStart, if_pos judged, if_neg (by simpa using begun), if_neg (by simp [lost])]
  rfl

theorem lineStartHolds_congr {s t : State} (seq : t.seq = s.seq) (peers : t.peers = s.peers) :
    lineStartHolds t = lineStartHolds s := by
  have shown : consentsWith t = consentsWith s := by
    funext r
    rw [consentsWith, consentsWith, seq]
  simp [lineStartHolds, fullyFresh, carEntry, shown, peers]

/-! ## A completed lift (R134, R160) -/

/-- A unit after its lift. -/
def BrakeUnit.raised (u : BrakeUnit) : BrakeUnit := { u with state := .lifted, appliedSince := none }

theorem exec_of_liftDue {c : Instr} {b : BrakeId} {s : State} (due : liftDue c b s = true) :
    ∃ f, exec c s = act f s ∧ f s = stageLifted b (setUnit b (brakeUnit s.brakes b).raised s) := by
  simp only [liftDue, Bool.and_eq_true, Bool.or_eq_true, beq_iff_eq] at due
  obtain ⟨⟨fit, lifting⟩, ⟨⟨rfl, mode⟩, shows⟩ | ⟨rfl, passed⟩⟩ := due
  · refine ⟨liftByFeedback b, rfl, ?_⟩
    simp [liftByFeedback, fitted, fit, inFeedbackMode, mode, lifting, showsLifted, shows, becomeLifted, BrakeUnit.raised]
  · refine ⟨liftByTime b, rfl, ?_⟩
    simp [liftByTime, fitted, fit, lifting, passed, becomeLifted, BrakeUnit.raised]

/-- A unit that becomes LIFTED moves nothing else but at a DRIVE in ARMED. -/
theorem stageLifted_of_other {s : State} (b : BrakeId) (other : isDrive s = false ∨ s.seq.state ≠ .armed) :
    stageLifted b s = s := by
  have same : judgeLineStart s = s := judgeLineStart_of_other (other.imp_right .inl)
  have shut : ¬ (isDrive s && inState s .armed) = true := by
    rcases other with h | h <;> simp [inState, h]
  unfold stageLifted
  rw [same]
  exact if_neg shut

section

variable {s : State} (drive : isDrive s = true) (armed : s.seq.state = .armed) (consent : s.seq.consent = true)

include drive armed

/-- EB lifted lets SB lift (R134). -/
theorem stageLifted_eb (stage : s.seq.stage = .eb) (holds : lineStartHolds s = true) :
    stageLifted .eb s =
      { s with
        seq.stage := .sb
        brakes := s.brakes.put .sb (liftUnit s.time.now s.brakes.sb) } := by
  have fit : hasBrake (role s) .sb = true := by
    simp only [isDrive, beq_iff_eq] at drive
    rw [drive]
    rfl
  have judged : (isDrive s && inState s .armed) = true := by simp [drive, inState, armed]
  have lifts : ((inState s .armed || inState s .running) && hasBrake (role s) .sb) = true := by
    simp [inState, armed, fit]
  have same : judgeLineStart s = s := judgeLineStart_of_begun (by simp [stage]) holds
  unfold stageLifted
  rw [same]
  refine (if_pos judged).trans ?_
  rw [stage]
  simp only [liftBrake, lifts, if_true]
  rfl

/-- SB lifted starts the run (R134). -/
theorem stageLifted_sb (stage : s.seq.stage = .sb) (holds : lineStartHolds s = true) :
    stageLifted .sb s = enterState .running s := by
  have judged : (isDrive s && inState s .armed) = true := by simp [drive, inState, armed]
  have same : judgeLineStart s = s := judgeLineStart_of_begun (by simp [stage]) holds
  unfold stageLifted
  rw [same]
  refine (if_pos judged).trans ?_
  rw [stage]

include consent

theorem stageLifted_of_lost (b : BrakeId) (begun : s.seq.stage ≠ .idle) (lost : lineStartHolds s = false) :
    stageLifted b s = judgeLineStart s := by
  have idle : (judgeLineStart s).seq.stage = .idle := by
    rw [judgeLineStart_of_lost drive armed consent begun lost]
  unfold stageLifted
  dsimp only
  rw [idle]
  exact ite_self _

end

theorem enterState_run (n : NodeState) (s : State) : (enterState n s).seq.run = s.seq.run := by
  by_cases dwell : n = .dwell
  · rw [dwell, enterState_seq_dwell]
    rfl
  · rw [enterState_seq_of_not_dwell s dwell]
    cases n <;> rfl

theorem role_of_isCar {s : State} (car : isCar s = true) : role s = .car := by simpa [isCar] using car

/-- Settles O29: where the start goes on, where it is aborted, and elsewhere the unit alone. -/
theorem liftCompletes : Obligations.LiftCompletes := by
  intro c b s live due
  obtain ⟨f, executes, result⟩ := exec_of_liftDue due
  obtain ⟨k, taken⟩ := act_clocked f live
  rw [result] at taken
  have fit : hasBrake (role s) b = true := by
    simp only [liftDue, Bool.and_eq_true] at due
    exact due.1.1
  have holdsOf := lineStartHolds_congr (s := s) (t := setUnit b (brakeUnit s.brakes b).raised s) (by simp) (by simp)
  have driveOf := isDrive_congr (s := s) (t := setUnit b (brakeUnit s.brakes b).raised s) (by simp)
  refine ⟨_, executes.trans taken, fun car => ?_, fun other => ?_, fun drive armed consent holds => ⟨?_, ?_⟩,
    fun drive armed consent begun lost => ?_, by simp [State.clocked], by simp [State.clocked], by simp [State.clocked],
    by simp [State.clocked], by simp [State.clocked], by simp [State.clocked], by simp [State.clocked],
    by simp [State.clocked]⟩
  · have own : b = .tb := by
      rw [role_of_isCar car] at fit
      cases b <;> simp_all [hasBrake]
    rw [stageLifted_of_other b (.inl (driveOf.trans (isDrive_of_isCar car))), own]
    exact ⟨rfl, rfl, rfl, rfl, by simpa [brakesLifted, State.clocked, setUnit, BrakeUnit.raised, isCar, role] using car⟩
  · rw [stageLifted_of_other b (.inr (by simpa using other))]
    simp [State.clocked, BrakeUnit.raised]
  · rintro rfl stage
    rw [stageLifted_eb (driveOf.trans drive) (by simpa using armed) (by simpa using stage) (holdsOf.trans holds)]
    refine ⟨by simp [State.clocked], rfl, fun applied sound => ?_⟩
    simp [State.clocked, Brakes.put, setUnit, liftUnit, applied, sound]
  · rintro rfl stage
    rw [stageLifted_sb (driveOf.trans drive) (by simpa using armed) (by simpa using stage) (holdsOf.trans holds)]
    simp [State.clocked, enterState_brakes_running, enterState_seq_of_not_dwell, enterSequencer, Brakes.put, BrakeUnit.raised]
  · rw [stageLifted_of_lost (driveOf.trans drive) (by simpa using armed) (by simpa using consent) b (by simpa using begun)
        (holdsOf.trans lost),
      judgeLineStart_of_lost (driveOf.trans drive) (by simpa using armed) (by simpa using consent) (by simpa using begun)
        (holdsOf.trans lost)]
    simp [State.clocked, Brakes.put]

/-! ## A lift that times out (R113, R160) -/

/-- A unit that is APPLIED with LIFT_FAIL, which no command moves (R159, R161). -/
def BrakeUnit.failed (u : BrakeUnit) : Prop := u.state = .applied ∧ u.liftTime = none ∧ u.liftFail = true

theorem dropUnit_of_failed {now : Time} {u : BrakeUnit} (failed : u.failed) : dropUnit now u = u := by
  obtain ⟨applied, still, -⟩ := failed
  rw [dropUnit_of_applied applied, ← still]

theorem liftUnit_of_failed {now : Time} {u : BrakeUnit} (failed : u.failed) : liftUnit now u = u := by
  simp [liftUnit, failed.2.2]

section

variable {b : BrakeId} {s : State} (failed : (brakeUnit s.brakes b).failed)

include failed

theorem dropBrake_unit_of_failed (x : BrakeId) :
    brakeUnit (dropBrake x s).brakes b = brakeUnit s.brakes b := by
  rw [dropBrake_brakes, brakeUnit_put]
  split
  · next same => rw [← same, dropUnit_of_failed failed]
  · rfl

theorem liftBrake_unit_of_failed (x : BrakeId) :
    brakeUnit (liftBrake x s).brakes b = brakeUnit s.brakes b := by
  rw [liftBrake_brakes]
  split
  · rw [brakeUnit_put]
    split
    · next same => rw [← same, liftUnit_of_failed failed]
    · rfl
  · rfl

theorem enterBrakes_unit_of_failed (n : NodeState) : brakeUnit (enterBrakes n s).brakes b = brakeUnit s.brakes b := by
  have dropped : brakeUnit (dropAll s).brakes b = brakeUnit s.brakes b := by
    rw [dropAll_brakes, brakeUnit_dropped, dropUnit_of_failed failed]
  cases n with
  | armed =>
    simp only [enterBrakes]
    split
    · exact liftBrake_unit_of_failed failed .tb
    · rfl
  | running => rfl
  | stopping =>
    simp only [enterBrakes]
    split
    · exact dropBrake_unit_of_failed failed .sb
    · rfl
  | starting => exact dropped
  | dwell => exact dropped
  | hold => exact dropped
  | night => exact dropped
  | tripped => exact dropped
  | faulted => exact dropped

theorem enterState_unit_of_failed (n : NodeState) : brakeUnit (enterState n s).brakes b = brakeUnit s.brakes b := by
  have moved : (enterState n s).brakes = (enterBrakes n (enterEnvelope n (enterSequencer n s))).brakes := by
    simp [enterState, apply_ite State.brakes]
  have same : (enterEnvelope n (enterSequencer n s)).brakes = s.brakes := by simp [enterEnvelope]
  rw [moved, enterBrakes_unit_of_failed (by rwa [same]), same]

theorem judgeConsent_unit_of_failed : brakeUnit (judgeConsent s).brakes b = brakeUnit s.brakes b := by
  unfold judgeConsent
  split
  · exact enterState_unit_of_failed failed _
  · rfl

theorem judgeLineStart_unit_of_failed : brakeUnit (judgeLineStart s).brakes b = brakeUnit s.brakes b := by
  have aborted : brakeUnit (dropBrake .sb (dropBrake .eb s)).brakes b = brakeUnit s.brakes b := by
    have first := dropBrake_unit_of_failed failed .eb
    rw [dropBrake_unit_of_failed (by rwa [first]), first]
  unfold judgeLineStart
  split
  · split
    · split
      · exact liftBrake_unit_of_failed failed .eb
      · rfl
    · split
      · rfl
      · exact aborted
  · rfl

theorem driveDwell_unit_of_failed : brakeUnit (driveDwell s).brakes b = brakeUnit s.brakes b := by
  unfold driveDwell
  split
  · exact enterState_unit_of_failed failed _
  · rfl

end

/-! The Run Sequencer's judgements outside their states. -/

theorem judgeConsent_of_not_armed {s : State} (other : s.seq.state ≠ .armed) : judgeConsent s = s := by
  simp [judgeConsent, inState, other]

theorem judgeConsent_of_lost {s : State} (armed : s.seq.state = .armed)
    (lost : consents s s.seq.leg s.seq.recovery = false) : judgeConsent s = leaveArmed s := by
  simp [judgeConsent, inState, armed, lost]

theorem driveDwell_of_other {s : State} (other : s.seq.state ≠ .stopping) : driveDwell s = s := by
  simp [driveDwell, inState, other]

theorem judgeConsent_run (s : State) : (judgeConsent s).seq.run = s.seq.run := by
  unfold judgeConsent
  split
  · exact enterState_run _ s
  · rfl

theorem judgeLineStart_run (s : State) : (judgeLineStart s).seq.run = s.seq.run := by
  unfold judgeLineStart
  (repeat' split) <;> simp

theorem driveDwell_run (s : State) : (driveDwell s).seq.run = s.seq.run := by
  unfold driveDwell
  split
  · exact enterState_run _ s
  · rfl

/-- A unit of the node's role with LIFT_FAIL withdraws the consent conditions (R127). -/
theorem consents_of_liftFail {b : BrakeId} {s : State} (fit : fitted s b = true)
    (failed : (brakeUnit s.brakes b).liftFail = true) (leg : Option (Fin 5)) (recovery : Bool) :
    consents s leg recovery = false := by
  unfold fitted at fit
  have refuses : ∀ p, roleConsents s p leg recovery = false := by
    intro p
    unfold roleConsents
    cases strapped : role s with
    | drive =>
      rw [strapped] at fit
      cases b with
      | eb => simp [show s.brakes.eb.liftFail = true from failed]
      | sb => simp [show s.brakes.sb.liftFail = true from failed]
      | tb => simp [hasBrake] at fit
    | car =>
      rw [strapped] at fit
      cases b with
      | eb => simp [hasBrake] at fit
      | sb => simp [hasBrake] at fit
      | tb => simp [show s.brakes.tb.liftFail = true from failed]
    | loop => simp [strapped, hasBrake] at fit
    | terminal => simp [strapped, hasBrake] at fit
  simp [consents, refuses]

/-- The state after a lift has timed out, before the Run Sequencer judges it. -/
def liftFailed (b : BrakeId) (s : State) : State :=
  barRelift b (setUnit b (timedOut s.time.now (brakeUnit s.brakes b)) s)

theorem liftFailed_eq (b : BrakeId) (s : State) :
    liftFailed b s =
      { s with
        brakes := s.brakes.put b (timedOut s.time.now (brakeUnit s.brakes b))
        ceiling := if b = .sb ∧ s.seq.state = .running then { s.ceiling with intervention := true, barred := true }
          else s.ceiling } := by
  unfold liftFailed barRelift
  cases b <;> by_cases running : s.seq.state = .running <;> simp [inState, running, setUnit, Brakes.put]

theorem timeOutLift_of_overdue {b : BrakeId} {s : State} (overdue : liftOverdue s b = true) :
    timeOutLift b s = driveDwell (judgeLineStart (judgeConsent (liftFailed b s))) := by
  simp [timeOutLift, overdue, liftFailed]

section

variable {b : BrakeId} {s : State}

theorem liftFailed_seq : (liftFailed b s).seq = s.seq := by rw [liftFailed_eq]

theorem liftFailed_unit : brakeUnit (liftFailed b s).brakes b = timedOut s.time.now (brakeUnit s.brakes b) := by
  rw [liftFailed_eq, brakeUnit_put, if_pos rfl]

theorem liftFailed_failed : (brakeUnit (liftFailed b s).brakes b).failed := by
  rw [liftFailed_unit]
  exact ⟨rfl, rfl, rfl⟩

variable (overdue : liftOverdue s b = true)

include overdue

/-- The failed unit is moved by nothing that follows. -/
theorem timeOutLift_unit : brakeUnit (timeOutLift b s).brakes b = timedOut s.time.now (brakeUnit s.brakes b) := by
  have failed := liftFailed_failed (b := b) (s := s)
  have consentUnit := judgeConsent_unit_of_failed failed
  have startUnit := judgeLineStart_unit_of_failed (s := judgeConsent (liftFailed b s)) (by rwa [consentUnit])
  have restUnit := driveDwell_unit_of_failed (s := judgeLineStart (judgeConsent (liftFailed b s)))
    (by rwa [startUnit, consentUnit])
  rw [timeOutLift_of_overdue overdue, restUnit, startUnit, consentUnit, liftFailed_unit]

theorem timeOutLift_of_armed (armed : s.seq.state = .armed)
    (origin : s.seq.origin = some .dwell ∨ s.seq.origin = some .hold) :
    timeOutLift b s = enterState (s.seq.origin.getD .hold) (liftFailed b s) := by
  have fit : fitted (liftFailed b s) b = true := by
    simp only [liftOverdue, Bool.and_eq_true] at overdue
    rw [liftFailed_eq]
    exact overdue.1.1.1.1
  have lost : judgeConsent (liftFailed b s) = leaveArmed (liftFailed b s) :=
    judgeConsent_of_lost (by rw [liftFailed_seq, armed]) (consents_of_liftFail fit liftFailed_failed.2.2 _ _)
  rw [timeOutLift_of_overdue overdue, lost, leaveArmed, liftFailed_seq]
  rcases origin with home | home <;>
    rw [home, judgeLineStart_of_other (.inr (.inl (by simp))), driveDwell_of_other (by simp)]

theorem timeOutLift_of_running (running : s.seq.state = .running) : timeOutLift b s = liftFailed b s := by
  have state : (liftFailed b s).seq.state = .running := by rw [liftFailed_seq, running]
  rw [timeOutLift_of_overdue overdue, judgeConsent_of_not_armed (by simp [state]),
    judgeLineStart_of_other (.inr (.inl (by simp [state]))), driveDwell_of_other (by simp [state])]

theorem timeOutLift_run : (timeOutLift b s).seq.run = s.seq.run := by
  rw [timeOutLift_of_overdue overdue, driveDwell_run, judgeLineStart_run, judgeConsent_run, liftFailed_seq]

end

theorem liftOverdue_of_late {b : BrakeId} {u : Time} {s : State} (checked : checkedUnit b s = true)
    (lifting : (brakeUnit s.brakes b).state = .lifting) (silent : feedbackPin s.inputs.pins b = false)
    (begun : (brakeUnit s.brakes b).liftTime = some u) (late : 2000 ≤ (s.time.now - u).toNat) :
    liftOverdue s b = true := by
  obtain ⟨fit, -, mode⟩ := (checkedUnit_iff b s).mp checked
  simp only [liftOverdue, fit, mode, lifting, showsLifted, silent, begun, Option.any_some, beq_self_eq_true,
    Bool.not_false, Bool.and_self, Bool.true_and]
  exact decide_eq_true late

/-- Settles O30: the failed unit withdraws consent, and in RUNNING a failed SB bars the re-lift. -/
theorem liftTimesOut : Obligations.LiftTimesOut := by
  intro b u s live checked lifting silent begun late
  have overdue := liftOverdue_of_late checked lifting silent begun late
  obtain ⟨k, taken⟩ := act_clocked (timeOutLift b) live
  obtain ⟨power, time, inputs, loader, peers, loop, trips, port, -⟩ := timeOutLift_frame b s
  refine ⟨_, taken, timeOutLift_unit overdue, fun armed origin => ?_, fun running => ?_, power, time, inputs, loader, peers,
    loop, trips, port, timeOutLift_run overdue⟩
  · rw [timeOutLift_of_armed overdue armed origin]
    rcases origin with home | home <;> rw [home] <;>
      exact ⟨by simp [State.clocked], by simp [State.clocked, enterState_brakes_of_rest]⟩
  · rw [timeOutLift_of_running overdue running, liftFailed_eq]
    simp [State.clocked, running]

end Sys2Proof.Machine
end

section
/-! PROOF. The Loop Monitor's edges (R148, R150 to R152). -/

namespace Sys2Proof.Machine

/-! ## Tracks and inputs -/

/-- One track record replaced. -/
def LoopMonitor.withTrack (x : Side) (t : Track) (m : LoopMonitor) : LoopMonitor := match x with
  | .a => { m with trackA := t }
  | .b => { m with trackB := t }

@[simp] theorem track_withTrack (x y : Side) (t : Track) (m : LoopMonitor) :
    track (m.withTrack x t) y = if y = x then t else track m y := by
  cases x <;> cases y <;> rfl

@[simp] theorem detectorInput_withTrack (x : Side) (t : Track) (m : LoopMonitor) (d : Detector) :
    detectorInput (m.withTrack x t) d = detectorInput m d := by
  cases x <;> rfl

@[simp] theorem setTrack_loop (x : Side) (t : Track) (s : State) : (setTrack x t s).loop = s.loop.withTrack x t := by
  unfold setTrack
  cases x <;> simp [apply_ite State.loop, LoopMonitor.withTrack]

@[simp] theorem track_setDetector (d : Detector) (i : DetectorInput) (m : LoopMonitor) (x : Side) :
    track (setDetector d i m) x = track m x := by
  obtain ⟨side, inner⟩ := d
  cases side <;> cases inner <;> cases x <;> rfl

@[simp] theorem detectorInput_setDetector (d : Detector) (i : DetectorInput) (m : LoopMonitor) :
    detectorInput (setDetector d i m) d = i := by
  obtain ⟨side, inner⟩ := d
  cases side <;> cases inner <;> rfl

theorem otherSide_ne (x : Side) : otherSide x ≠ x := by
  cases x <;> simp [otherSide]

/-! ## The cause of an edge -/

/-- A cause raised where there is one. -/
def raisedFor (c : Option Cause) (s : State) : State := c.elim s fun x => raiseCause x s

@[simp] theorem raisedFor_none (s : State) : raisedFor none s = s := rfl

@[simp] theorem raisedFor_some (c : Cause) (s : State) : raisedFor (some c) s = raiseCause c s := rfl

@[simp] theorem raisedFor_loop (c : Option Cause) (s : State) : (raisedFor c s).loop = s.loop := by
  cases c <;> simp

/-- The cause of a rise: what the cars' positions give, or else the sequence (R150, R152). -/
def riseCause (p : Profile) (d : Detector) (s : State) : Option Cause :=
  (judgeRise s p d).or (if riseOutOfSequence (track s.loop d.track) then some .loopSequence else none)

theorem takeRise_eq (p : Profile) (d : Detector) (s : State) :
    takeRise p d s = setTrack d.track (riseTrack s d (track s.loop d.track)) (raisedFor (riseCause p d s) s) := by
  unfold takeRise raisedFor riseCause
  dsimp only
  split
  · next none => rw [none]; rfl
  · next c some => rw [some]; rfl

/-- The cause of a fall: the sequence, where the fall is not the one expected (R151). -/
def fallCause (p : Profile) (d : Detector) (s : State) : Option Cause :=
  (fallTrack p d (loopCarPosition s p d.track) (track s.loop d.track)).elim (some .loopSequence) fun _ => none

theorem takeFall_eq (p : Profile) (d : Detector) (s : State) :
    takeFall p d s =
      setTrack d.track ((fallTrack p d (loopCarPosition s p d.track) (track s.loop d.track)).getD
        (trackFromDetectors s d.track d.atEnd)) (raisedFor (fallCause p d s) s) := by
  unfold takeFall fallCause
  split
  · next t some => rw [some]; rfl
  · next none => rw [none]; rfl

/-- The state in which an edge is judged: the level held, the wake event taken. -/
def edgeHeld (d : Detector) (level : Bool) (s : State) : State := wakeEvent (holdLevel d level s)

section

variable (d : Detector) (level : Bool) (p : Profile) (s : State)

theorem edgeHeld_loop : (edgeHeld d level s).loop = setDetector d { level := level, differing := 0 } s.loop := by
  simp [edgeHeld]

theorem edgeHeld_frame : (edgeHeld d level s).seq = s.seq ∧ (edgeHeld d level s).peers = s.peers
    ∧ (edgeHeld d level s).trips = s.trips ∧ (edgeHeld d level s).loader = s.loader := by
  simp [edgeHeld]

theorem loopCarPosition_edgeHeld (x : Side) : loopCarPosition (edgeHeld d level s) p x = loopCarPosition s p x := by
  simp [loopCarPosition, carEntry, edgeHeld_frame]

theorem riseCause_edgeHeld : riseCause p d (edgeHeld d level s) = riseCause p d s := by
  simp [riseCause, judgeRise, loopCarPosition_edgeHeld, edgeHeld_loop]

theorem fallCause_edgeHeld : fallCause p d (edgeHeld d level s) = fallCause p d s := by
  simp [fallCause, loopCarPosition_edgeHeld, edgeHeld_loop]

end

/-! ## What an edge leaves -/

/-- A track and, with a cause, the trip it brings (R150 to R152, R165). -/
structure EdgeTaken (d : Detector) (level : Bool) (c : Option Cause) (k : Track) (s t : State) : Prop where
  input : detectorInput t.loop d = { level := level, differing := 0 }
  moved : track t.loop d.track = k
  other : track t.loop (otherSide d.track) = track s.loop (otherSide d.track)
  silent : c = none → t.trips = s.trips
  raised : ∀ x, c = some x → t.seq.state = .tripped ∧ t.trips.own = addCause x s.trips.own
    ∧ (t.trips.history.getLast?.map TripRecord.cause) = some x

/-- A cause raised in service is recorded, in TRIPPED (R165, R166). -/
theorem raiseCause_records {c : Cause} {s : State} (service : inService s = true) :
    (raiseCause c s).seq.state = .tripped ∧ (raiseCause c s).trips.own = addCause c s.trips.own
      ∧ ((raiseCause c s).trips.history.getLast?.map TripRecord.cause) = some c := by
  by_cases tripped : s.seq.state = .tripped
  · rw [raiseCause_of_tripped tripped]
    exact ⟨tripped, rfl, by simp [causeRecorded, appendRecord, tripRecord]⟩
  · rw [raiseCause_of_trips service tripped]
    exact ⟨by simp, by simp, by simp [causeRecorded, appendRecord, tripRecord]⟩

theorem edgeTaken_of_setTrack (d : Detector) (level : Bool) (c : Option Cause) (k : Track) {s : State} (z : Option Time)
    (service : inService s = true) :
    EdgeTaken d level c k s ((judgeConsent (setTrack d.track k (raisedFor c (edgeHeld d level s)))).clocked z) := by
  obtain ⟨seq, -, trips, -⟩ := edgeHeld_frame d level s
  have serviceOf : inService (edgeHeld d level s) = true := (inService_congr (by rw [seq])).trans service
  refine ⟨?_, ?_, ?_, ?_, ?_⟩
  · simp [State.clocked, edgeHeld_loop]
  · simp [State.clocked]
  · simp [State.clocked, otherSide_ne, edgeHeld_loop]
  · rintro rfl
    simp [State.clocked, trips]
  · rintro x rfl
    obtain ⟨state, own, cause⟩ := raiseCause_records (c := x) serviceOf
    rw [raisedFor_some, judgeConsent_of_not_armed (by simp [state])]
    exact ⟨by simp [State.clocked, state], by simp [State.clocked, own, trips], by simpa [State.clocked] using cause⟩

theorem riseEdge_of_stands {p : Profile} {d : Detector} {s : State} (loaded : s.loader.profile = some p)
    (stands : edgeStands s d true = true) : riseEdge d s = judgeConsent (takeRise p d (edgeHeld d true s)) := by
  simp [riseEdge, loaded, stands, edgeHeld]

theorem fallEdge_of_stands {p : Profile} {d : Detector} {s : State} (loaded : s.loader.profile = some p)
    (stands : edgeStands s d false = true) : fallEdge d s = judgeConsent (takeFall p d (edgeHeld d false s)) := by
  simp [fallEdge, loaded, stands, edgeHeld]

theorem edgeStands_of_samples {d : Detector} {level : Bool} {s : State} (loop : isLoop s = true) (service : inService s = true)
    (was : (detectorInput s.loop d).level = !level) (shows : detectorPin s.inputs.pins d = level)
    (stood : 3 ≤ (detectorInput s.loop d).differing) : edgeStands s d level = true := by
  simp only [edgeStands, loop, service, was, shows, beq_self_eq_true, Bool.and_self, Bool.true_and]
  exact decide_eq_true stood

theorem trackFromDetectors_unconfirmed (s : State) (x : Side) (e : LoopEnd) :
    (trackFromDetectors s x e).unconfirmed = true := by
  unfold trackFromDetectors
  cases active s x .low <;> cases active s x .up <;> rfl

/-! ## The cause of a rise (R150, R152) -/

section

variable {p : Profile} {d : Detector} {s : State}

theorem riseOutOfSequence_eq (t : Track) : riseOutOfSequence t = decide (t.occ = .entering ∨ t.occ = .leaving) := by
  unfold riseOutOfSequence
  cases t.occ <;> rfl

theorem riseCause_of_wrong_track (away : nearDetector p (usablePosition p (carEntry s d.track)) (detectorAt p d) = false)
    (other : nearDetector p (usablePosition p (carEntry s (otherSide d.track))) (detectorAt p d) = true) :
    riseCause p d s = some .wrongTrack := by
  simp [riseCause, judgeRise, loopCarPosition, away, other]

/-- A rise in its sequence, with the own car near or its position not usable and no other car near. -/
theorem riseCause_of_sequence (order : (track s.loop d.track).occ = .clear ∨ (track s.loop d.track).occ = .occupied)
    (near : nearDetector p (usablePosition p (carEntry s d.track)) (detectorAt p d) = true
      ∨ usablePosition p (carEntry s d.track) = none)
    (own : ¬ (nearDetector p (usablePosition p (carEntry s d.track)) (detectorAt p d) = false
      ∧ nearDetector p (usablePosition p (carEntry s (otherSide d.track))) (detectorAt p d) = true)) :
    riseCause p d s = none := by
  have inOrder : riseOutOfSequence (track s.loop d.track) = false := by
    rw [riseOutOfSequence_eq]
    rcases order with occ | occ <;> simp [occ]
  have silent : judgeRise s p d = none := by
    unfold judgeRise loopCarPosition
    rcases near with near | unknown
    · simp [near]
    · rw [unknown] at own ⊢
      simpa [nearDetector] using own
  simp [riseCause, inOrder, silent]

/-- A rise out of its sequence, or with the own car known to be elsewhere, and not the other car's. -/
theorem riseCause_of_fault (own : ¬ (nearDetector p (usablePosition p (carEntry s d.track)) (detectorAt p d) = false
      ∧ nearDetector p (usablePosition p (carEntry s (otherSide d.track))) (detectorAt p d) = true))
    (fault : ¬ (((track s.loop d.track).occ = .clear ∨ (track s.loop d.track).occ = .occupied)
      ∧ (nearDetector p (usablePosition p (carEntry s d.track)) (detectorAt p d) = true
        ∨ usablePosition p (carEntry s d.track) = none))) : riseCause p d s = some .loopSequence := by
  unfold riseCause judgeRise loopCarPosition
  rw [riseOutOfSequence_eq]
  cases near : nearDetector p (usablePosition p (carEntry s d.track)) (detectorAt p d) with
  | true =>
    cases occ : (track s.loop d.track).occ <;> simp_all
  | false =>
    have away : nearDetector p (usablePosition p (carEntry s (otherSide d.track))) (detectorAt p d) = false := by
      simpa [near] using own
    cases known : usablePosition p (carEntry s d.track) with
    | some q =>
      rw [known] at near
      simp [away, near]
    | none => cases occ : (track s.loop d.track).occ <;> simp_all

end

/-! ## The track of a fall (R151) -/

theorem fallTrack_of_sequence {p : Profile} {d : Detector} {x : Option Nat} {t : Track} (last : t.last = some d.atEnd)
    (order : t.occ = .entering ∨ t.occ = .leaving) :
    fallTrack p d x t = some (x.elim
      { occ := if t.occ = .entering then .occupied else .clear, last := none, unconfirmed := true }
      fun q => { occ := if innerSide p d q then .occupied else .clear, last := none, unconfirmed := false }) := by
  rcases order with occ | occ <;> cases x <;> simp [fallTrack, last, occ]

theorem fallTrack_of_fault {p : Profile} {d : Detector} {x : Option Nat} {t : Track}
    (fault : ¬ (t.last = some d.atEnd ∧ (t.occ = .entering ∨ t.occ = .leaving))) : fallTrack p d x t = none := by
  by_cases last : t.last = some d.atEnd
  · cases occ : t.occ <;> simp_all [fallTrack]
  · simp [fallTrack, last]

/-- Settles O36: the edge's cause and the track it leaves, for a rise and for a fall. -/
theorem detectorEdgeMovesTheTrack : Obligations.DetectorEdgeMovesTheTrack := by
  intro d rise p s live loop service loaded was shows stood
  have stands := edgeStands_of_samples loop service was shows stood
  cases rise with
  | true =>
    obtain ⟨z, taken⟩ := act_clocked (riseEdge d) live
    have frame := riseEdge_frame d s
    have same : track (edgeHeld d true s).loop d.track = track s.loop d.track := by simp [edgeHeld_loop]
    rw [riseEdge_of_stands loaded stands, takeRise_eq, riseCause_edgeHeld, same] at taken frame
    obtain ⟨input, moved, other, silent, raised⟩ := edgeTaken_of_setTrack d true (riseCause p d s)
      (riseTrack (edgeHeld d true s) d (track s.loop d.track)) z service
    obtain ⟨power, time, inputs, loader, peers, port, -⟩ := frame
    refine ⟨_, taken, input, other, fun _ => ⟨fun clear => ?_, fun occupied => ?_, fun fault => ?_, ?_⟩, by simp,
      power, time, inputs, loader, peers, port⟩
    · exact moved.trans (by simp [riseTrack, clear])
    · exact moved.trans (by simp [riseTrack, occupied])
    · rw [moved]
      rcases fault with occ | occ <;> simp only [riseTrack, occ, trackFromDetectors_unconfirmed]
    · split
      · next wrong => exact raised _ (riseCause_of_wrong_track wrong.1 wrong.2)
      · next own =>
        split
        · next order => exact silent (riseCause_of_sequence order.1 order.2 own)
        · next fault => exact raised _ (riseCause_of_fault own fault)
  | false =>
    obtain ⟨z, taken⟩ := act_clocked (fallEdge d) live
    have frame := fallEdge_frame d s
    have same : track (edgeHeld d false s).loop d.track = track s.loop d.track := by simp [edgeHeld_loop]
    rw [fallEdge_of_stands loaded stands, takeFall_eq, fallCause_edgeHeld, loopCarPosition_edgeHeld, same] at taken frame
    obtain ⟨input, moved, other, silent, raised⟩ := edgeTaken_of_setTrack d false (fallCause p d s)
      ((fallTrack p d (loopCarPosition s p d.track) (track s.loop d.track)).getD
        (trackFromDetectors (edgeHeld d false s) d.track d.atEnd)) z service
    obtain ⟨power, time, inputs, loader, peers, port, -⟩ := frame
    refine ⟨_, taken, input, other, by simp, fun _ => ?_, power, time, inputs, loader, peers, port⟩
    split
    · next expected =>
      have settled := fallTrack_of_sequence (p := p) (x := loopCarPosition s p d.track) expected.1 expected.2
      refine ⟨silent (by simp [fallCause, settled]), moved.trans ?_⟩
      rw [settled, Option.getD_some, loopCarPosition]
      cases usablePosition p (carEntry s d.track) <;> rfl
    · next fault =>
      have none := fallTrack_of_fault (p := p) (x := loopCarPosition s p d.track) fault
      obtain ⟨state, own, cause⟩ := raised .loopSequence (by simp [fallCause, none])
      refine ⟨state, own, cause, ?_⟩
      rw [moved, none, Option.getD_none, trackFromDetectors_unconfirmed]

end Sys2Proof.Machine
end

section
/-! PROOF. The presses of the keys, the contacts and the deadlines (R128, R132, R142 to R145, R178 to R188). -/

namespace Sys2Proof.Machine

/-! ## Quiet spells (R178) -/

/-- A quiet spell is told from the node state, the role, the own samples and the DRIVE's entry. -/
theorem quietSpell_of_state {s t : State} (state : t.seq.state = s.seq.state) (loader : t.loader = s.loader)
    (tracker : t.tracker = s.tracker) (peers : t.peers = s.peers) : quietSpell t = quietSpell s := by
  simp [quietSpell, resting, inState, stands, hasEncoder, isDrive, isCar, role, standstill, driveStopped, driveEntry,
    state, loader, tracker, peers]

/-- A command that leaves node state, samples and entries leaves the downshift clock to its own work (R178). -/
theorem act_of_state {f : State → State} {s : State} (live : held s = false) (state : (f s).seq.state = s.seq.state)
    (loader : (f s).loader = s.loader) (tracker : (f s).tracker = s.tracker) (peers : (f s).peers = s.peers) :
    act f s = .next (f s) := by
  rw [act_of_not_held f live, settleSpell_of_quietSpell_eq (quietSpell_of_state state loader tracker peers)]

/-! ## Beacons asked for on the way (R75) -/

theorem beaconAsked_setClass_of_asked {c : BeaconClass} {s : State} (asked : beaconAsked s = true) :
    beaconAsked (setClass c s) = true := by
  by_cases same : s.cls.cls = c
  · rwa [setClass, if_pos (by simpa using same)]
  · exact beaconAsked_setClass same

theorem beaconAsked_wakeEvent {s : State} (asked : beaconAsked s = true) : beaconAsked (wakeEvent s) = true := by
  cases taken : wakes s with
  | false => rwa [wakeEvent_of_not_wakes taken]
  | true =>
    rw [wakeEvent_of_wakes taken]
    split
    · exact beaconAsked_requestBeacon _
    · exact (beaconAsked_congr (by simp [wokenClass])).trans
        (beaconAsked_endStandDown (o := .cancelled) (beaconAsked_setClass_of_asked (c := .run) asked))

theorem wakeEvent_cls_of_wakes {s : State} (taken : wakes s = true) :
    (wakeEvent s).cls.cls = .run ∧ (wakeEvent s).cls.wake = 3 ∧ (wakeEvent s).cls.sdRole = .none := by
  have woke := woken_wakeEvent taken
  simp only [woken, Bool.and_eq_true, beq_iff_eq] at woke
  exact ⟨woke.1.1.1, woke.1.1.2, woke.1.2⟩

theorem wakes_iff (s : State) :
    wakes s = true ↔ s.seq.state ≠ .starting ∧ s.seq.state ≠ .night ∧ s.seq.state ≠ .faulted := by
  simp [wakes, inState, and_assoc]

/-- The wake event leaves the COMMIT count and, where no part stands, the rest of the part. -/
theorem wakeEvent_commit (s : State) : (wakeEvent s).cls.commit = s.cls.commit := by
  cases taken : wakes s with
  | false => rw [wakeEvent_of_not_wakes taken]
  | true =>
    have kept : (wokenClass s).cls.commit = s.cls.commit := by
      simp only [wokenClass, restartSpell]
      split <;> simp [cls_endStandDown, cls_setClass]
    rw [wakeEvent_of_wakes taken]
    split
    · simpa using kept
    · exact kept

/-! ## A press taken: the level of the sample before is the one just taken -/

/-- A state with the previous sample replaced. -/
def State.sampled (i : Pins) (s : State) : State := { s with inputs.previous := i }

@[simp] theorem State.sampled_frame (i : Pins) (s : State) :
    (s.sampled i).power = s.power ∧ (s.sampled i).time = s.time
      ∧ (s.sampled i).inputs = { s.inputs with previous := i } ∧ (s.sampled i).loader = s.loader
      ∧ (s.sampled i).access = s.access ∧ (s.sampled i).peers = s.peers ∧ (s.sampled i).tracker = s.tracker
      ∧ (s.sampled i).envelope = s.envelope ∧ (s.sampled i).ceiling = s.ceiling ∧ (s.sampled i).generator = s.generator
      ∧ (s.sampled i).seq = s.seq ∧ (s.sampled i).loop = s.loop ∧ (s.sampled i).brakes = s.brakes
      ∧ (s.sampled i).trips = s.trips ∧ (s.sampled i).cls = s.cls ∧ (s.sampled i).port = s.port
      ∧ (s.sampled i).pending = s.pending :=
  ⟨rfl, rfl, rfl, rfl, rfl, rfl, rfl, rfl, rfl, rfl, rfl, rfl, rfl, rfl, rfl, rfl, rfl⟩

/-! ## The stand-down press (R184) -/

theorem takeStandDown_of_pressed {s : State} (pressed : s.inputs.pins.standDown = true)
    (fresh : s.inputs.previous.standDown = false) (begun : s.seq.state ≠ .starting) (runs : s.seq.state ≠ .faulted) :
    takeStandDown s = standDown (s.sampled { s.inputs.previous with standDown := true }) := by
  simp [takeStandDown, pressed, fresh, inState, begun, runs, State.sampled]

theorem standDown_of_initiating {s : State} (initiating : s.cls.sdRole = .initiating) : standDown s = s := by
  simp [standDown, initiating]

theorem standDown_of_accepted {p : Profile} {s : State} (free : s.cls.sdRole = .none) (loaded : s.loader.profile = some p)
    (allowed : standDownAllowed s p = true) : standDown s = initiate p s := by
  simp [standDown, free, loaded, allowed]

theorem standDown_of_refused {p : Profile} {s : State} (other : s.cls.sdRole ≠ .initiating)
    (loaded : s.loader.profile = some p) (refused : ¬ (s.cls.sdRole = .none ∧ standDownAllowed s p = true)) :
    standDown s = refusePress s := by
  cases part : s.cls.sdRole with
  | none => simp_all [standDown]
  | initiating => exact absurd part other
  | acking => simp [standDown, part]

theorem standDown_state (s : State) : (standDown s).seq.state = s.seq.state := by
  unfold standDown initiate refusePress
  (repeat' split) <;> simp

/-- Settles O33: the press finds its part begun, is accepted, or is refused. -/
theorem standDownPressIsJudged : Obligations.StandDownPressIsJudged := by
  intro p s live pressed fresh begun runs loaded
  have taken : exec .standDownPress s = .next (takeStandDown s) := by
    refine act_of_state live ?_ ?_ ?_ ?_
    all_goals rw [takeStandDown_of_pressed pressed fresh begun runs]
    all_goals simp [standDown_state]
  rw [takeStandDown_of_pressed pressed fresh begun runs] at taken
  refine ⟨_, taken, ?_⟩
  have loadedOf : (s.sampled { s.inputs.previous with standDown := true }).loader.profile = some p := loaded
  by_cases initiating : s.cls.sdRole = .initiating
  · rw [standDown_of_initiating (by simpa using initiating), if_pos initiating]
    exact ⟨rfl, rfl, rfl, rfl⟩
  · rw [if_neg initiating]
    by_cases accepted : s.cls.sdRole = .none ∧ standDownAllowed s p = true
    · rw [standDown_of_accepted (by simpa using accepted.1) loadedOf accepted.2, if_pos accepted]
      refine ⟨?_, ?_⟩
      · apply State.eq_of_fields <;> simp [initiate]
      · exact ⟨by simp [initiate], by simp [initiate, ownId], by simp [initiate, standDownDeadline, after],
          beaconAsked_requestBeacon _, by simp [initiate]⟩
    · rw [standDown_of_refused (by simpa using initiating) loadedOf (by exact accepted), if_neg accepted]
      exact ⟨rfl, rfl, rfl, rfl⟩

/-! ## The stand-up press (R180, R182) -/

theorem takeStandUp_of_pressed {s : State} (pressed : s.inputs.pins.standUp = true)
    (fresh : s.inputs.previous.standUp = false) (begun : s.seq.state ≠ .starting) :
    takeStandUp s =
      wakeEvent (if inState s .night then standUp (s.sampled { s.inputs.previous with standUp := true })
        else s.sampled { s.inputs.previous with standUp := true }) := by
  simp [takeStandUp, pressed, fresh, inState, begun, State.sampled]

theorem standUp_state (s : State) : (standUp s).seq.state = standingTest s := by simp [standUp]

theorem wakes_standUp (s : State) : wakes (standUp s) = true := by
  rw [wakes_iff, standUp_state]
  rcases standingTest_rests s with rest | rest <;> simp [rest]

theorem beaconAsked_standUp (s : State) : beaconAsked (standUp s) = true :=
  beaconAsked_setClass_of_asked (beaconAsked_enterState _ _)

theorem standUp_commit {s : State} (night : s.seq.state = .night) : (standUp s).cls.commit = 0 := by
  simp [standUp, cls_setClass, enterState_cls, ClassUnit.entered_counts, night]

/-- A CAR that stands up into DWELL is not MISALIGNED (R141, R182). -/
theorem doorJudged_standUp {p : Profile} {s : State} (loaded : s.loader.profile = some p) (night : s.seq.state = .night) :
    doorJudged false p (standUp s) = true := by
  refine (doorJudged_congr ?_ ?_ ?_ fun _ => ?_).trans
    (doorJudged_enterState (m := false) (standingTest s) loaded fun _ _ => by rw [night]; rfl)
  all_goals simp [standUp]

theorem takeStandUp_of_night {s : State} (pressed : s.inputs.pins.standUp = true)
    (fresh : s.inputs.previous.standUp = false) (night : s.seq.state = .night) :
    takeStandUp s = wakeEvent (standUp (s.sampled { s.inputs.previous with standUp := true })) := by
  rw [takeStandUp_of_pressed pressed fresh (by simp [night]), if_pos (by simp [inState, night])]

theorem takeStandUp_of_other {s : State} (pressed : s.inputs.pins.standUp = true)
    (fresh : s.inputs.previous.standUp = false) (begun : s.seq.state ≠ .starting) (other : s.seq.state ≠ .night) :
    takeStandUp s = wakeEvent (s.sampled { s.inputs.previous with standUp := true }) := by
  rw [takeStandUp_of_pressed pressed fresh begun, if_neg (by simp [inState, other])]

section

variable {s : State} (night : s.seq.state = .night)

include night

theorem wokenUp_cls : (wakeEvent (standUp s)).cls.cls = .run ∧ (wakeEvent (standUp s)).cls.wake = 3
    ∧ (wakeEvent (standUp s)).cls.commit = 0 := by
  obtain ⟨cls, wake, -⟩ := wakeEvent_cls_of_wakes (wakes_standUp s)
  exact ⟨cls, wake, by rw [wakeEvent_commit, standUp_commit night]⟩

theorem doorJudged_wokenUp {p : Profile} (loaded : s.loader.profile = some p) :
    doorJudged false p (wakeEvent (standUp s)) = true := by
  refine (doorJudged_congr ?_ ?_ ?_ fun _ => ?_).trans (doorJudged_standUp loaded night)
  all_goals simp

end

theorem wokenUp_seq (s : State) :
    (wakeEvent (standUp s)).seq.state = standingTest s ∧ (wakeEvent (standUp s)).seq.run = s.seq.run := by
  simp [standUp, enterState_run]

/-- Settles O34: out of NIGHT, and the wake event. -/
theorem standUpLeavesNight : Obligations.StandUpLeavesNight := by
  intro s live pressed fresh begun
  obtain ⟨c, taken⟩ := act_clocked takeStandUp live
  obtain ⟨power, time, loader, peers, loop, trips, port, -⟩ := takeStandUp_frame s
  have inputs : (takeStandUp s).inputs = { s.inputs with previous := { s.inputs.previous with standUp := true } } := by
    rw [takeStandUp_of_pressed pressed fresh begun]
    split <;> simp
  refine ⟨_, taken, ?_, ?_, fun night => ?_, fun other => ?_, fun faulted => ?_, fun woke => ?_, power, time, loader, peers,
    loop, trips, port⟩
  · simp [State.clocked, inputs]
  · simp [State.clocked, inputs]
  · have up := takeStandUp_of_night pressed fresh night
    have nightOf : (s.sampled { s.inputs.previous with standUp := true }).seq.state = .night := night
    obtain ⟨cls, wake, commit⟩ := wokenUp_cls nightOf
    obtain ⟨state, run⟩ := wokenUp_seq (s.sampled { s.inputs.previous with standUp := true })
    have asked := beaconAsked_wakeEvent (beaconAsked_standUp (s.sampled { s.inputs.previous with standUp := true }))
    have door := fun p loaded => doorJudged_wokenUp nightOf (p := p) loaded
    rw [← up] at cls wake commit state run asked door
    exact ⟨state, cls, wake, commit, asked, run, door⟩
  · rw [takeStandUp_of_other pressed fresh begun other]
    simp [State.clocked]
  · have sleeps : wakes (s.sampled { s.inputs.previous with standUp := true }) = false := by simp [wakes, inState, faulted]
    rw [takeStandUp_of_other pressed fresh begun (by simp [faulted]), wakeEvent_of_not_wakes sleeps]
    exact ⟨rfl, rfl⟩
  · have woken := woken_wakeEvent (s := s.sampled { s.inputs.previous with standUp := true }) woke
    rw [← takeStandUp_of_other pressed fresh begun ((wakes_iff s).mp woke).2.1] at woken
    exact woken

end Sys2Proof.Machine
end

section
/-! PROOF. The contacts, the dispatch press and the deadlines (R127, R128, R132, R142, R143, R178, R188). -/

namespace Sys2Proof.Machine

/-! ## The consent conditions (R127) -/

/-- What the consent conditions read. -/
theorem consents_congr {s t : State} (loader : t.loader = s.loader) (peers : t.peers = s.peers)
    (quality : t.tracker.quality = s.tracker.quality) (brakes : t.brakes = s.brakes) (loop : t.loop = s.loop)
    (pins : t.inputs.pins = s.inputs.pins) (leg : Option (Fin 5)) (recovery : Bool) :
    consents t leg recovery = consents s leg recovery := by
  have position : ∀ p x, loopCarPosition t p x = loopCarPosition s p x := by
    simp [loopCarPosition, carEntry, peers]
  have loopOf : ∀ p, loopConsents t p recovery = loopConsents s p recovery := by
    simp [loopConsents, awayFromLoop, atLoopStop, recoveryPasses, position, loop]
  have roleOf : ∀ p, roleConsents t p leg recovery = roleConsents s p leg recovery := by
    intro p
    simp [roleConsents, role, located, doorShut, gateShut, loader, quality, brakes, pins, loopOf]
  simp [consents, complete, loader, peers, roleOf]

/-- An open contact withdraws the consent conditions of its role (R127). -/
theorem consents_of_open_contact {s : State} (leg : Option (Fin 5)) (recovery : Bool)
    (shows : isCar s = true ∧ s.inputs.pins.doorShut = false ∨ isTerminal s = true ∧ s.inputs.pins.gateShut = false) :
    consents s leg recovery = false := by
  have refuses : ∀ p, roleConsents s p leg recovery = false := by
    intro p
    rcases shows with ⟨car, shut⟩ | ⟨terminal, shut⟩
    · simp [roleConsents, role_of_isCar car, doorShut, shut]
    · have strapped : role s = .terminal := by simpa [isTerminal] using terminal
      simp [roleConsents, strapped, gateShut, shut]
  simp [consents, refuses]

/-! ## Leaving ARMED (R132) -/

theorem leaveArmed_of_origin {n : NodeState} {s : State} (origin : s.seq.origin = some n) :
    leaveArmed s = enterState n s := by
  simp [leaveArmed, origin]

theorem judgeConsent_of_kept {s : State} (kept : consents s s.seq.leg s.seq.recovery = true) : judgeConsent s = s := by
  simp [judgeConsent, kept]

/-- In ARMED with a sound origin the judgement either keeps the state or leads back to DWELL or HOLD. -/
theorem judgeConsent_cases {s : State} (sound : originGated s = true) :
    judgeConsent s = s ∨ (s.seq.state = .armed ∧ ∃ n, (n = .dwell ∨ n = .hold) ∧ judgeConsent s = enterState n s) := by
  by_cases armed : s.seq.state = .armed
  · cases kept : consents s s.seq.leg s.seq.recovery with
    | true => exact .inl (judgeConsent_of_kept kept)
    | false =>
      refine .inr ⟨armed, ?_⟩
      have home : s.seq.origin = some .dwell ∨ s.seq.origin = some .hold := by
        simpa [originGated, inState, armed] using sound
      rcases home with home | home
      · exact ⟨_, .inl rfl, (judgeConsent_of_lost armed kept).trans (leaveArmed_of_origin home)⟩
      · exact ⟨_, .inr rfl, (judgeConsent_of_lost armed kept).trans (leaveArmed_of_origin home)⟩
  · exact .inl (judgeConsent_of_not_armed armed)

/-- An entry to DWELL or HOLD from ARMED keeps what a wake event has done at the Class Controller (R179). -/
theorem entered_leftarmed {n : NodeState} (home : n = .dwell ∨ n = .hold) (now : Time) (k : ClassUnit) :
    k.entered .armed n now = k := by
  rcases home with rfl | rfl <;> rfl

theorem woken_judgeConsent_wakeEvent {s : State} (wake : wakes s = true) (sound : originGated s = true) :
    woken s (judgeConsent (wakeEvent s)) = true := by
  have woke := woken_wakeEvent wake
  have soundOf : originGated (wakeEvent s) = true := by simpa [originGated, inState] using sound
  rcases judgeConsent_cases soundOf with same | ⟨armed, n, home, moved⟩
  · rw [same]
    exact woke
  · obtain ⟨cls, count, part⟩ := wakeEvent_cls_of_wakes wake
    have kept : (enterState n (wakeEvent s)).cls = (wakeEvent s).cls := by
      rw [enterState_cls, armed, entered_leftarmed home]
    rw [moved]
    simp [woken, kept, cls, count, part]

/-! ## The contacts (R142, R143) -/

/-- A state with the levels of the contacts taken. -/
def State.contacts (door gate : Bool) (s : State) : State :=
  { s with inputs := { s.inputs with doorTaken := door, gateTaken := gate } }

theorem isTerminal_of_isCar {s : State} (car : isCar s = true) : isTerminal s = false := by
  simp [isTerminal, role_of_isCar car]

theorem isCar_of_isTerminal {s : State} (terminal : isTerminal s = true) : isCar s = false := by
  have strapped : role s = .terminal := by simpa [isTerminal] using terminal
  simp [isCar, strapped]

/-- Either contact's change is taken at its role alone, and consent is judged again after the wake event. -/
theorem exec_of_contact {c : Instr} {s : State} (begun : s.seq.state ≠ .starting)
    (changed : (c = .doorContactChange ∧ isCar s = true ∧ s.inputs.pins.doorShut ≠ s.inputs.doorTaken)
      ∨ (c = .gateContactChange ∧ isTerminal s = true ∧ s.inputs.pins.gateShut ≠ s.inputs.gateTaken)) :
    ∃ f, exec c s = act f s
      ∧ f s = judgeConsent (wakeEvent (s.contacts
          (if isCar s then s.inputs.pins.doorShut else s.inputs.doorTaken)
          (if isTerminal s then s.inputs.pins.gateShut else s.inputs.gateTaken))) := by
  rcases changed with ⟨rfl, car, moved⟩ | ⟨rfl, terminal, moved⟩
  · exact ⟨changeDoor, rfl, by simp [changeDoor, car, isTerminal_of_isCar car, inState, begun, moved, State.contacts]⟩
  · exact ⟨changeGate, rfl, by simp [changeGate, terminal, isCar_of_isTerminal terminal, inState, begun, moved, State.contacts]⟩

section

variable {door gate : Bool} {s : State}

theorem contacts_woken_frame : (wakeEvent (s.contacts door gate)).seq = s.seq
    ∧ (wakeEvent (s.contacts door gate)).brakes = s.brakes ∧ (wakeEvent (s.contacts door gate)).envelope = s.envelope
    ∧ (wakeEvent (s.contacts door gate)).inputs = { s.inputs with doorTaken := door, gateTaken := gate } := by
  simp [State.contacts]

theorem consents_contacts (leg : Option (Fin 5)) (recovery : Bool) :
    consents (wakeEvent (s.contacts door gate)) leg recovery = consents s leg recovery := by
  apply consents_congr <;> simp [State.contacts]

theorem judgeContacts_of_not_armed (other : s.seq.state ≠ .armed) :
    judgeConsent (wakeEvent (s.contacts door gate)) = wakeEvent (s.contacts door gate) :=
  judgeConsent_of_not_armed (by simpa [State.contacts] using other)

theorem judgeContacts_of_kept (kept : consents s s.seq.leg s.seq.recovery = true) :
    judgeConsent (wakeEvent (s.contacts door gate)) = wakeEvent (s.contacts door gate) := by
  apply judgeConsent_of_kept
  rw [contacts_woken_frame.1, consents_contacts, kept]

theorem judgeContacts_of_lost (armed : s.seq.state = .armed) {n : NodeState} (home : s.seq.origin = some n)
    (lost : consents s s.seq.leg s.seq.recovery = false) :
    judgeConsent (wakeEvent (s.contacts door gate)) = enterState n (wakeEvent (s.contacts door gate)) := by
  have seq := contacts_woken_frame (s := s) (door := door) (gate := gate) |>.1
  rw [judgeConsent_of_lost (by rw [seq, armed]) (by rw [seq, consents_contacts, lost]),
    leaveArmed_of_origin (n := n) (by rw [seq, home])]

end

/-- Settles O35: the level taken, the wake event, and consent judged again. -/
theorem contactChangeIsJudged : Obligations.ContactChangeIsJudged := by
  intro c s live begun changed
  obtain ⟨f, executes, result⟩ := exec_of_contact begun changed
  obtain ⟨k, taken⟩ := act_clocked f live
  rw [result] at taken
  obtain ⟨seq, brakes, envelope, inputs⟩ := contacts_woken_frame (s := s)
    (door := if isCar s then s.inputs.pins.doorShut else s.inputs.doorTaken)
    (gate := if isTerminal s then s.inputs.pins.gateShut else s.inputs.gateTaken)
  refine ⟨_, executes.trans taken, ?_, fun other => ?_, fun armed kept => ?_, fun armed home shut => ?_,
    fun wake sound => ?_, ?_⟩
  · simpa [State.clocked] using inputs
  · rw [judgeContacts_of_not_armed other]
    exact ⟨seq, brakes, envelope⟩
  · rw [judgeContacts_of_kept kept]
    exact ⟨seq, brakes⟩
  · have lost : consents s s.seq.leg s.seq.recovery = false := by
      apply consents_of_open_contact
      rcases changed with ⟨-, car, -⟩ | ⟨-, terminal, -⟩
      · exact .inl ⟨car, by simpa [car] using shut⟩
      · exact .inr ⟨terminal, by simpa [isCar_of_isTerminal terminal] using shut⟩
    rcases home with home | home
    all_goals
      rw [judgeContacts_of_lost armed home lost]
      simp [State.clocked, State.contacts, home, enterState_brakes_of_rest, enterState_run]
  · exact woken_judgeConsent_wakeEvent (s := s.contacts _ _) wake sound
  · simp [State.clocked, State.contacts]

/-! ## The dispatch press (R128) -/

/-- The state with the run that an accepted press proposes. -/
def proposed (dir : RunDir) (p : Profile) (s : State) : State :=
  takeRun (newRunNumber s) (directionOf dir) (legTarget s p dir) (recoveryFor s) true (ownId s) p s

theorem dispatchPin_markDispatch (dir : RunDir) (i : Pins) : dispatchPin (markDispatch dir i) dir = true := by
  cases dir <;> rfl

theorem takeDispatch_of_pressed {dir : RunDir} {s : State} (pressed : dispatchPin s.inputs.pins dir = true)
    (fresh : dispatchPin s.inputs.previous dir = false) (begun : s.seq.state ≠ .starting)
    (runs : s.seq.state ≠ .faulted) :
    takeDispatch dir s =
      wakeEvent (endStandDown .cancelled (dispatch dir (s.sampled (markDispatch dir s.inputs.previous)))) := by
  simp [takeDispatch, pressed, fresh, inState, begun, runs, State.sampled]

theorem pressAccepted_iff (s : State) (p : Profile) (dir : RunDir) :
    pressAccepted s p dir = true ↔ resting s = true ∧ (ownNode s p).any ListedNode.dispatchEnabled = true
      ∧ (legTarget s p dir).isSome = true ∧ consents s (legTarget s p dir) (recoveryFor s) = true := by
  simp only [pressAccepted, dispatchEnabled, Bool.and_eq_true]
  tauto

theorem dispatch_of_accepted {dir : RunDir} {p : Profile} {s : State} (loaded : s.loader.profile = some p)
    (accepted : pressAccepted s p dir = true) : dispatch dir s = arm (proposed dir p s) := by
  simp [dispatch, loaded, accepted, proposed]

theorem dispatch_of_refused {dir : RunDir} {s : State}
    (refused : ∀ p, s.loader.profile = some p → pressAccepted s p dir = false) : dispatch dir s = refusePress s := by
  unfold dispatch
  split
  · rfl
  · next p loaded => simp [refused p loaded]

theorem pressAccepted_sampled (i : Pins) (s : State) (p : Profile) (dir : RunDir) :
    pressAccepted (s.sampled i) p dir = pressAccepted s p dir := by
  have leg : legTarget (s.sampled i) p dir = legTarget s p dir := rfl
  have consent : ∀ leg recovery, consents (s.sampled i) leg recovery = consents s leg recovery := fun _ _ => by
    apply consents_congr <;> rfl
  have recovery : recoveryFor (s.sampled i) = recoveryFor s := rfl
  unfold pressAccepted
  rw [leg, recovery, consent]
  rfl

/-- Entry to ARMED with a run taken (R120, R123, R143). -/
theorem arm_seq (s : State) :
    (arm s).seq =
      { s.seq with
        state := .armed, origin := some s.seq.state, stage := .idle, misaligned := false, doorRelease := false
        gateRelease := false } := by
  rw [arm, enterState_seq_of_not_dwell _ (by simp)]
  simp [enterSequencer]

theorem arm_brakes (s : State) :
    (arm s).brakes = if isCar s then s.brakes.put .tb (liftUnit s.time.now s.brakes.tb) else s.brakes := by
  rw [arm, enterState_brakes_armed]
  rfl

theorem arm_tracker (s : State) : (arm s).tracker = s.tracker := by
  rw [arm, enterState_tracker_eq]
  simp [enterTracker, enterEnvelope]

/-- What an accepted press leaves (R128). -/
def armedByPress (dir : RunDir) (p : Profile) (s : State) : State :=
  wakeEvent (endStandDown .cancelled (arm (proposed dir p s)))

section

variable (dir : RunDir) (p : Profile) (s : State)

theorem armedByPress_blocks :
    (armedByPress dir p s).seq = (arm (proposed dir p s)).seq ∧ (armedByPress dir p s).brakes = (arm (proposed dir p s)).brakes
      ∧ (armedByPress dir p s).envelope = (arm (proposed dir p s)).envelope
      ∧ (armedByPress dir p s).ceiling = (arm (proposed dir p s)).ceiling
      ∧ (armedByPress dir p s).tracker = s.tracker ∧ (armedByPress dir p s).inputs = s.inputs := by
  simp [armedByPress, arm_tracker, proposed]

theorem armedByPress_cls : (armedByPress dir p s).cls.cls = .run ∧ (armedByPress dir p s).cls.wake = 3
    ∧ (armedByPress dir p s).cls.sdRole = .none := by
  unfold armedByPress
  exact wakeEvent_cls_of_wakes (by simp [wakes_iff, arm])

theorem beaconAsked_armedByPress : beaconAsked (armedByPress dir p s) = true := by
  unfold armedByPress
  exact beaconAsked_wakeEvent (beaconAsked_endStandDown (beaconAsked_enterState _ _))

/-- A CAR that consents lifts TB at its entry to ARMED (R123, R127). -/
theorem armedByPress_tb {dir p s} (car : isCar s = true) (sound : s.brakes.tb.liftFail = false)
    (applied : s.brakes.tb.state = .applied) :
    (armedByPress dir p s).brakes.tb.state = .lifting ∧ (armedByPress dir p s).brakes.tb.liftTime = some s.time.now := by
  have carOf : isCar (proposed dir p s) = true := car
  rw [(armedByPress_blocks dir p s).2.1, arm_brakes, if_pos carOf]
  simp [proposed, Brakes.put, liftUnit, applied, sound]

theorem armedByPress_others : (armedByPress dir p s).brakes.eb = s.brakes.eb
    ∧ (armedByPress dir p s).brakes.sb = s.brakes.sb := by
  rw [(armedByPress_blocks dir p s).2.1, arm_brakes]
  split <;> simp [proposed, Brakes.put]

theorem armedByPress_ceiling : (armedByPress dir p s).ceiling.line = 0 ∧ (armedByPress dir p s).envelope.vperm = 0 := by
  obtain ⟨-, -, envelope, ceiling, -⟩ := armedByPress_blocks dir p s
  rw [envelope, ceiling, arm, enterState_line_of_not_running _ (by simp), enterState_vperm]
  exact ⟨rfl, rfl⟩

end

/-- A CAR that consents has no LIFT_FAIL (R127). -/
theorem liftFail_of_consents {s : State} {leg : Option (Fin 5)} {recovery : Bool} (car : isCar s = true)
    (consent : consents s leg recovery = true) : s.brakes.tb.liftFail = false := by
  by_contra failed
  have lost := consents_of_liftFail (b := .tb) (s := s) (by simp [fitted, role_of_isCar car, hasBrake])
    (by simpa [brakeUnit] using failed) leg recovery
  simp [lost] at consent

/-- What a refused press leaves (R128, R180, R188). -/
def refusedByPress (s : State) : State := wakeEvent (endStandDown .cancelled (refusePress s))

theorem refusedByPress_seq (s : State) :
    (refusedByPress s).seq = { s.seq with refusal := some (s.time.now + 2000) } := by
  simp [refusedByPress, refusePress, after, Config.refusalMs]

theorem refusedByPress_sdRole (s : State) : (refusedByPress s).cls.sdRole = .none := by
  cases taken : wakes (endStandDown .cancelled (refusePress s)) with
  | true => exact (wakeEvent_cls_of_wakes taken).2.2
  | false =>
    rw [refusedByPress, wakeEvent_of_not_wakes taken]
    exact (endStandDown_cls _ _).2

theorem refusedByPress_cls {s : State} (begun : s.seq.state ≠ .starting) (runs : s.seq.state ≠ .faulted)
    (awake : s.seq.state ≠ .night) : (refusedByPress s).cls.cls = .run ∧ (refusedByPress s).cls.wake = 3 := by
  have taken : wakes (endStandDown .cancelled (refusePress s)) = true := by
    simp [wakes_iff, begun, runs, awake]
  obtain ⟨cls, wake, -⟩ := wakeEvent_cls_of_wakes taken
  exact ⟨cls, wake⟩

/-- Settles O32: the press arms the node, or the refusal window runs. -/
theorem dispatchPressIsJudged : Obligations.DispatchPressIsJudged := by
  intro dir p s live pressed fresh begun runs loaded
  obtain ⟨k, taken⟩ := act_clocked (takeDispatch dir) live
  have result := takeDispatch_of_pressed pressed fresh begun runs
  by_cases accepted : s.loader.profile = some p ∧ resting s = true ∧ (ownNode s p).any ListedNode.dispatchEnabled = true
      ∧ (legTarget s p dir).isSome = true ∧ consents s (legTarget s p dir) (recoveryFor s) = true
  · have ⟨load, conditions⟩ := accepted
    have accepts : pressAccepted (s.sampled (markDispatch dir s.inputs.previous)) p dir = true := by
      rw [pressAccepted_sampled, pressAccepted_iff]
      exact conditions
    rw [dispatch_of_accepted (s := s.sampled (markDispatch dir s.inputs.previous)) load accepts] at result
    obtain ⟨power, time, loader, peers, loop, trips, port, -⟩ := takeDispatch_frame dir s
    obtain ⟨seq, -, -, -, tracker, inputs⟩ := armedByPress_blocks dir p (s.sampled (markDispatch dir s.inputs.previous))
    obtain ⟨cls, wake, part⟩ := armedByPress_cls dir p (s.sampled (markDispatch dir s.inputs.previous))
    have asked := beaconAsked_armedByPress dir p (s.sampled (markDispatch dir s.inputs.previous))
    obtain ⟨eb, sb⟩ := armedByPress_others dir p (s.sampled (markDispatch dir s.inputs.previous))
    obtain ⟨line, vperm⟩ := armedByPress_ceiling dir p (s.sampled (markDispatch dir s.inputs.previous))
    have lifts := fun car applied => armedByPress_tb (dir := dir) (p := p)
      (s := s.sampled (markDispatch dir s.inputs.previous)) car (liftFail_of_consents (s := s) car conditions.2.2.2) applied
    rw [arm_seq] at seq
    have named : takeDispatch dir s = armedByPress dir p (s.sampled (markDispatch dir s.inputs.previous)) := result
    rw [← named] at seq tracker inputs cls wake part asked eb sb line vperm lifts
    have woke : woken s (takeDispatch dir s) = true := by simp [woken, cls, wake, part, asked]
    have pins : (takeDispatch dir s).inputs.pins = s.inputs.pins := by
      rw [inputs]
      rfl
    refine ⟨_, taken, ?_, ?_, pins, part, fun _ => ⟨cls, wake⟩⟩
    · rw [if_pos accepted]
      refine ⟨seq.trans ?_, lifts, eb, sb, vperm, line, woke, asked, power, time, loader, peers, tracker, loop, trips, port⟩
      cases dir <;> rfl
    · refine (congrArg (fun i => dispatchPin (Inputs.previous i) dir) inputs).trans ?_
      exact dispatchPin_markDispatch dir _
  · have refuses : ∀ q, s.loader.profile = some q →
        pressAccepted (s.sampled (markDispatch dir s.inputs.previous)) q dir = false := by
      intro q load
      have same : q = p := by
        rcases loaded with is | isnt
        · exact Option.some.inj (load.symm.trans is)
        · rw [isnt] at load
          cases load
      subst same
      rw [pressAccepted_sampled, Bool.eq_false_iff]
      exact fun accepts => accepted ⟨load, (pressAccepted_iff s q dir).mp accepts⟩
    rw [dispatch_of_refused (s := s.sampled (markDispatch dir s.inputs.previous)) refuses] at result
    have named : takeDispatch dir s = refusedByPress (s.sampled (markDispatch dir s.inputs.previous)) := result
    have seq := refusedByPress_seq (s.sampled (markDispatch dir s.inputs.previous))
    have part := refusedByPress_sdRole (s.sampled (markDispatch dir s.inputs.previous))
    have cls := refusedByPress_cls (s := s.sampled (markDispatch dir s.inputs.previous)) begun runs
    have blocks : takeDispatch dir s =
        { s with
          inputs := { s.inputs with previous := markDispatch dir s.inputs.previous }
          access := (takeDispatch dir s).access
          seq := { s.seq with refusal := some (s.time.now + 2000) }
          cls := (takeDispatch dir s).cls } := by
      rw [named]
      apply State.eq_of_fields <;> simp [refusedByPress, refusePress, after, Config.refusalMs]
    rw [← named] at seq part cls
    have inputs : (takeDispatch dir s).inputs = { s.inputs with previous := markDispatch dir s.inputs.previous } :=
      congrArg State.inputs blocks
    have pins : (takeDispatch dir s).inputs.pins = s.inputs.pins := by
      rw [inputs]
    refine ⟨_, taken, ?_, ?_, pins, part, cls⟩
    · rw [if_neg accepted]
      refine ⟨(congrArg (State.clocked k) blocks).trans ?_, ?_⟩
      · rw [← inputs]
        rfl
      have shown : stopLamp ((takeDispatch dir s).clocked k) = stopLamp (takeDispatch dir s) := rfl
      have liveOf : held (takeDispatch dir s) = false := by
        rw [blocks]
        exact live
      rw [shown, stopLamp_of_not_held liveOf, seq]
      simp [begun, runs]
    · refine (congrArg (fun i => dispatchPin (Inputs.previous i) dir) inputs).trans ?_
      exact dispatchPin_markDispatch dir _

/-! ## The deadlines (R132, R178, R188) -/

theorem expireArming_of_reached {d : Time} {s : State} (armed : s.seq.state = .armed) (deadline : s.seq.deadline = some d)
    (due : (s.time.now - d).toNat < 2147483648) : expireArming s = leaveArmed s := by
  have hit : reached s.time.now d = true := (reached_iff _ _).mpr due
  simp [expireArming, inState, armed, deadline, hit]

/-- An entry to DWELL or HOLD clears the run fields but the run number (R120, R122). -/
theorem enterState_run_fields {n : NodeState} (home : n = .dwell ∨ n = .hold) (s : State) :
    (enterState n s).seq.dir = .none ∧ (enterState n s).seq.leg = none ∧ (enterState n s).seq.recovery = false
      ∧ (enterState n s).seq.dispatch = false ∧ (enterState n s).seq.consent = false
      ∧ (enterState n s).seq.origin = none ∧ (enterState n s).seq.dispatchOrigin = none
      ∧ (enterState n s).seq.deadline = none ∧ (enterState n s).seq.stage = .idle := by
  rcases home with rfl | rfl
  · rw [enterState_seq_dwell]
    exact ⟨rfl, rfl, rfl, rfl, rfl, rfl, rfl, rfl, rfl⟩
  · rw [enterState_seq_of_not_dwell s (by simp)]
    exact ⟨rfl, rfl, rfl, rfl, rfl, rfl, rfl, rfl, rfl⟩

/-- A change of class moves the due time to the new period, and asks for a beacon (R74, R178). -/
theorem setClass_of_changed {c : BeaconClass} {s : State} (changed : s.cls.cls ≠ c) :
    (setClass c s).cls = { s.cls with cls := c, clock := some s.time.now }
      ∧ (setClass c s).access.beaconDue = s.access.lastAttempt.map (fun x => x + BitVec.ofNat 32 (beaconPeriod c))
      ∧ beaconAsked (setClass c s) = true := by
  refine ⟨by simp [setClass, changed], ?_, beaconAsked_setClass changed⟩
  simp [setClass, changed, requestBeacon, wakeTransmitter, apply_ite State.access, apply_ite LineAccess.beaconDue, after]

theorem downshift_of_run {p : Profile} {d : Time} {s : State} (loaded : s.loader.profile = some p)
    (quiet : quietSpell s = true) (clock : s.cls.clock = some d) (run : s.cls.cls = .run)
    (due : p.tStill * 1000 ≤ (s.time.now - d).toNat) : downshift s = setClass .still s := by
  simp only [downshift, loaded, clock, quiet, run, if_true]
  exact if_pos due

theorem downshift_of_still {p : Profile} {d : Time} {s : State} (loaded : s.loader.profile = some p)
    (quiet : quietSpell s = true) (clock : s.cls.clock = some d) (still : s.cls.cls = .still)
    (due : p.tDeep * 10000 ≤ (s.time.now - d).toNat) : downshift s = setClass .deepStill s := by
  simp only [downshift, loaded, clock, quiet, still, if_true]
  exact if_pos due

theorem exec_downshift_of {c : BeaconClass} {s : State} (live : held s = false) (shifts : downshift s = setClass c s) :
    exec .downshift s = .next (setClass c s) := by
  refine (act_of_state live ?_ ?_ ?_ ?_).trans (by rw [shifts])
  all_goals rw [shifts]
  all_goals simp

theorem expireStandDown_of_reached {d : Time} {s : State} (deadline : s.cls.sdDeadline = some d)
    (due : (s.time.now - d).toNat < 2147483648) : expireStandDown s = endStandDown .expired s := by
  have hit : reached s.time.now d = true := (reached_iff _ _).mpr due
  simp [expireStandDown, deadline, hit]

theorem endStandDown_of_part {o : StandDownOutcome} {s : State} (part : s.cls.sdRole ≠ .none) :
    (endStandDown o s).cls = { s.cls with sdRole := .none, sdId := none, sdDeadline := none, outcome := o }
      ∧ beaconAsked (endStandDown o s) = true := by
  rw [cls_endStandDown, ClassUnit.endPart, if_neg part]
  refine ⟨rfl, ?_⟩
  rw [endStandDown, if_neg (by simpa using part)]
  exact beaconAsked_requestBeacon _

theorem endStandDown_of_none {o : StandDownOutcome} {s : State} (none : s.cls.sdRole = .none) : endStandDown o s = s := by
  simp [endStandDown, none]

/-- Settles O50: one deadline after another. -/
theorem deadlinesRunOut : Obligations.DeadlinesRunOut := by
  intro d p s live
  refine ⟨fun armed deadline due origin => ?_, fun loaded quiet clock shifts => ?_, fun deadline due => ?_⟩
  · obtain ⟨k, taken⟩ := act_clocked expireArming live
    rw [expireArming_of_reached armed deadline due] at taken
    obtain ⟨n, home, left⟩ : ∃ n, (n = .dwell ∨ n = .hold) ∧ s.seq.origin = some n := by
      rcases origin with home | home
      · exact ⟨_, .inl rfl, home⟩
      · exact ⟨_, .inr rfl, home⟩
    rw [leaveArmed_of_origin left] at taken
    obtain ⟨dir, leg, recovery, dispatch, consent, origin, dispatchOrigin, noDeadline, stage⟩ :=
      enterState_run_fields home s
    have rest : n ≠ .armed ∧ n ≠ .running ∧ n ≠ .stopping := by rcases home with rfl | rfl <;> simp
    have applied : allApplied (enterState n s).brakes = true := by
      rw [enterState_brakes_of_rest s rest, allApplied_dropped]
    have vperm : (enterState n s).envelope.vperm = 0 := by rw [enterState_vperm, if_neg rest.2.1]
    have door := fun loaded => doorJudged_enterState (m := awayFromStops p s) (p := p) (s := s) n loaded
      fun _ _ => by rw [armed, misalignedAt_armed]
    obtain ⟨power, time, inputs, loader, peers, loop, trips, port, -⟩ := enterState_frame n s
    exact ⟨_, taken, by rw [left]; simp [State.clocked], enterState_run n s, dir, leg, recovery, dispatch, consent, origin,
      dispatchOrigin, noDeadline, stage, applied, enterState_line_of_not_running s rest.2.1, vperm,
      beaconAsked_enterState n s, door, power, time, inputs, loader, peers, loop, trips, port⟩
  · rcases shifts with ⟨run, late⟩ | ⟨still, late⟩
    · obtain ⟨cls, due, asked⟩ := setClass_of_changed (c := .still) (s := s) (by simp [run])
      refine ⟨_, exec_downshift_of live (downshift_of_run loaded quiet clock run late), ?_, ?_, ?_, asked⟩
      · apply State.eq_of_fields <;> simp
      · rw [cls, if_pos run]
      · rw [due, if_pos run]
        rfl
    · obtain ⟨cls, due, asked⟩ := setClass_of_changed (c := .deepStill) (s := s) (by simp [still])
      refine ⟨_, exec_downshift_of live (downshift_of_still loaded quiet clock still late), ?_, ?_, ?_, asked⟩
      · apply State.eq_of_fields <;> simp
      · rw [cls, if_neg (by simp [still])]
      · rw [due, if_neg (by simp [still])]
        rfl
  · have expires := expireStandDown_of_reached deadline due
    have taken : exec .standDownDeadline s = .next (endStandDown .expired s) := by
      refine (act_of_state live ?_ ?_ ?_ ?_).trans (by rw [expires])
      all_goals rw [expires]
      all_goals simp
    refine ⟨_, taken, ?_, endStandDown_of_part, endStandDown_of_none⟩
    apply State.eq_of_fields <;> simp

end Sys2Proof.Machine
end

section
/-! PROOF. What reception leaves of the Line Access Unit, and the faults (R66, R77 to R80, R173). -/

namespace Sys2Proof.Machine

/-! ## The receiver's part of the Line Access Unit -/

/-- What no block but the receiver and the announce requests moves: the buffer, the octets sent, the idle count and the
time of the last request honoured. -/
def LineAccess.received (a : LineAccess) : List Byte × List Byte × Nat × Option Time :=
  (a.rxBuffer, a.sent, a.idleCount, a.lastHonoured)

theorem received_iff (a b : LineAccess) :
    a.received = b.received ↔ a.rxBuffer = b.rxBuffer ∧ a.sent = b.sent ∧ a.idleCount = b.idleCount
      ∧ a.lastHonoured = b.lastHonoured := by
  simp [LineAccess.received]

@[simp] theorem wakeTransmitter_received (s : State) :
    (wakeTransmitter s).access.received = s.access.received
      ∧ (wakeTransmitter s).access.pendingAnnounce = s.access.pendingAnnounce := by
  unfold wakeTransmitter
  split <;> exact ⟨rfl, rfl⟩

@[simp] theorem requestBeacon_received (s : State) :
    (requestBeacon s).access.received = s.access.received
      ∧ (requestBeacon s).access.pendingAnnounce = s.access.pendingAnnounce := by
  obtain ⟨received, announce⟩ := wakeTransmitter_received
    { s with access.pendingBeacon := !(s.access.tx == .deferring && s.access.inHand == some .beacon) }
  exact ⟨received.trans rfl, announce.trans rfl⟩

@[simp] theorem requestAnnounce_received (s : State) :
    (requestAnnounce s).access.received = s.access.received
      ∧ (requestAnnounce s).access.pendingAnnounce = true := by
  obtain ⟨received, announce⟩ := wakeTransmitter_received { s with access.pendingAnnounce := true }
  exact ⟨received.trans rfl, announce.trans rfl⟩

@[simp] theorem setClass_received (c : BeaconClass) (s : State) :
    (setClass c s).access.received = s.access.received
      ∧ (setClass c s).access.pendingAnnounce = s.access.pendingAnnounce := by
  unfold setClass
  split
  · exact ⟨rfl, rfl⟩
  · obtain ⟨received, announce⟩ := requestBeacon_received
      { s with
        cls.cls := c
        cls.clock := some s.time.now
        access.beaconDue := s.access.lastAttempt.map (fun t => after t (beaconPeriod c)) }
    exact ⟨received.trans rfl, announce.trans rfl⟩

@[simp] theorem endStandDown_received (o : StandDownOutcome) (s : State) :
    (endStandDown o s).access.received = s.access.received
      ∧ (endStandDown o s).access.pendingAnnounce = s.access.pendingAnnounce := by
  unfold endStandDown
  split
  · exact ⟨rfl, rfl⟩
  · simp

@[simp] theorem wakeEvent_received (s : State) :
    (wakeEvent s).access.received = s.access.received
      ∧ (wakeEvent s).access.pendingAnnounce = s.access.pendingAnnounce := by
  unfold wakeEvent
  dsimp only
  split
  · exact ⟨rfl, rfl⟩
  · split <;> simp

@[simp] theorem enterClass_received (prior n : NodeState) (s : State) :
    (enterClass prior n s).access.received = s.access.received
      ∧ (enterClass prior n s).access.pendingAnnounce = s.access.pendingAnnounce := by
  unfold enterClass
  cases n <;> cases prior <;> simp

@[simp] theorem enterState_received (n : NodeState) (s : State) :
    (enterState n s).access.received = s.access.received
      ∧ (enterState n s).access.pendingAnnounce = (s.access.pendingAnnounce || n == .faulted) := by
  unfold enterState
  dsimp only
  split
  · next faulted => simp [faulted]
  · next other => simp [other]

@[simp] theorem raiseCause_received (c : Cause) (s : State) :
    (raiseCause c s).access.received = s.access.received
      ∧ (raiseCause c s).access.pendingAnnounce = s.access.pendingAnnounce := by
  unfold raiseCause
  split <;> simp

@[simp] theorem raisePeerTrip_received (id : NodeId) (c : Cause) (s : State) :
    (raisePeerTrip id c s).access.received = s.access.received
      ∧ (raisePeerTrip id c s).access.pendingAnnounce = s.access.pendingAnnounce := by
  unfold raisePeerTrip
  split <;> simp

@[simp] theorem leaveTripped_received (s : State) :
    (leaveTripped s).access.received = s.access.received
      ∧ (leaveTripped s).access.pendingAnnounce = s.access.pendingAnnounce := by
  unfold leaveTripped
  obtain rest | rest := standingTest_rests { s with trips.primary := none } <;> simp [rest]

/-! ## FAULTED (R173) -/

/-- The state with a fault recorded and its trip state emptied. -/
def faultRecorded (c : Cause) (s : State) : State :=
  { s with
    trips :=
      { (appendRecord (tripRecord { s with seq.state := .faulted } c (inState s .tripped) none s.seq.state) s).trips with
        own := [], primary := none, origin := none }
    seq.faultCause := some c }

theorem enterFaulted_eq (c : Cause) (s : State) : enterFaulted c s = enterState .faulted (faultRecorded c s) := rfl

/-- The record of a fault: secondary in TRIPPED, of a node whose quality and position are those of a fault (R38, R174). -/
def faultRecord (c : Cause) (s : State) : TripRecord :=
  tripRecord { s with seq.state := .faulted } c (inState s .tripped) none s.seq.state

section

variable (c : Cause) (s : State)

theorem enterFaulted_seq : (enterFaulted c s).seq.state = .faulted ∧ (enterFaulted c s).seq.faultCause = some c := by
  rw [enterFaulted_eq]
  refine ⟨by simp, ?_⟩
  rw [enterState_seq_of_not_dwell _ (by simp)]
  rfl

theorem enterFaulted_trips : (enterFaulted c s).trips.own = [] ∧ (enterFaulted c s).trips.primary = none
    ∧ (enterFaulted c s).trips.origin = none ∧ appended (faultRecord c s) s (enterFaulted c s) = true := by
  have trips : (enterFaulted c s).trips = (faultRecorded c s).trips := by rw [enterFaulted_eq, (enterState_frame _ _).2.2.2.2.2.2.1]
  refine ⟨by rw [trips]; rfl, by rw [trips]; rfl, by rw [trips]; rfl, ?_⟩
  exact appended_appendRecord (.refl s) ⟨by rw [trips]; rfl, by rw [trips]; rfl⟩

theorem enterFaulted_rest : allApplied (enterFaulted c s).brakes = true ∧ (enterFaulted c s).ceiling.line = 0
    ∧ (enterFaulted c s).envelope.vperm = 0 := by
  rw [enterFaulted_eq]
  refine ⟨?_, enterState_line_of_not_running _ (by simp), by simp⟩
  rw [enterState_brakes_of_rest _ (by simp), allApplied_dropped]

theorem enterFaulted_tracker : (enterFaulted c s).tracker = { s.tracker with stillRef := none } := by
  rw [enterFaulted_eq, enterState_tracker_eq]
  simp [enterTracker, faultRecorded, enterEnvelope]

@[simp] theorem enterFaulted_received : (enterFaulted c s).access.received = s.access.received
    ∧ (enterFaulted c s).access.pendingAnnounce = true := by
  rw [enterFaulted_eq]
  simp [faultRecorded]

end

theorem appended_last {r : TripRecord} {s t : State} (grown : appended r s t = true) : t.trips.history.getLast? = some r := by
  simp only [appended, Bool.and_eq_true, beq_iff_eq] at grown
  simp [grown.1]

/-! ## Frame ends (R66, R77 to R80) -/

theorem exec_receiveOf (f : RxFrame) (k : FrameKind) :
    ∃ handOn, ∀ s, exec (receiveOf f k) s = act (receive k handOn f) s := by
  cases k with
  | beacon => exact ⟨takeBeacon, fun _ => rfl⟩
  | announce => exact ⟨takeAnnounce, fun _ => rfl⟩

theorem held_of_frameEnds {f : RxFrame} {s : State} (ends : frameEnds f s = true) : held s = false := by
  simp only [frameEnds, Bool.and_eq_true, Bool.not_eq_true'] at ends
  tauto

/-- The statement's end of a frame is the model's. -/
theorem frameEnds_eq (f : RxFrame) (s : State) : frameEnds f s = (!held s && endsWith f s) := by
  cases live : held s with
  | true => simp [frameEnds, live]
  | false =>
    cases ends : endsWith f s with
    | true =>
      simp only [endsWith, frameHasEnded, Config.frameEndIdle, Bool.and_eq_true, beq_iff_eq, Bool.not_eq_true',
        List.isEmpty_eq_false_iff] at ends
      obtain ⟨⟨idle, full⟩, same⟩ := ends
      subst same
      simp [frameEnds, live, of_decide_eq_true idle, full, gathered]
    | false =>
      by_contra other
      have all : frameEnds f s = true := by simpa [live] using other
      simp [endsWith_of_frameEnds all] at ends

theorem receive_of_not_ended {f : RxFrame} {k : FrameKind} {handOn : RxFrame → Profile → Entry → State → State} {s : State}
    (goesOn : endsWith f s = false) : receive k handOn f s = s := by
  simp [receive, goesOn]

theorem receive_of_starting {f : RxFrame} {k : FrameKind} {handOn : RxFrame → Profile → Entry → State → State} {s : State}
    (ends : endsWith f s = true) (starting : s.seq.state = .starting) : receive k handOn f s = frameEnded s := by
  simp [receive, ends, inState, starting, endFrame_eq_frameEnded]

theorem receive_of_own {f : RxFrame} {k : FrameKind} {handOn : RxFrame → Profile → Entry → State → State} {s : State}
    (ends : endsWith f s = true) (begun : s.seq.state ≠ .starting) (checked : wellChecked f = some k)
    (own : sourceId f.octets = ownId s) : receive k handOn f s = takeOwnId f s := by
  simp [receive, ends, inState, begun, checked, judgeFrame, own]

/-- The frame that ended was not empty. -/
theorem octets_of_endsWith {f : RxFrame} {s : State} (ends : endsWith f s = true) : f.octets ≠ [] := by
  simp only [endsWith, frameHasEnded, Bool.and_eq_true, beq_iff_eq, Bool.not_eq_true', List.isEmpty_eq_false_iff] at ends
  obtain ⟨⟨-, full⟩, same⟩ := ends
  rw [← same]
  exact full

theorem ownReadback_iff {f : RxFrame} {s : State} (full : f.octets ≠ []) :
    ownReadback s f = true ↔ s.access.sent = f.octets := by
  simp only [ownReadback, Bool.and_eq_true, beq_iff_eq, Bool.not_eq_true', List.isEmpty_eq_false_iff]
  exact ⟨fun both => both.2, fun same => ⟨by rw [same]; exact full, same⟩⟩

/-- What makes a frame fail the checks of reception (R77). -/
theorem wellChecked_of_bad {f : RxFrame}
    (bad : f.framingError = true ∨ f.overlong = true ∨ checkAgrees f.octets = false ∨ 7 < octetAt f.octets 0 % 16
      ∨ (octetAt f.octets 0 / 16 ≠ 1 ∧ octetAt f.octets 0 / 16 ≠ 2)
      ∨ (octetAt f.octets 0 / 16 = 1 ∧ f.octets.length ≠ 23) ∨ (octetAt f.octets 0 / 16 = 2 ∧ f.octets.length ≠ 9)) :
    wellChecked f = none := by
  unfold wellChecked
  rcases bad with framing | overlong | check | id | kind | beacon | announce
  · simp [framing]
  · simp [overlong]
  · simp [check]
  · have large : ¬ octetAt f.octets 0 % 16 ≤ 7 := by omega
    simp [large]
  · simp [kind.1, kind.2]
  · simp [beacon.1, beacon.2]
  · simp [announce.1, announce.2]

theorem discards_of_unchecked {f : RxFrame} {s : State} (bad : wellChecked f = none) : discards s f = true := by
  simp [discards, bad]

/-- Another node's frame that nothing takes (R78, R80). -/
theorem discards_of_foreign {f : RxFrame} {s : State} (foreign : sourceId f.octets ≠ ownId s)
    (untaken : s.loader.profile = none ∨ entryOf s (sourceId f.octets) = none
      ∨ (octetAt f.octets 0 / 16 = 1 ∧ s.loader.profile.all (fun p => (parseBeacon p.length p.wMax f.octets).isNone) = true)) :
    discards s f = true := by
  unfold discards
  cases checked : wellChecked f with
  | none => rfl
  | some k =>
    have away : (sourceId f.octets != ownId s) = true := by simpa using foreign
    simp only [away, Bool.true_and]
    cases loaded : s.loader.profile with
    | none => simp
    | some p =>
      cases listed : entryOf s (sourceId f.octets) with
      | none => simp
      | some e =>
        obtain ⟨kind, undefined⟩ : octetAt f.octets 0 / 16 = 1 ∧ (parseBeacon p.length p.wMax f.octets).isNone = true := by
          simpa [loaded, listed] using untaken
        have beacon : k = .beacon := by
          unfold wellChecked at checked
          split at checked
          · cases checked
          · split at checked
            · split at checked
              · exact (Option.some.inj checked).symm
              · simp [kind] at checked
            · cases checked
        simp [beacon, undefined]

theorem takeBadFrame_of_discarded {f : RxFrame} {s : State} (ends : endsWith f s = true)
    (discarded : s.seq.state = .starting ∨ discards s f = true) : takeBadFrame f s = frameEnded s := by
  have judged : (endsWith f s && (inState s .starting || discards s f)) = true := by
    rcases discarded with starting | discarded
    · simp [ends, inState, starting]
    · simp [ends, discarded]
  rw [takeBadFrame, if_pos judged, endFrame_eq_frameEnded]

theorem exec_receiver_of_held (c : Instr) {f : RxFrame} (blocks : c = .receiveBadFrame f ∨ ∃ k, c = receiveOf f k) {s : State} (heldOf : held s = true) :
    exec c s = .next s := by
  rcases blocks with rfl | ⟨k, rfl⟩
  · exact congrArg _ (if_pos heldOf)
  · cases k <;> exact congrArg _ (if_pos heldOf)

/-- Settles O41: frame ends that leave nothing, and the own id. -/
theorem frameEndsAreJudged : Obligations.FrameEndsAreJudged := by
  intro k f s
  obtain ⟨handOn, executes⟩ := exec_receiveOf f k
  refine ⟨fun goesOn => ?_, fun ends starting => ?_, fun ends bad => ?_, fun ends begun own checked => ?_⟩
  · by_cases live : held s = true
    · exact ⟨exec_receiver_of_held _ (.inl rfl) live, exec_receiver_of_held _ (.inr ⟨k, rfl⟩) live⟩
    · have liveOf : held s = false := by simpa using live
      have goesOnOf : endsWith f s = false := by simpa [frameEnds_eq, liveOf] using goesOn
      refine ⟨(live_of_not_held (takeBadFrame f) liveOf).trans (by simp [takeBadFrame, goesOnOf]), ?_⟩
      rw [executes, act_of_same liveOf (receive_of_not_ended goesOnOf)]
  · have live := held_of_frameEnds ends
    have result : receive k handOn f s = frameEnded s := receive_of_starting (endsWith_of_frameEnds ends) starting
    rw [executes]
    refine (act_of_state live ?_ ?_ ?_ ?_).trans (by rw [result])
    all_goals rw [result]; rfl
  · have live := held_of_frameEnds ends
    refine (live_of_not_held (takeBadFrame f) live).trans (congrArg _ ?_)
    refine takeBadFrame_of_discarded (endsWith_of_frameEnds ends) ?_
    rcases bad with framing | overlong | check | id | kind | beacon | announce | ⟨foreign, untaken⟩ | starting
    · exact .inr (discards_of_unchecked (wellChecked_of_bad (.inl framing)))
    · exact .inr (discards_of_unchecked (wellChecked_of_bad (.inr (.inl overlong))))
    · exact .inr (discards_of_unchecked (wellChecked_of_bad (.inr (.inr (.inl check)))))
    · exact .inr (discards_of_unchecked (wellChecked_of_bad (.inr (.inr (.inr (.inl id))))))
    · exact .inr (discards_of_unchecked (wellChecked_of_bad (.inr (.inr (.inr (.inr (.inl kind)))))))
    · exact .inr (discards_of_unchecked (wellChecked_of_bad (.inr (.inr (.inr (.inr (.inr (.inl beacon))))))))
    · exact .inr (discards_of_unchecked (wellChecked_of_bad (.inr (.inr (.inr (.inr (.inr (.inr announce))))))))
    · exact .inr (discards_of_foreign foreign untaken)
    · exact .inl starting
  · have live := held_of_frameEnds ends
    have ended := endsWith_of_frameEnds ends
    have result : receive k handOn f s = takeOwnId f s := receive_of_own ended begun checked own
    have readback := ownReadback_iff (s := s) (octets_of_endsWith ended)
    by_cases kept : s.access.sent = f.octets ∨ s.seq.state = .faulted
    · have silent : takeOwnId f s = frameEnded s := by
        rw [takeOwnId, if_pos ?_, endFrame_eq_frameEnded]
        rcases kept with sent | faulted
        · rw [readback.mpr sent, Bool.true_or]
        · simp [inState, faulted]
      refine ⟨frameEnded s, ?_, rfl, rfl, rfl, rfl, rfl, rfl, rfl, rfl, by rw [if_pos kept]⟩
      rw [executes]
      refine (act_of_state live ?_ ?_ ?_ ?_).trans (by rw [result, silent])
      all_goals rw [result, silent]; rfl
    · have clash : takeOwnId f s = enterFaulted .idClash (frameEnded s) := by
        rw [takeOwnId, if_neg ?_, endFrame_eq_frameEnded]
        simp only [inState, Bool.or_eq_true, beq_iff_eq, readback]
        exact kept
      obtain ⟨z, taken⟩ := act_clocked (receive k handOn f) live
      rw [result, clash] at taken
      obtain ⟨-, time, inputs, loader, peers, loop, port, -⟩ := enterFaulted_frame .idClash (frameEnded s)
      obtain ⟨received, announce⟩ := enterFaulted_received .idClash (frameEnded s)
      obtain ⟨state, cause⟩ := enterFaulted_seq .idClash (frameEnded s)
      obtain ⟨ownCauses, primary, origin, record⟩ := enterFaulted_trips .idClash (frameEnded s)
      obtain ⟨applied, line, vperm⟩ := enterFaulted_rest .idClash (frameEnded s)
      obtain ⟨buffer, sent, -⟩ := (received_iff _ _).mp received
      have last := appended_last record
      have clashed : (enterFaulted .idClash (frameEnded s)).seq.state = .faulted
          ∧ (enterFaulted .idClash (frameEnded s)).seq.faultCause = some .idClash
          ∧ (enterFaulted .idClash (frameEnded s)).trips.own = []
          ∧ (enterFaulted .idClash (frameEnded s)).trips.primary = none
          ∧ (enterFaulted .idClash (frameEnded s)).trips.origin = none :=
        ⟨state, cause, ownCauses, primary, origin⟩
      refine ⟨_, (executes s).trans taken, ?_⟩
      simp only [State.clocked_frame, if_neg kept, buffer, sent, peers, loader, inputs, time, loop, port, clashed, applied, line,
        vperm, announce, last]
      simp [frameEnded, faultRecord, tripRecord, inState]

end Sys2Proof.Machine
end

section
/-! PROOF. The exit of a node whose load failed, and the ANNOUNCE (R15, R90, R91, R173). -/

namespace Sys2Proof.Machine

/-! ## The exit to FAULTED (R15) -/

theorem beginBeacons_eq (s : State) :
    ∃ tx, beginBeacons s =
      { s with
        access := { s.access with
          tx := tx, lastAttempt := some s.time.now, beaconDue := some s.time.now, pendingBeacon := true } } := by
  unfold beginBeacons wakeTransmitter
  split
  · exact ⟨_, rfl⟩
  · exact ⟨s.access.tx, rfl⟩

/-- In FAULTED the ESTOP input changes its own level alone (R167). -/
theorem assertEstop_of_faulted {s : State} (faulted : s.seq.state = .faulted) :
    ∃ e, assertEstop s = { s with trips := { s.trips with estop := e } } := by
  unfold assertEstop
  split
  · have sleeps : wakes { s with trips.estop := true } = false := by simp [wakes, inState, faulted]
    rw [wakeEvent_of_not_wakes sleeps, raiseCause_of_not_inService (by simp [inService, inState, faulted])]
    exact ⟨true, rfl⟩
  · exact ⟨s.trips.estop, rfl⟩

/-- The state in which the exit is judged: the sample tick is taken. -/
def State.exiting (s : State) : State := { s with time := { s.time with sampleDue := false } }

/-- The exit after the node state has been entered, at a role without work of its own there. -/
def exited (s : State) : State := assertEstop (beginBeacons (takeInputs s))

theorem leaveStarting_of_failed {c : Cause} {s : State} (starting : s.seq.state = .starting)
    (due : s.time.sampleDue = true) (ended : s.loader.stage = .ended) (failed : s.loader.profile = none)
    (cause : faultOf s.loader.outcome = some c) : leaveStarting s = exited (enterFaulted c s.exiting) := by
  simp [leaveStarting, exited, State.exiting, inState, starting, due, ended, failed, cause]

/-- In FAULTED the exit takes the levels and begins the beacon schedule. -/
theorem exited_of_faulted {s : State} (faulted : s.seq.state = .faulted) : ∃ i a e, exited s =
    { s with inputs := i, access := a, trips := { s.trips with estop := e } }
    ∧ a.pendingBeacon = true ∧ a.pendingAnnounce = s.access.pendingAnnounce := by
  obtain ⟨tx, begun⟩ := beginBeacons_eq (takeInputs s)
  have faultedOf : (beginBeacons (takeInputs s)).seq.state = .faulted := by
    rw [begun]
    exact faulted
  obtain ⟨e, asserted⟩ := assertEstop_of_faulted faultedOf
  refine ⟨(takeInputs s).inputs, { s.access with
    tx := tx, lastAttempt := some s.time.now, beaconDue := some s.time.now, pendingBeacon := true }, e, ?_, rfl, rfl⟩
  rw [exited, asserted, begun]
  rfl

/-- The record of a node with no profile shows position 0, or none without an encoder, and quality NONE (R38, R174). -/
theorem faultRecord_of_failed (c : Cause) {s : State} (starting : s.seq.state = .starting) (failed : s.loader.profile = none) :
    faultRecord c s.exiting =
      { firstRecord c none s with position := if hasEncoder s then some 0 else none, quality := .none } := by
  simp [faultRecord, tripRecord, firstRecord, State.exiting, shownPosition, shownQuality, shownSpeed, shownMotion, inState,
    starting, failed, hasEncoder, isDrive, isCar, role]

theorem faultOf_of_outcome {o : LoadOutcome} {c : Cause}
    (failed : (o = .profileAbsent ∧ c = .profileAbsent) ∨ (o = .profileCheck ∧ c = .profileCheck)
      ∨ (o = .profileContent ∧ c = .profileContent) ∨ (o = .roleMismatch ∧ c = .roleMismatch)) : faultOf o = some c := by
  rcases failed with ⟨rfl, rfl⟩ | ⟨rfl, rfl⟩ | ⟨rfl, rfl⟩ | ⟨rfl, rfl⟩ <;> rfl

theorem alertOut_of_no_profile {s : State} (live : held s = false) (none : s.loader.profile = none)
    (faulted : s.seq.state = .faulted) : alertOut s = true := by
  simp [alertOut, live, none, inState, faulted]

theorem enterFaulted_of_exiting (c : Cause) (s : State) :
    (enterFaulted c s.exiting).power = s.power ∧ (enterFaulted c s.exiting).time = { s.time with sampleDue := false }
      ∧ (enterFaulted c s.exiting).loader = s.loader ∧ (enterFaulted c s.exiting).peers = s.peers
      ∧ (enterFaulted c s.exiting).loop = s.loop ∧ (enterFaulted c s.exiting).port = s.port
      ∧ (enterFaulted c s.exiting).tracker = { s.tracker with stillRef := none } := by
  obtain ⟨power, time, -, loader, peers, loop, port, -⟩ := enterFaulted_frame c s.exiting
  exact ⟨power, time, loader, peers, loop, port, enterFaulted_tracker c s.exiting⟩

/-- Settles O12: the exit enters FAULTED with the cause of the outcome. -/
theorem failedLoadFaults : Obligations.FailedLoadFaults := by
  intro o c s live starting due ended failed outcome causes
  obtain ⟨z, taken⟩ := act_clocked leaveStarting live
  have cause : faultOf s.loader.outcome = some c := by rw [outcome, faultOf_of_outcome causes]
  rw [leaveStarting_of_failed starting due ended failed cause] at taken
  obtain ⟨power, time, loader, peers, loop, port, tracker⟩ := enterFaulted_of_exiting c s
  obtain ⟨state, shown⟩ := enterFaulted_seq c s.exiting
  obtain ⟨own, primary, origin, record⟩ := enterFaulted_trips c s.exiting
  obtain ⟨applied, line, vperm⟩ := enterFaulted_rest c s.exiting
  have owed := (enterFaulted_received c s.exiting).2
  rw [faultRecord_of_failed c starting failed] at record
  generalize enterFaulted c s.exiting = v at *
  obtain ⟨i, a, e, result, beacon, announce⟩ := exited_of_faulted state
  rw [result] at taken
  refine ⟨_, taken, state, shown, own, primary, origin, record, applied, line, vperm, announce.trans owed, beacon,
    alertOut_of_no_profile ?_ ?_ state, power, loader, peers, loop, port, tracker, time⟩
  · rw [← live, held, held]
    exact congrArg (fun x => x.hold.isSome) power
  · rw [← failed]
    exact congrArg Loader.profile loader

/-! ## The receiver's part through the blocks that a frame reaches -/

@[simp] theorem leaveArmed_received (s : State) : (leaveArmed s).access.received = s.access.received :=
  (enterState_received _ s).1

@[simp] theorem judgeConsent_received (s : State) : (judgeConsent s).access.received = s.access.received := by
  unfold judgeConsent
  split <;> simp

@[simp] theorem sequencerSignal_received (e : Entry) (s : State) :
    (sequencerSignal e s).access.received = s.access.received := by
  unfold sequencerSignal
  dsimp only
  split <;> simp

@[simp] theorem judgeClear_received (s : State) :
    (judgeClear s).access.received = s.access.received
      ∧ (judgeClear s).access.pendingAnnounce = s.access.pendingAnnounce := by
  unfold judgeClear
  dsimp only
  split
  · split <;> simp
  · exact ⟨rfl, rfl⟩

@[simp] theorem judgeInitiator_received (s : State) :
    (judgeInitiator s).access.received = s.access.received
      ∧ (judgeInitiator s).access.pendingAnnounce = s.access.pendingAnnounce := by
  unfold judgeInitiator commit
  split
  · split
    · simp
    · split <;> simp
  · exact ⟨rfl, rfl⟩

@[simp] theorem classSignal_received (s : State) :
    (classSignal s).access.received = s.access.received
      ∧ (classSignal s).access.pendingAnnounce = s.access.pendingAnnounce := by
  unfold classSignal
  split <;> simp

@[simp] theorem changeSignal_received (e : Entry) (b : Bool) (s : State) :
    (changeSignal e b s).access.received = s.access.received := by
  simp [changeSignal]

/-! ## An accepted ANNOUNCE (R90, R91) -/

/-- The entry after an ANNOUNCE. -/
def announcedEntry (n : SeqNo) (a : AnnounceFrame) (p : Profile) (e : Entry) (s : State) : Entry :=
  { e with lastSeq := some n, announce := some a.held, verif := verdict s p e a }

/-- Beside its entry an ANNOUNCE brings, where the verdict changes, the change signal (R94). -/
theorem acceptAnnounce_eq (n : SeqNo) (a : AnnounceFrame) (p : Profile) (e : Entry) (s : State) :
    acceptAnnounce n a p e s = putEntry (announcedEntry n a p e s) s
      ∨ ∃ b, acceptAnnounce n a p e s = changeSignal (announcedEntry n a p e s) b (putEntry (announcedEntry n a p e s) s) := by
  unfold acceptAnnounce
  dsimp only
  split
  · exact .inl rfl
  · exact .inr ⟨_, rfl⟩

/-- The five comparisons of R91. -/
theorem verdict_eq (s : State) (p : Profile) (e : Entry) (a : AnnounceFrame) :
    verdict s p e a =
      if a.held.fingerprint = s.loader.fingerprint ∧ a.held.revision = s.loader.revision
        ∧ a.held.count = p.nodes.length ∧ a.role = e.role ∧ a.side = e.side then .matched else .mismatched := by
  unfold verdict
  refine if_congr ?_ rfl rfl
  simp [and_assoc]

theorem acceptAnnounce_peers (n : SeqNo) (a : AnnounceFrame) (p : Profile) (e : Entry) (s : State) :
    (acceptAnnounce n a p e s).peers =
      s.peers.map fun x => if x.id = e.id then announcedEntry n a p e s else x := by
  obtain same | ⟨b, signalled⟩ := acceptAnnounce_eq n a p e s
  · rw [same, putEntry_peers]
    simp [announcedEntry]
  · rw [signalled, (changeSignal_frame _ _ _).2.2.2.2.1, putEntry_peers]
    simp [announcedEntry]

theorem acceptAnnounce_keeps (n : SeqNo) (a : AnnounceFrame) (p : Profile) (e : Entry) (s : State) :
    (acceptAnnounce n a p e s).access.received = s.access.received
      ∧ (acceptAnnounce n a p e s).trips.own = s.trips.own
      ∧ (acceptAnnounce n a p e s).trips.history = s.trips.history := by
  obtain same | ⟨b, signalled⟩ := acceptAnnounce_eq n a p e s
  · rw [same]
    exact ⟨rfl, rfl, rfl⟩
  · rw [signalled]
    simp

/-- Settles O44: the entry takes the ANNOUNCE and its verdict. -/
theorem announceGivesTheVerdict : Obligations.AnnounceGivesTheVerdict := by
  intro f e p a s framedOf loaded parsed
  have live := held_of_framed framedOf
  obtain ⟨z, taken⟩ := act_clocked (receive .announce takeAnnounce f) live
  rw [receive_of_framed takeAnnounce framedOf loaded, takeAnnounce, parsed] at taken
  obtain ⟨power, time, inputs, loader, loop, port, -⟩ := acceptAnnounce_frame (frameSeq f.octets) a p e (endFrame s)
  obtain ⟨received, own, history⟩ := acceptAnnounce_keeps (frameSeq f.octets) a p e (endFrame s)
  obtain ⟨buffer, -⟩ := (received_iff _ _).mp received
  have peers := acceptAnnounce_peers (frameSeq f.octets) a p e (endFrame s)
  refine ⟨_, taken, ?_⟩
  simp only [State.clocked_frame, power, time, inputs, loader, loop, port, own, history, buffer, peers, announcedEntry,
    verdict_eq]
  exact ⟨rfl, rfl, rfl, rfl, rfl, rfl, rfl, rfl, rfl, rfl⟩

end Sys2Proof.Machine
end

section
/-! PROOF. A beacon that moves its entry from STALE can take a CAR out of DWELL and back into it: the change signal finds the
stand-down's last ACK and commits, and the WAKE flag of the same beacon stands the node up, at which MISALIGNED is judged
anew (R94, R141, R182, R185). -/

namespace Sys2Proof.Machine

/-! ## The line of the counterexample -/

/-- A profile of a line with a DRIVE and two cars, car A's lower stop at 500. -/
def shortLine : Profile where
  revision := 1
  length := 140000
  vLineMax := 1000
  vCrawl := 100
  vCreep := 40
  vStaleCap := 500
  bRate := 120
  bFloor := 40
  dMargin := 300
  wStop := 15
  wMark := 60
  wDet := 400
  dAgree := 150
  sStretch := 40
  dStill := 50
  rRope := 180
  wMax := 8000
  tInt := 20
  tTrip := 60
  cpmSheave := 1000
  cpmOdo := 1000
  invertSheave := false
  invertOdoA := false
  invertOdoB := false
  loadOffset := 200
  loadScale := 5
  liftSB := .feedback
  liftEB := .feedback
  liftTB := .feedback
  tArm := 15
  tStill := 5
  tDeep := 1
  tSd := 30
  alert := .level
  nodes := [⟨0, .drive, .a, true, false⟩, ⟨2, .car, .a, true, true⟩, ⟨3, .car, .b, true, false⟩]
  segments := [⟨0, 400, 10⟩]
  stopsA := [⟨500, 0⟩, ⟨139500, 0⟩]
  stopsB := [⟨500, 0⟩, ⟨139500, 0⟩]
  markersA := []
  markersB := []
  detALow := 0
  detAUp := 0
  detBLow := 0
  detBUp := 0

/-- The DRIVE in DWELL, which acks the stand-down of node 2 and shows WAKE. -/
def wakingAck : BeaconRec where
  state := .dwell
  cls := .still
  wake := true
  annReq := false
  run := 1
  dir := .none
  leg := none
  dispatch := false
  consent := false
  recovery := false
  sdCode := .ack
  sdId := 2
  position := none
  quality := .none
  motion := .stopped
  occA := .clear
  occB := .clear
  speed := none
  vperm := 0
  load := none
  cause := none
  overhaul := false
  atMark := false
  misaligned := false
  disagree := false
  doorsShut := false
  brakesLifted := false
  gateOpen := false
  commsStop := false
  origin := none

/-- The DRIVE's entry, STALE, with the ACK that it has shown. -/
def staleDrive : Entry where
  id := 0
  role := .drive
  side := .a
  fresh := .stale
  verif := .matched
  age := 700
  cls := some .still
  lastSeq := some 5
  beacon := some { wakingAck with wake := false }
  announce := none
  owed := false

/-- The DRIVE's next beacon as car A receives it. -/
def wakingFrame : RxFrame := ⟨beaconFrame 0 6 wakingAck, false, false⟩

/-- Car A, MISALIGNED in DWELL within W_stop of its lower stop, which initiates a stand-down and has just received that
beacon. -/
def misalignedInitiator : State :=
  { State.reset with
    time.now := 100000
    access.idleCount := 20
    access.rxBuffer := wakingFrame.octets
    loader.straps := ⟨.car, .a, 2⟩
    loader.stage := .ended
    loader.outcome := .loaded
    loader.revision := 1
    loader.profile := some shortLine
    peers := [staleDrive]
    tracker.counts := 5000
    tracker.quality := .marked
    tracker.history := List.replicate 50 ⟨0, 0⟩
    seq.state := .dwell
    seq.run := 1
    seq.misaligned := true
    cls.cls := .still
    cls.clock := some 99000
    cls.sdRole := .initiating
    cls.sdId := some 2
    cls.sdDeadline := some 120000 }

/-- The state is one that the invariants allow. -/
theorem misalignedInitiator_sound : (gatesHold misalignedInitiator && classHolds misalignedInitiator
    && recordsHold misalignedInitiator) = true := by decide +kernel

theorem wakingFrame_accepted : framed .beacon wakingFrame staleDrive misalignedInitiator = true
    ∧ parseBeacon shortLine.length shortLine.wMax wakingFrame.octets = some wakingAck
    ∧ sequenceAccepts staleDrive (frameSeq wakingFrame.octets) = true := by decide +kernel

/-- The beacon takes the car into NIGHT and back into DWELL, where it is no longer MISALIGNED. -/
theorem wakingFrame_realigns :
    (settleSpell misalignedInitiator (receive .beacon takeBeacon wakingFrame misalignedInitiator)).seq.state = .dwell
      ∧ (settleSpell misalignedInitiator (receive .beacon takeBeacon wakingFrame misalignedInitiator)).seq.misaligned
        = false := by decide +kernel

/-- Refutes O42: a car that stays in DWELL need not keep MISALIGNED, where the change signal of the same beacon has committed
its stand-down before the WAKE flag stands it up. -/
theorem not_acceptedBeaconRenewsItsEntry : ¬ Obligations.AcceptedBeaconRenewsItsEntry := by
  intro renews
  obtain ⟨accepted, parsed, newer⟩ := wakingFrame_accepted
  obtain ⟨t, taken, -, -, -, -, -, door, -⟩ :=
    renews wakingFrame staleDrive shortLine wakingAck false misalignedInitiator accepted rfl parsed newer rfl
  obtain ⟨state, misaligned⟩ := wakingFrame_realigns
  have executed : exec (.receiveBeacon wakingFrame) misalignedInitiator
      = .next (settleSpell misalignedInitiator (receive .beacon takeBeacon wakingFrame misalignedInitiator)) :=
    act_of_not_held _ (held_of_framed accepted)
  obtain rfl : settleSpell misalignedInitiator (receive .beacon takeBeacon wakingFrame misalignedInitiator) = t := by
    simpa [executed] using taken
  have kept := (door rfl rfl state).1
  rw [misaligned] at kept
  cases kept

end Sys2Proof.Machine
end

section
/-! PROOF. What a beacon from a FRESH peer does at each block in its order (R89, R107, R129 to R141, R169, R181 to R188). -/

namespace Sys2Proof.Machine

/-! ## The state in which the acceptance event runs -/

theorem acceptedFresh_iff (f : RxFrame) (e : Entry) (p : Profile) (r : BeaconRec) (s : State) :
    acceptedFresh f e p r s = true ↔ framed .beacon f e s = true ∧ s.loader.profile = some p
      ∧ parseBeacon p.length p.wMax f.octets = some r ∧ sequenceAccepts e (frameSeq f.octets) = true
      ∧ e.fresh = .fresh := by
  simp [acceptedFresh, and_assoc]

/-- The state with the entry of an accepted BEACON renewed and the Line Access Unit at `a`. -/
def heardAt (f : RxFrame) (e : Entry) (r : BeaconRec) (a : LineAccess) (s : State) : State :=
  { renewed f e r s with access := a }

@[simp] theorem heardAt_frame (f : RxFrame) (e : Entry) (r : BeaconRec) (a : LineAccess) (s : State) :
    (heardAt f e r a s).power = s.power ∧ (heardAt f e r a s).time = s.time ∧ (heardAt f e r a s).inputs = s.inputs
      ∧ (heardAt f e r a s).loader = s.loader ∧ (heardAt f e r a s).access = a
      ∧ (heardAt f e r a s).peers = (renewed f e r s).peers ∧ (heardAt f e r a s).tracker = s.tracker
      ∧ (heardAt f e r a s).envelope = s.envelope ∧ (heardAt f e r a s).ceiling = s.ceiling
      ∧ (heardAt f e r a s).generator = s.generator ∧ (heardAt f e r a s).seq = s.seq
      ∧ (heardAt f e r a s).loop = s.loop ∧ (heardAt f e r a s).brakes = s.brakes
      ∧ (heardAt f e r a s).trips = s.trips ∧ (heardAt f e r a s).cls = s.cls ∧ (heardAt f e r a s).port = s.port
      ∧ (heardAt f e r a s).pending = s.pending :=
  ⟨rfl, rfl, rfl, rfl, rfl, rfl, rfl, rfl, rfl, rfl, rfl, rfl, rfl, rfl, rfl, rfl, rfl⟩

theorem requestAnnounce_access (s : State) : ∃ a, requestAnnounce s = { s with access := a } := by
  unfold requestAnnounce wakeTransmitter
  split <;> exact ⟨_, rfl⟩

theorem honour_access (s : State) : ∃ a, honour s = { s with access := a } := by
  unfold honour
  split
  · exact ⟨s.access, rfl⟩
  · split
    · obtain ⟨a, same⟩ := requestAnnounce_access { s with access.lastHonoured := some s.time.now }
      exact ⟨a, same⟩
    · exact ⟨s.access, rfl⟩

theorem putEntry_endFrame (f : RxFrame) (e : Entry) (r : BeaconRec) (s : State) :
    putEntry (beaconEntry (frameSeq f.octets) r e) (endFrame s) = heardAt f e r (endFrame s).access s := by
  simp only [putEntry, heardAt, renewed, beaconEntry, endFrame, beq_iff_eq]

/-- A beacon from a FRESH peer: its entry, the request, and the acceptance event (R87, R89). -/
theorem acceptBeacon_of_fresh {f : RxFrame} {e : Entry} {r : BeaconRec} (s : State) (fresh : e.fresh = .fresh) :
    ∃ a, acceptBeacon (frameSeq f.octets) r e (endFrame s) =
      acceptanceEvent s.ceiling.line (beaconEntry (frameSeq f.octets) r e) r (heardAt f e r a s) := by
  have stays : returns e = false := by simp [returns, fresh]
  unfold acceptBeacon
  simp only [stays, Bool.false_eq_true, if_false, fresh, beq_self_eq_true, if_true, putEntry_endFrame]
  split
  · obtain ⟨a, honoured⟩ := honour_access (heardAt f e r (endFrame s).access s)
    exact ⟨a, by rw [honoured]; rfl⟩
  · exact ⟨(endFrame s).access, rfl⟩

theorem exec_of_acceptedFresh {f : RxFrame} {e : Entry} {p : Profile} {r : BeaconRec} {s : State}
    (accepted : acceptedFresh f e p r s = true) :
    ∃ a z, exec (.receiveBeacon f) s = .next
      ((acceptanceEvent s.ceiling.line (beaconEntry (frameSeq f.octets) r e) r (heardAt f e r a s)).clocked z) := by
  obtain ⟨framedOf, loaded, parsed, newer, fresh⟩ := (acceptedFresh_iff f e p r s).mp accepted
  obtain ⟨z, taken⟩ := act_clocked (receive .beacon takeBeacon f) (held_of_framed framedOf)
  obtain ⟨a, event⟩ := acceptBeacon_of_fresh (f := f) (r := r) s fresh
  rw [receive_of_framed takeBeacon framedOf loaded, takeBeacon_of_parsed e (endFrame s) parsed, if_pos newer, event] at taken
  exact ⟨a, z, taken⟩

/-! ## The Trip Unit at a beacon that shows no trip (R168, R169) -/

theorem judgeClear_of_not_tripped {s : State} (other : s.seq.state ≠ .tripped) :
    ∃ o, judgeClear s = { s with trips := { s.trips with origin := o } } := by
  unfold judgeClear
  dsimp only
  split
  · rw [if_neg (by simp [inState, other])]
    exact ⟨none, rfl⟩
  · exact ⟨s.trips.origin, rfl⟩

theorem tripBeacon_of_no_trip {e : Entry} {r : BeaconRec} (s : State) (quiet : r.state ≠ .tripped) :
    tripBeacon e r s = judgeClear s := by
  simp [tripBeacon, quiet]

/-! ## What the Class Controller's own work moves (R177 to R188) -/

/-- Nothing but the Line Access Unit and the Class Controller has moved, and a beacon asked for stays asked for. -/
structure ClassMoved (s t : State) : Prop where
  rest : ∃ a c, t = { s with access := a, cls := c }
  asked : beaconAsked s = true → beaconAsked t = true

theorem ClassMoved.refl (s : State) : ClassMoved s s := ⟨⟨s.access, s.cls, rfl⟩, id⟩

theorem ClassMoved.trans {s t u : State} (first : ClassMoved s t) (second : ClassMoved t u) : ClassMoved s u := by
  obtain ⟨a, c, rfl⟩ := first.rest
  obtain ⟨b, d, rfl⟩ := second.rest
  exact ⟨⟨b, d, rfl⟩, fun asked => second.asked (first.asked asked)⟩

theorem classMoved_of_frame {s t : State} (frame : t.power = s.power ∧ t.time = s.time ∧ t.inputs = s.inputs
      ∧ t.loader = s.loader ∧ t.peers = s.peers ∧ t.tracker = s.tracker ∧ t.envelope = s.envelope ∧ t.ceiling = s.ceiling
      ∧ t.generator = s.generator ∧ t.seq = s.seq ∧ t.loop = s.loop ∧ t.brakes = s.brakes ∧ t.trips = s.trips
      ∧ t.port = s.port ∧ t.pending = s.pending) (asked : beaconAsked s = true → beaconAsked t = true) : ClassMoved s t := by
  obtain ⟨power, time, inputs, loader, peers, tracker, envelope, ceiling, generator, seq, loop, brakes, trips, port, pending⟩ :=
    frame
  refine ⟨⟨t.access, t.cls, ?_⟩, asked⟩
  apply State.eq_of_fields <;> simp_all

theorem classMoved_setClass (c : BeaconClass) (s : State) : ClassMoved s (setClass c s) :=
  classMoved_of_frame (by simp) beaconAsked_setClass_of_asked

theorem classMoved_endStandDown (o : StandDownOutcome) (s : State) : ClassMoved s (endStandDown o s) :=
  classMoved_of_frame (by simp) beaconAsked_endStandDown

theorem classMoved_restartSpell (s : State) : ClassMoved s (restartSpell s) :=
  classMoved_of_frame (by simp) fun asked => (beaconAsked_congr (by simp)).trans asked

/-- Outside NIGHT an accepted WAKE is the Class Controller's own work (R181). -/
theorem takeWake_of_awake {s : State} (awake : s.seq.state ≠ .night) :
    takeWake s = endStandDown .cancelled (restartSpell (setClass .run s)) := by
  simp [takeWake, inState, awake]

theorem classMoved_takeWake {s : State} (awake : s.seq.state ≠ .night) : ClassMoved s (takeWake s) := by
  rw [takeWake_of_awake awake]
  exact (classMoved_setClass _ s).trans ((classMoved_restartSpell _).trans (classMoved_endStandDown _ _))

theorem takeWake_cls (s : State) : (takeWake s).cls.cls = .run ∧ (takeWake s).cls.sdRole = .none := by
  simp [takeWake]

theorem classMoved_wakeHeard {r : BeaconRec} {s : State} (awake : s.seq.state ≠ .night) : ClassMoved s (wakeHeard r s) := by
  unfold wakeHeard
  split
  · exact classMoved_takeWake awake
  · exact .refl s

theorem wakeHeard_sdRole {r : BeaconRec} {s : State} (noPart : s.cls.sdRole = .none) :
    (wakeHeard r s).cls.sdRole = .none := by
  unfold wakeHeard
  split
  · exact (takeWake_cls s).2
  · exact noPart

theorem classMoved_answer (src : NodeId) (p : Profile) (s : State) : ClassMoved s (answer src p s) :=
  classMoved_of_frame (by simp) fun _ => beaconAsked_requestBeacon _

/-- A node without a part answers a REQUEST where it may, and nothing else (R186). -/
theorem requestHeard_of_none {e : Entry} {r : BeaconRec} {s : State} (noPart : s.cls.sdRole = .none) :
    requestHeard e r s = s ∨ ∃ p, r.sdCode = .request ∧ ownField e r = true ∧ s.seq.state = .dwell
      ∧ requestHeard e r s = answer e.id p s := by
  unfold requestHeard
  split
  · exact .inl rfl
  · next p loaded =>
    split
    · next request =>
      simp only [Bool.and_eq_true, beq_iff_eq] at request
      rw [takeRequest, noPart]
      dsimp only
      split
      · next may =>
        have dwells : s.seq.state = .dwell := by
          simp only [mayAnswer, Bool.and_eq_true, inState, beq_iff_eq] at may
          exact may.1
        exact .inr ⟨p, request.1, request.2, dwells, rfl⟩
      · exact .inl rfl
    · exact .inl rfl

theorem judgeAcker_of_not_acking {e : Entry} {r : BeaconRec} {s : State} (other : s.cls.sdRole ≠ .acking) :
    judgeAcker e r s = s := by
  simp [judgeAcker, other]

/-- An acker waits on its initiator's REQUEST (R188). -/
theorem judgeAcker_of_request {e : Entry} {r : BeaconRec} (s : State) (awake : r.state ≠ .night)
    (request : r.sdCode = .request) (own : ownField e r = true) : judgeAcker e r s = s := by
  simp [judgeAcker, awake, request, own]

theorem judgeInitiator_of_other {s : State} (other : s.cls.sdRole ≠ .initiating) : judgeInitiator s = s := by
  simp [judgeInitiator, other]

/-- At a node without a part, out of NIGHT, a beacon leads to no entry, unless it shows NIGHT in DWELL (R181, R186). -/
theorem classMoved_classBeacon {e : Entry} {r : BeaconRec} {s : State} (noPart : s.cls.sdRole = .none)
    (awake : s.seq.state ≠ .night) (shows : r.state = .night → s.seq.state ≠ .dwell) : ClassMoved s (classBeacon e r s) := by
  rw [classBeacon_eq]
  split
  · have woken := classMoved_wakeHeard (r := r) awake
    have part := wakeHeard_sdRole (r := r) noPart
    obtain ⟨a, c, moved⟩ := woken.rest
    have seq : (wakeHeard r s).seq = s.seq := by rw [moved]
    obtain same | ⟨p, request, own, dwells, answered⟩ := requestHeard_of_none (e := e) (r := r) part
    · rw [same, judgeAcker_of_not_acking (by simp [part]), judgeInitiator_of_other (by simp [part])]
      exact woken
    · have silent : r.state ≠ .night := fun night => shows night (by rw [← seq]; exact dwells)
      rw [answered, judgeAcker_of_request _ silent request own, judgeInitiator_of_other (by simp [answer])]
      exact woken.trans (classMoved_answer _ _ _)
  · exact .refl s

/-- Beside a held origin, the Trip Unit and the Class Controller of a node without a part, out of TRIPPED and NIGHT, move
nothing of their own accord but the class. -/
theorem tripAndClass_of_no_part {e : Entry} {r : BeaconRec} {s : State} (noPart : s.cls.sdRole = .none)
    (awake : s.seq.state ≠ .night) (runs : s.seq.state ≠ .tripped) (shows : r.state = .night → s.seq.state ≠ .dwell)
    (quiet : r.state ≠ .tripped) :
    ∃ o, ClassMoved { s with trips := { s.trips with origin := o } } (classBeacon e r (tripBeacon e r s)) := by
  obtain ⟨o, cleared⟩ := judgeClear_of_not_tripped runs
  refine ⟨o, ?_⟩
  rw [tripBeacon_of_no_trip s quiet, cleared]
  exact classMoved_classBeacon noPart awake shows

end Sys2Proof.Machine
end

section
/-! PROOF. A beacon at a node in RUNNING: the line ceiling lowered, and a comms stop begun (R104 to R109, R118). -/

namespace Sys2Proof.Machine

/-! ## What the acceptance event leaves where no entry follows the Run Sequencer's -/

/-- The state `w` of the Run Sequencer's work is kept but for the trip origin, the Line Access Unit and the class. -/
structure RunKept (w t : State) : Prop where
  rest : ∃ o a c, t = { w with trips := { w.trips with origin := o }, access := a, cls := c }
  asked : beaconAsked w = true → beaconAsked t = true

theorem runKept_of_classMoved {o : Option (NodeId × Cause)} {w t : State}
    (moved : ClassMoved { w with trips := { w.trips with origin := o } } t) : RunKept w t := by
  obtain ⟨⟨a, c, rfl⟩, asked⟩ := moved
  exact ⟨⟨o, a, c, rfl⟩, asked⟩

theorem RunKept.kept {w t : State} (k : RunKept w t) :
    t.power = w.power ∧ t.time = w.time ∧ t.inputs = w.inputs ∧ t.loader = w.loader ∧ t.peers = w.peers
      ∧ t.tracker = w.tracker ∧ t.envelope = w.envelope ∧ t.ceiling = w.ceiling ∧ t.generator = w.generator
      ∧ t.seq = w.seq ∧ t.loop = w.loop ∧ t.brakes = w.brakes ∧ t.port = w.port := by
  obtain ⟨o, a, c, rfl⟩ := k.rest
  exact ⟨rfl, rfl, rfl, rfl, rfl, rfl, rfl, rfl, rfl, rfl, rfl, rfl, rfl⟩

/-- The acceptance event after the Run Sequencer's work has led to a state without a part, out of TRIPPED and NIGHT. -/
theorem acceptanceEvent_runKept {v : Nat} {e : Entry} {r : BeaconRec} {u w : State}
    (named : sequencerBeacon e r (ceilingBeacon v e r u) = w) (noPart : w.cls.sdRole = .none)
    (awake : w.seq.state ≠ .night) (runs : w.seq.state ≠ .tripped) (shows : r.state = .night → w.seq.state ≠ .dwell)
    (quiet : r.state ≠ .tripped) : RunKept w (acceptanceEvent v e r u) := by
  obtain ⟨o, moved⟩ := tripAndClass_of_no_part (e := e) (r := r) noPart awake runs shows quiet
  rw [← named] at moved ⊢
  exact runKept_of_classMoved moved

theorem sdRole_of_partFits {s : State} (fits : partFits s = true) (other : s.seq.state ≠ .dwell) :
    s.cls.sdRole = .none := by
  simpa [partFits, inState, other] using fits

/-! ## The Ceiling and Supervision Unit at a beacon (R107 to R109) -/

/-- The ceiling lowered to a MATCHED peer's vperm (R107). -/
def loweredBy (e : Entry) (r : BeaconRec) (s : State) : State :=
  if e.verif == .matched && decide (r.vperm < s.ceiling.line) then setLine r.vperm s else s

theorem ceilingBeacon_of_running {v : Nat} {e : Entry} {r : BeaconRec} {s : State} (running : s.seq.state = .running) :
    ceilingBeacon v e r s =
      if r.commsStop = true ∧ r.run = s.seq.run then startCommsStop v (loweredBy e r s) else loweredBy e r s := by
  have run : (loweredBy e r s).seq.run = s.seq.run := by
    unfold loweredBy
    split <;> simp
  unfold ceilingBeacon
  rw [if_pos (by simp [inState, running])]
  dsimp only
  refine if_congr ?_ rfl rfl
  rw [Bool.and_eq_true, beq_iff_eq]
  exact and_congr_right fun _ => by rw [← run]; rfl

theorem ceilingBeacon_of_other {v : Nat} {e : Entry} {r : BeaconRec} {s : State} (other : s.seq.state ≠ .running) :
    ceilingBeacon v e r s = s := by
  simp [ceilingBeacon, inState, other]

theorem loweredBy_line (e : Entry) (r : BeaconRec) (s : State) :
    (loweredBy e r s).ceiling.line = if e.verif = .matched ∧ r.vperm < s.ceiling.line then r.vperm else s.ceiling.line := by
  unfold loweredBy
  rw [apply_ite (fun t : State => t.ceiling.line), setLine_line]
  exact if_congr (by simp) rfl rfl

theorem loweredBy_frame (e : Entry) (r : BeaconRec) (s : State) :
    (loweredBy e r s).seq = s.seq ∧ (loweredBy e r s).loader = s.loader ∧ (loweredBy e r s).peers = s.peers
      ∧ (loweredBy e r s).ceiling.comms = s.ceiling.comms ∧ (loweredBy e r s).envelope = s.envelope
      ∧ (loweredBy e r s).time = s.time := by
  unfold loweredBy
  split <;> simp

/-- A line ceiling of 0 leaves no period of the output (R118). -/
def silentAtZero (s : State) : Prop := s.ceiling.line = 0 → s.generator = Generator.stopped

theorem silentAtZero_setLine {v : Nat} {s : State} (silent : silentAtZero s) : silentAtZero (setLine v s) := by
  intro zero
  rw [setLine_line] at zero
  rw [setLine_generator]
  by_cases same : s.ceiling.line = v
  · rw [if_neg (by simp [same])]
    exact silent (same.trans zero)
  · rw [if_pos ⟨same, zero⟩]

theorem silentAtZero_ceilingBeacon {v : Nat} {e : Entry} {r : BeaconRec} {s : State} (silent : silentAtZero s) :
    silentAtZero (ceilingBeacon v e r s) := by
  have lowered : silentAtZero (loweredBy e r s) := by
    unfold loweredBy
    split
    · exact silentAtZero_setLine silent
    · exact silent
  by_cases running : s.seq.state = .running
  · rw [ceilingBeacon_of_running running]
    split
    · unfold startCommsStop
      split
      · exact silentAtZero_setLine (s := { loweredBy e r s with ceiling := { (loweredBy e r s).ceiling with comms := _ } })
          lowered
      · exact lowered
    · exact lowered
  · rwa [ceilingBeacon_of_other running]

/-! ## A comms stop begun (R108, R109) -/

theorem startCommsStop_of_running {v : Nat} {s : State} (running : s.seq.state = .running) (clear : s.ceiling.comms = none) :
    (startCommsStop v s).ceiling.line = formedCeiling (startCommsStop v s) := by
  unfold startCommsStop
  rw [if_pos (by simp [inState, running, clear]), formCeiling, setLine_line]
  refine (formedCeiling_congr ?_ ?_ ?_ ?_ ?_ ?_ ?_).symm
  all_goals simp

theorem startCommsStop_of_begun {v : Nat} {s : State} (begun : s.ceiling.comms ≠ none) : startCommsStop v s = s := by
  have held : s.ceiling.comms.isNone = false := by
    cases comms : s.ceiling.comms with
    | none => exact absurd comms begun
    | some _ => rfl
  simp [startCommsStop, held]

/-- The ceiling formed in RUNNING is no more than a FRESH MATCHED peer's vperm (R105). -/
theorem formedCeiling_le_of_peer {s : State} {p : Profile} {e : Entry} {v : Nat} (loaded : s.loader.profile = some p)
    (listed : e ∈ s.peers) (gives : peerTerm p.vStaleCap e = some v) : formedCeiling s ≤ v := by
  have least := leastTerm_le_of_peerTerm listed gives
  unfold formedCeiling
  split
  · rw [loaded]
    dsimp only
    split
    · exact least
    · exact (Nat.min_le_right _ _).trans least
  · exact Nat.zero_le v

theorem renewed_listed {f : RxFrame} {e : Entry} {r : BeaconRec} {s : State} (framedOf : framed .beacon f e s = true) :
    beaconEntry (frameSeq f.octets) r e ∈ (renewed f e r s).peers := by
  have listed : e ∈ s.peers := List.mem_of_find?_eq_some (entryOf_of_framed framedOf)
  exact List.mem_map.mpr ⟨e, listed, if_pos rfl⟩

theorem peerTerm_of_renewed {cap : Nat} {n : SeqNo} {e : Entry} {r : BeaconRec} (matched : e.verif = .matched) :
    peerTerm cap (beaconEntry n r e) = some r.vperm := by
  simp [peerTerm, beaconEntry, matched]

/-- In RUNNING the Run Sequencer follows AT_MARK alone (R137). -/
theorem sequencerBeacon_of_running {e : Entry} {r : BeaconRec} {s : State} {p : Profile} (loaded : s.loader.profile = some p)
    (running : s.seq.state = .running) :
    sequencerBeacon e r s = if r.atMark = true ∧ r.run = s.seq.run then enterStopping s else s := by
  simp only [sequencerBeacon, loaded, running]
  exact if_congr (by simp) rfl rfl

/-- What RUNNING holds after a beacon without AT_MARK: the ceiling unit's work alone. -/
theorem acceptanceEvent_of_running {v : Nat} {e : Entry} {r : BeaconRec} {u : State} {p : Profile}
    (loaded : u.loader.profile = some p) (running : u.seq.state = .running) (quiet : r.state ≠ .tripped)
    (goesOn : ¬(r.atMark = true ∧ r.run = u.seq.run)) (noPart : u.cls.sdRole = .none) :
    RunKept (ceilingBeacon v e r u) (acceptanceEvent v e r u) := by
  have seq : (ceilingBeacon v e r u).seq = u.seq := by simp
  have named : sequencerBeacon e r (ceilingBeacon v e r u) = ceilingBeacon v e r u := by
    rw [sequencerBeacon_of_running (p := p) (by simpa using loaded) (by rw [seq]; exact running), seq, if_neg goesOn]
  exact acceptanceEvent_runKept named (by simpa using noPart) (by simp [running]) (by simp [running])
    (by simp [running]) quiet

theorem ceilingBeacon_begins {v : Nat} {e : Entry} {r : BeaconRec} {u : State} (running : u.seq.state = .running)
    (begins : r.commsStop = true ∧ r.run = u.seq.run) (clear : u.ceiling.comms = none) :
    (ceilingBeacon v e r u).ceiling.comms = some { v := v, b := u.envelope.bEff.getD 0, t := u.time.now }
      ∧ (ceilingBeacon v e r u).ceiling.line = formedCeiling (ceilingBeacon v e r u) := by
  obtain ⟨seq, -, -, comms, envelope, time⟩ := loweredBy_frame e r u
  rw [ceilingBeacon_of_running running, if_pos begins]
  refine ⟨?_, startCommsStop_of_running (by rw [seq]; exact running) (comms.trans clear)⟩
  rw [startCommsStop_comms v (by rw [seq]; exact running) (comms.trans clear), envelope, time]

theorem ceilingBeacon_goes_on {v : Nat} {e : Entry} {r : BeaconRec} {u : State} (running : u.seq.state = .running)
    (other : ¬(r.commsStop = true ∧ r.run = u.seq.run ∧ u.ceiling.comms = none)) :
    (ceilingBeacon v e r u) = loweredBy e r u := by
  obtain ⟨-, -, -, comms, -, -⟩ := loweredBy_frame e r u
  rw [ceilingBeacon_of_running running]
  split
  · next begins =>
    exact startCommsStop_of_begun (by rw [comms]; exact fun clear => other ⟨begins.1, begins.2, clear⟩)
  · rfl

/-- What the ceiling unit holds after a beacon in RUNNING (R105, R107 to R109). -/
theorem ceilingBeacon_moves {v : Nat} {e : Entry} {r : BeaconRec} {u : State} {p : Profile} (running : u.seq.state = .running)
    (loaded : u.loader.profile = some p) (listed : e ∈ u.peers)
    (term : e.verif = .matched → peerTerm p.vStaleCap e = some r.vperm) :
    if r.commsStop = true ∧ r.run = u.seq.run ∧ u.ceiling.comms = none then
      (ceilingBeacon v e r u).ceiling.comms = some { v := v, b := u.envelope.bEff.getD 0, t := u.time.now }
        ∧ (ceilingBeacon v e r u).ceiling.line = formedCeiling (ceilingBeacon v e r u)
        ∧ (e.verif = .matched → (ceilingBeacon v e r u).ceiling.line ≤ r.vperm)
    else
      (ceilingBeacon v e r u).ceiling.comms = u.ceiling.comms
        ∧ (ceilingBeacon v e r u).ceiling.line =
          (if e.verif = .matched ∧ r.vperm < u.ceiling.line then r.vperm else u.ceiling.line) := by
  split
  · next begins =>
    obtain ⟨stop, run, clear⟩ := begins
    obtain ⟨comms, line⟩ := ceilingBeacon_begins (v := v) (e := e) running ⟨stop, run⟩ clear
    refine ⟨comms, line, fun matched => ?_⟩
    rw [line]
    exact formedCeiling_le_of_peer (by simpa using loaded) (by simpa using listed) (term matched)
  · next other =>
    obtain ⟨-, -, -, comms, -, -⟩ := loweredBy_frame e r u
    rw [ceilingBeacon_goes_on running other]
    exact ⟨comms, loweredBy_line e r u⟩

/-- Settles O48: in RUNNING the beacon's only effects are at the ceiling and the class. -/
theorem beaconLowersTheCeiling : Obligations.BeaconLowersTheCeiling := by
  intro f e p r s accepted running quiet goesOn fits
  obtain ⟨a, z, taken⟩ := exec_of_acceptedFresh accepted
  obtain ⟨framedOf, loaded, -, -, -⟩ := (acceptedFresh_iff f e p r s).mp accepted
  have listed : beaconEntry (frameSeq f.octets) r e ∈ (heardAt f e r a s).peers := renewed_listed framedOf
  have term : e.verif = .matched → peerTerm p.vStaleCap (beaconEntry (frameSeq f.octets) r e) = some r.vperm :=
    peerTerm_of_renewed
  have verif : (beaconEntry (frameSeq f.octets) r e).verif = e.verif := rfl
  generalize beaconEntry (frameSeq f.octets) r e = e' at *
  have kept : RunKept (ceilingBeacon s.ceiling.line e' r (heardAt f e r a s))
      (acceptanceEvent s.ceiling.line e' r (heardAt f e r a s)) :=
    acceptanceEvent_of_running (p := p) loaded running quiet goesOn
      (sdRole_of_partFits fits (by simp [running]))
  have silent : s.ceiling.line ≠ 0 → silentAtZero (ceilingBeacon s.ceiling.line e' r (heardAt f e r a s)) :=
    fun positive => silentAtZero_ceilingBeacon fun zero => absurd zero positive
  have moves := ceilingBeacon_moves (v := s.ceiling.line) (r := r) (u := heardAt f e r a s) running loaded listed
    (fun matched => term (verif ▸ matched))
  have frame := ceilingBeacon_frame s.ceiling.line e' r (heardAt f e r a s)
  simp only [heardAt_frame] at frame moves
  generalize acceptanceEvent s.ceiling.line e' r (heardAt f e r a s) = t at *
  generalize ceilingBeacon s.ceiling.line e' r (heardAt f e r a s) = w at *
  obtain ⟨power, time, inputs, loader, peers, -, envelope, ceiling, generator, seq, loop, brakes, port⟩ := kept.kept
  obtain ⟨powerW, timeW, inputsW, loaderW, -, -, -, envelopeW, seqW, loopW, brakesW, -, -, portW, -⟩ := frame
  have formed : formedCeiling (t.clocked z) = formedCeiling w := by
    apply formedCeiling_congr <;> simp [*]
  have low : w.ceiling.line = 0 → s.ceiling.line ≠ 0 → driveEn (t.clocked z) = false := by
    intro zero positive
    simp [driveEn, generator, silent positive zero, Generator.stopped]
  refine ⟨_, taken, ?_⟩
  simp only [State.clocked_frame, formed, ceiling, seq, brakes, envelope, power, time, inputs, loader, loop, port, seqW,
    brakesW, envelopeW, powerW, timeW, inputsW, loaderW, loopW, portW, ← verif]
  exact ⟨running, moves, fun positive zero => low zero positive, by simp⟩

end Sys2Proof.Machine
end

section
/-! PROOF. A beacon with DISPATCH: a run adopted, taken over or given up (R129 to R132). -/

namespace Sys2Proof.Machine

/-! ## A node without a part (R188) -/

theorem partFits_iff (s : State) : partFits s = true ↔ s.cls.sdRole = .none ∨ s.seq.state = .dwell := by
  simp [partFits, inState]

/-- An entry to a state other than NIGHT ends a part (R188). -/
theorem sdRole_enterState {n : NodeState} {s : State} (fits : partFits s = true) (awake : n ≠ .night) :
    (enterState n s).cls.sdRole = .none := by
  rw [enterState_cls, ClassUnit.entered_sdRole]
  split
  · rfl
  · next other =>
    rcases (partFits_iff s).mp fits with none | dwells
    · exact none
    · exact absurd ⟨dwells, awake⟩ other

/-! ## The Run Sequencer's judgements at a beacon -/

theorem judgeLineStart_seq (s : State) : (judgeLineStart s).seq = { s.seq with stage := (judgeLineStart s).seq.stage } := by
  unfold judgeLineStart
  (repeat' split) <;> simp

theorem judgeLineStart_of_not_drive {s : State} (other : isDrive s = false) : judgeLineStart s = s :=
  judgeLineStart_of_other (.inl other)

theorem beaconAsked_judgeLineStart {s : State} (asked : beaconAsked s = true) : beaconAsked (judgeLineStart s) = true :=
  (beaconAsked_congr (by simp)).trans asked

/-- The state with the door-lock release `b`. -/
def State.released (b : Bool) (s : State) : State := { s with seq.doorRelease := b }

@[simp] theorem State.released_frame (b : Bool) (s : State) :
    (s.released b).power = s.power ∧ (s.released b).time = s.time ∧ (s.released b).inputs = s.inputs
      ∧ (s.released b).loader = s.loader ∧ (s.released b).access = s.access ∧ (s.released b).peers = s.peers
      ∧ (s.released b).tracker = s.tracker ∧ (s.released b).envelope = s.envelope ∧ (s.released b).ceiling = s.ceiling
      ∧ (s.released b).generator = s.generator ∧ (s.released b).seq = { s.seq with doorRelease := b }
      ∧ (s.released b).loop = s.loop ∧ (s.released b).brakes = s.brakes ∧ (s.released b).trips = s.trips
      ∧ (s.released b).cls = s.cls ∧ (s.released b).port = s.port ∧ (s.released b).pending = s.pending :=
  ⟨rfl, rfl, rfl, rfl, rfl, rfl, rfl, rfl, rfl, rfl, rfl, rfl, rfl, rfl, rfl, rfl, rfl⟩

/-- The loop condition moves the release alone (R141). -/
theorem judgeDoor_released (s : State) : ∃ b, judgeDoor s = s.released b := by
  unfold judgeDoor
  split
  · exact ⟨s.seq.doorRelease, rfl⟩
  · split
    · exact ⟨true, rfl⟩
    · exact ⟨s.seq.doorRelease, rfl⟩

/-- In DWELL and HOLD the Run Sequencer judges the door and adopts a run (R129, R141). -/
theorem sequencerBeacon_of_resting {e : Entry} {r : BeaconRec} {s : State} {p : Profile}
    (loaded : s.loader.profile = some p) (rests : s.seq.state = .dwell ∨ s.seq.state = .hold) :
    ∃ b, sequencerBeacon e r s = if r.dispatch = true then adopt e.id r p (s.released b) else s.released b := by
  have judged : ∃ b, (if (e.role == .loop) = true then judgeDoor s else s) = s.released b := by
    split
    · exact judgeDoor_released s
    · exact ⟨s.seq.doorRelease, rfl⟩
  rcases rests with dwells | holds
  · obtain ⟨b, same⟩ := judged
    refine ⟨b, ?_⟩
    simp only [sequencerBeacon, loaded, dwells, same]
  · refine ⟨s.seq.doorRelease, ?_⟩
    have same : s.released s.seq.doorRelease = s := rfl
    simp only [sequencerBeacon, loaded, holds, same]

theorem consents_released (b : Bool) (s : State) (leg : Option (Fin 5)) (recovery : Bool) :
    consents (s.released b) leg recovery = consents s leg recovery := by
  apply consents_congr <;> rfl

/-! ## What the acceptance event leaves of the run -/

theorem judgeClear_run (s : State) : (judgeClear s).seq.run = s.seq.run := by
  unfold judgeClear
  dsimp only
  (repeat' split) <;> simp [leaveTripped, enterState_run]

theorem takeWake_run (s : State) : (takeWake s).seq.run = s.seq.run := by
  unfold takeWake standUp
  dsimp only
  split <;> simp [enterState_run]

theorem wakeHeard_run (r : BeaconRec) (s : State) : (wakeHeard r s).seq.run = s.seq.run := by
  unfold wakeHeard
  split
  · exact takeWake_run s
  · rfl

theorem requestHeard_seq (e : Entry) (r : BeaconRec) (s : State) : (requestHeard e r s).seq = s.seq := by
  unfold requestHeard
  (repeat' split) <;> simp

theorem judgeAcker_run (e : Entry) (r : BeaconRec) (s : State) : (judgeAcker e r s).seq.run = s.seq.run := by
  unfold judgeAcker follow
  (repeat' split) <;> simp [enterState_run]

theorem judgeInitiator_run (s : State) : (judgeInitiator s).seq.run = s.seq.run := by
  unfold judgeInitiator commit
  (repeat' split) <;> simp [enterState_run]

theorem classBeacon_run (e : Entry) (r : BeaconRec) (s : State) : (classBeacon e r s).seq.run = s.seq.run := by
  rw [classBeacon_eq]
  split
  · rw [judgeInitiator_run, judgeAcker_run, requestHeard_seq, wakeHeard_run]
  · rfl

/-- A beacon that shows no TRIPPED leaves the run number as the Run Sequencer's work has it (R123). -/
theorem acceptanceEvent_run {v : Nat} {e : Entry} {r : BeaconRec} (u : State) (quiet : r.state ≠ .tripped) :
    (acceptanceEvent v e r u).seq.run = (sequencerBeacon e r (ceilingBeacon v e r u)).seq.run := by
  unfold acceptanceEvent
  rw [classBeacon_run, tripBeacon_of_no_trip _ quiet, judgeClear_run]

/-- A part leads into NIGHT or nowhere (R185, R187). -/
theorem judgeAcker_state (e : Entry) (r : BeaconRec) (s : State) :
    (judgeAcker e r s).seq.state = s.seq.state ∨ (judgeAcker e r s).seq.state = .night := by
  unfold judgeAcker follow
  (repeat' split) <;> simp

theorem judgeInitiator_state (s : State) :
    (judgeInitiator s).seq.state = s.seq.state ∨ (judgeInitiator s).seq.state = .night := by
  unfold judgeInitiator commit
  (repeat' split) <;> simp

theorem classBeacon_state {e : Entry} {r : BeaconRec} {s : State} (awake : s.seq.state ≠ .night) :
    (classBeacon e r s).seq.state = s.seq.state ∨ (classBeacon e r s).seq.state = .night := by
  rw [classBeacon_eq]
  split
  · obtain ⟨a, c, woken⟩ := (classMoved_wakeHeard (r := r) awake).rest
    have kept : (requestHeard e r (wakeHeard r s)).seq.state = s.seq.state := by rw [requestHeard_seq, woken]
    rcases judgeInitiator_state (judgeAcker e r (requestHeard e r (wakeHeard r s))) with same | night
    · rw [same, ← kept]
      exact judgeAcker_state e r _
    · exact .inr night
  · exact .inl rfl

/-! ## A run adopted in DWELL or HOLD (R129) -/

/-- The run fields taken from a beacon's proposal (R129 to R131). -/
def takenFrom (e : Entry) (r : BeaconRec) (p : Profile) (s : State) : State :=
  takeRun r.run r.dir r.leg r.recovery false e.id p s

theorem takenFrom_seq (e : Entry) (r : BeaconRec) (p : Profile) (s : State) :
    (takenFrom e r p s).seq =
      { s.seq with
        run := r.run, dir := r.dir, leg := r.leg, recovery := r.recovery, dispatch := false, consent := true
        dispatchOrigin := some e.id, deadline := some (s.time.now + BitVec.ofNat 32 (p.tArm * 1000)) } := rfl

theorem adopt_of_accepted {e : Entry} {r : BeaconRec} {p : Profile} {s : State}
    (accepted : newerRun r.run s.seq.run = true ∧ consents s r.leg r.recovery = true) :
    adopt e.id r p s = arm (takenFrom e r p s) := by
  simp [adopt, takenFrom, accepted]

theorem adopt_of_refused {e : Entry} {r : BeaconRec} {p : Profile} {s : State}
    (refused : ¬(newerRun r.run s.seq.run = true ∧ consents s r.leg r.recovery = true)) : adopt e.id r p s = s := by
  simp only [adopt, Bool.and_eq_true]
  exact if_neg refused

theorem not_running_of_rests {s : State} (rests : s.seq.state = .dwell ∨ s.seq.state = .hold) : s.seq.state ≠ .running := by
  rcases rests with h | h <;> simp [h]

section

variable {v : Nat} {e : Entry} {r : BeaconRec} {u : State} {p : Profile}

theorem adopted_by_beacon (loaded : u.loader.profile = some p) (fits : partFits u = true)
    (rests : u.seq.state = .dwell ∨ u.seq.state = .hold) (proposes : r.dispatch = true)
    (accepted : newerRun r.run u.seq.run = true ∧ consents u r.leg r.recovery = true) (quiet : r.state ≠ .tripped) :
    ∃ b, RunKept (arm (takenFrom e r p (u.released b))) (acceptanceEvent v e r u) := by
  obtain ⟨b, led⟩ := sequencerBeacon_of_resting (e := e) (r := r) loaded rests
  have agrees : consents (u.released b) r.leg r.recovery = true := by
    rw [consents_released]
    exact accepted.2
  rw [if_pos proposes, adopt_of_accepted (s := u.released b) ⟨accepted.1, agrees⟩] at led
  refine ⟨b, acceptanceEvent_runKept ?_ ?_ (by simp [arm_seq]) (by simp [arm_seq]) (by simp [arm_seq]) quiet⟩
  · rw [ceilingBeacon_of_other (not_running_of_rests rests)]
    exact led
  · exact sdRole_enterState (s := { takenFrom e r p (u.released b) with seq.origin := _ }) fits (by simp)

theorem refused_by_rest (loaded : u.loader.profile = some p) (rests : u.seq.state = .dwell ∨ u.seq.state = .hold)
    (refused : ¬(newerRun r.run u.seq.run = true ∧ consents u r.leg r.recovery = true)) (quiet : r.state ≠ .tripped) :
    (acceptanceEvent v e r u).seq.run = u.seq.run ∧ (acceptanceEvent v e r u).seq.state ≠ .armed := by
  obtain ⟨b, led⟩ := sequencerBeacon_of_resting (e := e) (r := r) loaded rests
  have disagrees : ¬(newerRun r.run (u.released b).seq.run = true ∧ consents (u.released b) r.leg r.recovery = true) := by
    rw [consents_released]
    exact refused
  rw [adopt_of_refused disagrees, ite_self] at led
  have other := not_running_of_rests rests
  rw [acceptanceEvent_run u quiet, ceilingBeacon_of_other other, led]
  refine ⟨rfl, ?_⟩
  have stays : (judgeClear (u.released b)).seq.state = u.seq.state := by
    obtain ⟨o, cleared⟩ := judgeClear_of_not_tripped (s := u.released b) (by rcases rests with h | h <;> simp [h])
    rw [cleared]
    rfl
  unfold acceptanceEvent
  rw [ceilingBeacon_of_other other, led, tripBeacon_of_no_trip _ quiet]
  have moved := classBeacon_state (e := e) (r := r) (s := judgeClear (u.released b))
    (by rw [stays]; rcases rests with h | h <;> simp [h])
  rw [stays] at moved
  rcases moved with h | h
  · rw [h]
    rcases rests with h | h <;> simp [h]
  · simp [h]

end

/-! ## A proposal judged in ARMED (R130, R131) -/

theorem newerRun_self (n : RunNo) : newerRun n n = false := by
  simp [newerRun]

theorem requestBeacon_access (s : State) : ∃ a, requestBeacon s = { s with access := a } := by
  unfold requestBeacon wakeTransmitter
  split <;> exact ⟨_, rfl⟩

theorem consents_takenFrom (e : Entry) (r : BeaconRec) (p : Profile) (s : State) (leg : Option (Fin 5)) (recovery : Bool) :
    consents (takenFrom e r p s) leg recovery = consents s leg recovery := by
  apply consents_congr <;> rfl

/-- What a proposal of the node's own run from a lower id leads to (R130). -/
theorem replaceProposal_cases {e : Entry} {r : BeaconRec} {p : Profile} {s : State} (same : r.run = s.seq.run) :
    if consents s r.leg r.recovery = true then ∃ a, replaceProposal e.id r p s = { takenFrom e r p s with access := a }
    else replaceProposal e.id r p s = leaveArmed (takenFrom e r p s) := by
  have named : takeRun s.seq.run r.dir r.leg r.recovery false e.id p s = takenFrom e r p s := by rw [takenFrom, same]
  unfold replaceProposal
  simp only [named, consents_takenFrom]
  split
  · split
    · exact ⟨_, rfl⟩
    · exact requestBeacon_access _
  · rfl

/-- What a proposal makes of the run fields in ARMED (R130, R131). -/
theorem dispatchInArmed_cases (e : Entry) (r : BeaconRec) (p : Profile) (s : State) :
    if (r.run = s.seq.run ∧ s.seq.dispatchOrigin.any (fun o => decide (e.id < o)) = true)
        ∨ newerRun r.run s.seq.run = true then
      if consents s r.leg r.recovery = true then
        ∃ a, dispatchInArmed e.id r p s = { takenFrom e r p s with access := a }
          ∧ (newerRun r.run s.seq.run = true → beaconAsked (dispatchInArmed e.id r p s) = true)
      else
        ∃ q, dispatchInArmed e.id r p s = leaveArmed { s with seq := q } ∧ q.state = s.seq.state ∧ q.origin = s.seq.origin
          ∧ q.run = s.seq.run
    else dispatchInArmed e.id r p s = s := by
  unfold dispatchInArmed
  by_cases same : r.run = s.seq.run
  · have old : newerRun r.run s.seq.run = false := by rw [same, newerRun_self]
    simp only [same, beq_self_eq_true, if_true, true_and, newerRun_self, Bool.false_eq_true, or_false, false_imp_iff, and_true]
    by_cases lower : s.seq.dispatchOrigin.any (fun o => decide (e.id < o)) = true
    · simp only [lower, if_true]
      have judged := replaceProposal_cases (e := e) (p := p) same
      split
      · next consent =>
        rw [if_pos consent] at judged
        exact judged
      · next refused =>
        rw [if_neg refused] at judged
        exact ⟨(takenFrom e r p s).seq, judged, rfl, rfl, same⟩
    · simp only [lower, Bool.false_eq_true, if_false]
  · simp only [same, false_and, false_or, beq_iff_eq, if_false]
    by_cases newer : newerRun r.run s.seq.run = true
    · simp only [newer, if_true, forall_const]
      unfold moveToNewer
      split
      · obtain ⟨a, asked⟩ := requestBeacon_access (takenFrom e r p s)
        exact ⟨a, asked, beaconAsked_requestBeacon _⟩
      · exact ⟨s.seq, rfl, rfl, rfl, rfl⟩
    · simp only [newer, Bool.false_eq_true, if_false]

section

variable {v : Nat} {e : Entry} {r : BeaconRec} {u : State} {p : Profile}

theorem sequencerBeacon_of_armed (loaded : u.loader.profile = some p) (armed : u.seq.state = .armed) :
    sequencerBeacon e r u = beaconInArmed e r p u := by
  simp only [sequencerBeacon, loaded, armed]

theorem beaconInArmed_of_dispatch (proposes : r.dispatch = true) (other : ¬(e.role = .drive ∧ r.state = .running)) :
    beaconInArmed e r p u = judgeLineStart (dispatchInArmed e.id r p u) := by
  unfold beaconInArmed
  simp only [proposes, if_true]
  rw [if_neg]
  simp only [Bool.and_eq_true, beq_iff_eq]
  rintro ⟨⟨⟨⟨-, drive⟩, -⟩, running⟩, -⟩
  exact other ⟨drive, running⟩

/-- An ARMED node that keeps its state has no part, and the rest of the event leaves its run fields (R188). -/
theorem runKept_of_armed {x : State} (named : sequencerBeacon e r (ceilingBeacon v e r u) = judgeLineStart x)
    (armed : x.seq.state = .armed) (noPart : x.cls.sdRole = .none) (quiet : r.state ≠ .tripped) :
    RunKept (judgeLineStart x) (acceptanceEvent v e r u) := by
  have state : (judgeLineStart x).seq.state = .armed := by rw [judgeLineStart_seq]; exact armed
  exact acceptanceEvent_runKept named (by simpa using noPart) (by simp [state]) (by simp [state]) (by simp [state]) quiet

theorem armed_stage (x : State) (other : isDrive x = false) : (judgeLineStart x).seq.stage = x.seq.stage := by
  rw [judgeLineStart_of_not_drive other]

/-- A node that has left ARMED for DWELL or HOLD has no part, and the rest of the event leaves its run fields (R188). -/
theorem runKept_of_leaving {q : Sequencer} {n : NodeState} (home : n = .dwell ∨ n = .hold) (fits : partFits u = true)
    (armed : q.state = .armed) (state : u.seq.state = .armed)
    (named : sequencerBeacon e r (ceilingBeacon v e r u) = enterState n { u with seq := q }) (quiet : r.state ≠ .tripped)
    (shows : r.state ≠ .night) : RunKept (enterState n { u with seq := q }) (acceptanceEvent v e r u) := by
  have fitsNow : partFits { u with seq := q } = true := by simpa [partFits, inState, armed, state] using fits
  refine acceptanceEvent_runKept named (sdRole_enterState fitsNow ?_) ?_ ?_ (fun night => absurd night shows) quiet
  all_goals rcases home with h | h <;> simp [h]

/-- In ARMED: what the run fields are after a proposal (R130, R131). -/
theorem proposal_judged (loaded : u.loader.profile = some p) (fits : partFits u = true) (proposes : r.dispatch = true)
    (armed : u.seq.state = .armed) (origin : u.seq.origin = some .dwell ∨ u.seq.origin = some .hold)
    (other : ¬(e.role = .drive ∧ r.state = .running)) (quiet : r.state ≠ .tripped) (shows : r.state ≠ .night) :
    if (r.run = u.seq.run ∧ u.seq.dispatchOrigin.any (fun o => decide (e.id < o)) = true)
        ∨ newerRun r.run u.seq.run = true then
      if consents u r.leg r.recovery = true then
        ∃ a, RunKept (judgeLineStart { takenFrom e r p u with access := a }) (acceptanceEvent v e r u)
          ∧ (newerRun r.run u.seq.run = true → beaconAsked (acceptanceEvent v e r u) = true)
      else
        ∃ n q, (n = .dwell ∨ n = .hold) ∧ u.seq.origin = some n ∧ q.run = u.seq.run
          ∧ RunKept (enterState n { u with seq := q }) (acceptanceEvent v e r u)
    else RunKept (judgeLineStart u) (acceptanceEvent v e r u) := by
  have noPart := sdRole_of_partFits fits (by simp [armed])
  have named : sequencerBeacon e r (ceilingBeacon v e r u) = judgeLineStart (dispatchInArmed e.id r p u) := by
    rw [ceilingBeacon_of_other (by simp [armed]), sequencerBeacon_of_armed loaded armed,
      beaconInArmed_of_dispatch proposes other]
  have cases := dispatchInArmed_cases e r p u
  split
  · next judged =>
    rw [if_pos judged] at cases
    split
    · next consent =>
      rw [if_pos consent] at cases
      obtain ⟨a, took, asks⟩ := cases
      rw [took] at named asks
      have kept : RunKept (judgeLineStart { takenFrom e r p u with access := a }) (acceptanceEvent v e r u) :=
        runKept_of_armed named armed noPart quiet
      exact ⟨a, kept, fun newer => kept.asked (beaconAsked_judgeLineStart (asks newer))⟩
    · next refused =>
      rw [if_neg refused] at cases
      obtain ⟨q, leaves, state, origin', run⟩ := cases
      have home : ∃ n, (n = .dwell ∨ n = .hold) ∧ u.seq.origin = some n := by
        rcases origin with h | h <;> simp [h]
      obtain ⟨n, home, origin⟩ := home
      rw [leaves, leaveArmed_of_origin (n := n) (origin'.trans origin), judgeLineStart_of_other] at named
      · exact ⟨n, q, home, origin, run, runKept_of_leaving home fits (state.trans armed) armed named quiet shows⟩
      · right; left
        rcases home with h | h <;> simp [h]
  · next ignored =>
    rw [if_neg ignored] at cases
    rw [cases] at named
    exact runKept_of_armed named armed noPart quiet

end

/-- In RUNNING, STOPPING and TRIPPED a beacon leaves the run number (R123, R137, R139). -/
theorem sequencerBeacon_run {e : Entry} {r : BeaconRec} {s : State}
    (runs : s.seq.state = .running ∨ s.seq.state = .stopping ∨ s.seq.state = .tripped) :
    (sequencerBeacon e r s).seq.run = s.seq.run := by
  unfold sequencerBeacon
  rcases runs with state | state | state <;> simp only [state]
  · (repeat' split) <;> simp [enterStopping, apply_ite State.seq, apply_ite Sequencer.run, enterState_run]
  · (repeat' split) <;> simp [enterState_run]
  · split <;> rfl

theorem beaconAsked_clocked (z : Option Time) (s : State) : beaconAsked (s.clocked z) = beaconAsked s := rfl

theorem consents_heardAt {f : RxFrame} {e : Entry} {r : BeaconRec} (a : LineAccess) (s : State) (leg : Option (Fin 5))
    (recovery : Bool) : consents (heardAt f e r a s) leg recovery = consents (renewed f e r s) leg recovery := by
  apply consents_congr <;> rfl

/-- Settles O46: the Run Sequencer's judgement of the proposal, and what the rest of the event leaves of it. -/
theorem dispatchBeaconIsJudged : Obligations.DispatchBeaconIsJudged := by
  intro f e p r s accepted proposes fits quiet shows other
  obtain ⟨a, z, taken⟩ := exec_of_acceptedFresh accepted
  obtain ⟨-, loaded, -, -, -⟩ := (acceptedFresh_iff f e p r s).mp accepted
  have loadedNow : (heardAt f e r a s).loader.profile = some p := loaded
  have fitsNow : partFits (heardAt f e r a s) = true := fits
  have id : (beaconEntry (frameSeq f.octets) r e).id = e.id := rfl
  have role : (beaconEntry (frameSeq f.octets) r e).role = e.role := rfl
  generalize beaconEntry (frameSeq f.octets) r e = e' at *
  have frame := acceptanceEvent_frame s.ceiling.line e' r (heardAt f e r a s)
  obtain ⟨power, time, inputs, loader, -, loop, port, -⟩ := frame
  refine ⟨_, taken, ?_⟩
  simp only [State.clocked_frame, beaconAsked_clocked]
  refine ⟨fun rests => ?_, fun armed origin => ?_, fun runs => ?_, power, time, inputs, loader, loop, port⟩
  · have restsNow : s.seq.state = .dwell ∨ s.seq.state = .hold := by simpa [resting, inState] using rests
    split
    · next accepts =>
      rw [← consents_heardAt a] at accepts
      obtain ⟨b, kept⟩ := adopted_by_beacon (v := s.ceiling.line) (e := e') loadedNow fitsNow restsNow proposes accepts quiet
      obtain ⟨-, -, -, -, -, -, -, -, -, seq, -, brakes, -⟩ := kept.kept
      have asked := kept.asked (beaconAsked_enterState _ _)
      rw [arm_seq, takenFrom_seq] at seq
      refine ⟨?_, fun _ => by rw [seq], asked, fun car applied => ?_⟩
      · rw [seq]
        simp [id]
      · have carNow : isCar (takenFrom e' r p ((heardAt f e r a s).released b)) = true := car
        have sound : s.brakes.tb.liftFail = false := liftFail_of_consents (s := heardAt f e r a s) car accepts.2
        rw [brakes, arm_brakes, if_pos carNow]
        simp [takenFrom, Brakes.put, liftUnit, applied, sound]
    · next refuses =>
      rw [← consents_heardAt a] at refuses
      exact refused_by_rest loadedNow restsNow refuses quiet
  · have judged := proposal_judged (v := s.ceiling.line) (e := e') loadedNow fitsNow proposes armed origin (by rwa [role]) quiet
      shows
    rw [consents_heardAt, id] at judged
    simp only [heardAt_frame] at judged
    split
    · next judges =>
      rw [if_pos judges] at judged
      split
      · next consent =>
        rw [if_pos consent] at judged
        obtain ⟨b, kept, asks⟩ := judged
        obtain ⟨-, -, -, -, -, -, -, -, -, seq, -⟩ := kept.kept
        refine ⟨?_, fun still => ?_, asks⟩
        · rw [seq, judgeLineStart_seq]
          simp [takenFrom_seq, id]
        · rw [seq, armed_stage _ (by exact still)]
          rfl
      · next refused =>
        rw [if_neg refused] at judged
        obtain ⟨n, q, home, from', run, kept⟩ := judged
        obtain ⟨-, -, -, -, -, -, -, -, -, seq, -, brakes, -⟩ := kept.kept
        rw [seq, brakes]
        refine ⟨by simp [from'], by rw [enterState_run]; exact run, (enterState_run_fields home _).1, ?_⟩
        exact allApplied_enterState _ (by rcases home with h | h <;> simp [h])
    · next ignored =>
      rw [if_neg ignored] at judged
      obtain ⟨-, -, -, -, -, -, -, -, -, seq, -⟩ := judged.kept
      refine ⟨?_, fun still => ?_⟩
      · rw [seq, judgeLineStart_seq]
        rfl
      · rw [seq, judgeLineStart_of_not_drive (by exact still)]
        rfl
  · rw [acceptanceEvent_run _ quiet, sequencerBeacon_run (by simpa using runs)]
    simp

end Sys2Proof.Machine
end

section
/-! PROOF. A beacon without DISPATCH: the run followed to RUNNING, STOPPING and DWELL (R136 to R139, R141). -/

namespace Sys2Proof.Machine

/-! ## The DRIVE's RUNNING in ARMED (R136) -/

/-- The run fields of the DRIVE's beacon taken (R136). -/
def followed (r : BeaconRec) (s : State) : State :=
  { s with seq.dir := r.dir, seq.leg := r.leg, seq.recovery := r.recovery }

theorem followRunning_eq (r : BeaconRec) (s : State) :
    followRunning r s =
      if (r.dir = s.seq.dir ∧ r.leg = s.seq.leg ∧ r.recovery = s.seq.recovery) ∨ consents s r.leg r.recovery = true then
        enterState .running (followed r s)
      else leaveArmed s := by
  unfold followRunning
  simp only [Bool.and_eq_true, beq_iff_eq, and_assoc]
  by_cases same : r.dir = s.seq.dir ∧ r.leg = s.seq.leg ∧ r.recovery = s.seq.recovery
  · have own : followed r s = s := by
      obtain ⟨dir, leg, recovery⟩ := same
      simp only [followed, dir, leg, recovery]
    rw [if_pos same, if_pos (.inl same), own]
  · simp only [same, if_false, false_or]
    rfl

theorem running_seq (s : State) :
    (enterState .running s).seq =
      { s.seq with
        state := .running, origin := none, dispatch := false, consent := false, dispatchOrigin := none, deadline := none
        stage := .idle, misaligned := false, doorRelease := false, gateRelease := false } := by
  rw [enterState_seq_of_not_dwell _ (by simp)]
  simp [enterSequencer]

/-! ## Arrival (R137, R138) -/

theorem stopping_seq (s : State) :
    (enterState .stopping s).seq.dir = s.seq.dir ∧ (enterState .stopping s).seq.run = s.seq.run := by
  rw [enterState_seq_of_not_dwell _ (by simp)]
  exact ⟨rfl, rfl⟩

theorem enterStopping_eq (s : State) :
    enterStopping s =
      if isDrive s = true ∧ standstill s = true ∧ s.brakes.sb.state ≠ .applied then enterState .dwell (enterState .stopping s)
      else enterState .stopping s := by
  have drive : isDrive (enterState .stopping s) = isDrive s := isDrive_congr (by simp)
  have still : standstill (enterState .stopping s) = standstill s := by simp [standstill]
  unfold enterStopping
  simp only [drive, still]
  refine if_congr ?_ rfl rfl
  simp only [Bool.and_eq_true, bne_iff_ne]
  exact ⟨fun h => ⟨h.1.1, h.2, h.1.2⟩, fun h => ⟨⟨h.1, h.2.2⟩, h.2.1⟩⟩

/-- What an arrival leaves (R103, R106, R137, R138). -/
theorem enterStopping_moves (s : State) :
    (enterStopping s).seq.run = s.seq.run ∧ (enterStopping s).ceiling.line = 0 ∧ (enterStopping s).envelope.vperm = 0
      ∧ beaconAsked (enterStopping s) = true ∧ (isDrive s = true → (enterStopping s).brakes.sb.state = .applied)
      ∧ (if isDrive s = true ∧ standstill s = true ∧ s.brakes.sb.state ≠ .applied then (enterStopping s).seq.state = .dwell
          else (enterStopping s).seq.state = .stopping ∧ (enterStopping s).seq.dir = s.seq.dir) := by
  obtain ⟨dir, run⟩ := stopping_seq s
  rw [enterStopping_eq]
  split
  · refine ⟨by rw [enterState_run, run], enterState_line_of_not_running _ (by simp), by simp, beaconAsked_enterState _ _,
      fun _ => ?_, by simp⟩
    rw [enterState_brakes_of_rest _ (by simp)]
    simp [Brakes.dropped]
  · refine ⟨run, enterState_line_of_not_running _ (by simp), by simp, beaconAsked_enterState _ _, fun drive => ?_, ?_⟩
    · rw [enterState_brakes_stopping, if_pos drive]
      simp [Brakes.put]
    · exact ⟨by simp, dir⟩

theorem enterStopping_sdRole {s : State} (fits : partFits s = true) : (enterStopping s).cls.sdRole = .none := by
  have stopping := sdRole_enterState (n := .stopping) fits (by simp)
  rw [enterStopping_eq]
  split
  · exact sdRole_enterState (by simp [partFits, stopping]) (by simp)
  · exact stopping

/-! ## The acceptance event (R89) -/

section

variable {v : Nat} {e : Entry} {r : BeaconRec} {u : State} {p : Profile}

theorem beaconInArmed_of_no_dispatch (armed : u.seq.state = .armed) (keeps : r.dispatch = false) :
    beaconInArmed e r p u =
      if isDrive u = false ∧ e.role = .drive ∧ r.state = .running ∧ r.run = u.seq.run then followRunning r u
      else judgeLineStart u := by
  unfold beaconInArmed
  simp only [keeps, Bool.false_eq_true, if_false]
  refine if_congr ?_ rfl rfl
  simp [inState, armed, and_assoc]

theorem sequencerBeacon_of_stopping (loaded : u.loader.profile = some p) (stops : u.seq.state = .stopping) :
    sequencerBeacon e r u =
      if isDrive u = false ∧ e.role = .drive ∧ r.state = .dwell ∧ r.run = u.seq.run
          ∧ (isCar u = true → standstill u = true) then enterState .dwell u
      else u := by
  simp only [sequencerBeacon, loaded, stops]
  refine if_congr ?_ rfl rfl
  cases isCar u <;> simp [driveShowsDwell, and_assoc]

/-- In ARMED: the DRIVE's RUNNING followed, or the line start judged (R134, R136). -/
theorem running_followed (loaded : u.loader.profile = some p) (fits : partFits u = true) (keeps : r.dispatch = false)
    (armed : u.seq.state = .armed) (origin : u.seq.origin = some .dwell ∨ u.seq.origin = some .hold)
    (quiet : r.state ≠ .tripped) (shows : r.state ≠ .night) :
    if isDrive u = false ∧ e.role = .drive ∧ r.state = .running ∧ r.run = u.seq.run then
      if (r.dir = u.seq.dir ∧ r.leg = u.seq.leg ∧ r.recovery = u.seq.recovery) ∨ consents u r.leg r.recovery = true then
        RunKept (enterState .running (followed r u)) (acceptanceEvent v e r u)
      else ∃ n, (n = .dwell ∨ n = .hold) ∧ u.seq.origin = some n ∧ RunKept (enterState n u) (acceptanceEvent v e r u)
    else RunKept (judgeLineStart u) (acceptanceEvent v e r u) := by
  have named : sequencerBeacon e r (ceilingBeacon v e r u) = beaconInArmed e r p u := by
    rw [ceilingBeacon_of_other (by simp [armed]), sequencerBeacon_of_armed loaded armed]
  rw [beaconInArmed_of_no_dispatch armed keeps] at named
  split
  · next follows =>
    rw [if_pos follows, followRunning_eq] at named
    split
    · next agrees =>
      rw [if_pos agrees] at named
      have noPart : (enterState .running (followed r u)).cls.sdRole = .none := sdRole_enterState (s := followed r u) fits (by simp)
      exact acceptanceEvent_runKept named noPart (by simp) (by simp) (by simp) quiet
    · next refuses =>
      rw [if_neg refuses] at named
      have home : ∃ n, (n = .dwell ∨ n = .hold) ∧ u.seq.origin = some n := by
        rcases origin with h | h <;> simp [h]
      obtain ⟨n, home, origin⟩ := home
      rw [leaveArmed_of_origin origin] at named
      exact ⟨n, home, origin, runKept_of_leaving (q := u.seq) home fits armed armed named quiet shows⟩
  · next other =>
    rw [if_neg other] at named
    exact runKept_of_armed named armed (sdRole_of_partFits fits (by simp [armed])) quiet

/-- In RUNNING: AT_MARK shown for the node's own run (R137). -/
theorem arrival_followed (loaded : u.loader.profile = some p) (fits : partFits u = true) (running : u.seq.state = .running)
    (marks : r.atMark = true ∧ r.run = u.seq.run) (quiet : r.state ≠ .tripped) (shows : r.state ≠ .night) :
    RunKept (enterStopping (ceilingBeacon v e r u)) (acceptanceEvent v e r u) := by
  have seq : (ceilingBeacon v e r u).seq = u.seq := by simp
  have fitsNow : partFits (ceilingBeacon v e r u) = true := by simpa [partFits, inState] using fits
  have named : sequencerBeacon e r (ceilingBeacon v e r u) = enterStopping (ceilingBeacon v e r u) := by
    rw [sequencerBeacon_of_running (p := p) (by simpa using loaded) (by rw [seq]; exact running), seq, if_pos marks]
  have state : (enterStopping (ceilingBeacon v e r u)).seq.state = .dwell
      ∨ (enterStopping (ceilingBeacon v e r u)).seq.state = .stopping := by
    rw [enterStopping_eq]
    split <;> simp
  refine acceptanceEvent_runKept named (enterStopping_sdRole fitsNow) ?_ ?_ (fun night => absurd night shows) quiet
  all_goals rcases state with h | h <;> simp [h]

/-- In STOPPING: the DRIVE's DWELL for the node's own run (R139). -/
theorem rest_followed (loaded : u.loader.profile = some p) (fits : partFits u = true) (stops : u.seq.state = .stopping)
    (quiet : r.state ≠ .tripped) (shows : r.state ≠ .night) :
    RunKept
      (if isDrive u = false ∧ e.role = .drive ∧ r.state = .dwell ∧ r.run = u.seq.run
          ∧ (isCar u = true → standstill u = true) then enterState .dwell u
        else u)
      (acceptanceEvent v e r u) := by
  refine acceptanceEvent_runKept ?_ ?_ ?_ ?_ (fun night => absurd night shows) quiet
  · rw [ceilingBeacon_of_other (by simp [stops])]
    exact sequencerBeacon_of_stopping loaded stops
  · split
    · exact sdRole_enterState fits (by simp)
    · exact sdRole_of_partFits fits (by simp [stops])
  all_goals split <;> simp [stops]

end

theorem doorJudged_of_kept {m : Bool} {p : Profile} {n : NodeState} {s t : State} (z : Option Time)
    (kept : RunKept (enterState n s) t) (loaded : s.loader.profile = some p)
    (judged : n = .dwell → misalignedAt s.seq.state p s = m) : doorJudged m p (t.clocked z) = true := by
  obtain ⟨-, -, -, loader, peers, tracker, -, -, -, seq, -⟩ := kept.kept
  rw [doorJudged_congr (s := enterState n s)]
  · exact doorJudged_enterState n loaded fun _ => judged
  · simp [loader]
  · simp [peers]
  · simp [seq]
  · simp [tracker]

theorem formedCeiling_of_kept {w t : State} (z : Option Time) (kept : RunKept w t) :
    formedCeiling (t.clocked z) = formedCeiling w := by
  obtain ⟨-, time, -, loader, peers, -, envelope, ceiling, -, seq, -⟩ := kept.kept
  apply formedCeiling_congr <;> simp [time, loader, peers, envelope, ceiling, seq]

/-- Settles O47: the Run Sequencer's judgement of the beacon, and what the rest of the event leaves of it. -/
theorem runIsFollowed : Obligations.RunIsFollowed := by
  intro f e p r s accepted keeps fits quiet shows
  obtain ⟨a, z, taken⟩ := exec_of_acceptedFresh accepted
  obtain ⟨-, loaded, -, -, -⟩ := (acceptedFresh_iff f e p r s).mp accepted
  have loadedNow : (heardAt f e r a s).loader.profile = some p := loaded
  have fitsNow : partFits (heardAt f e r a s) = true := fits
  have role : (beaconEntry (frameSeq f.octets) r e).role = e.role := rfl
  generalize beaconEntry (frameSeq f.octets) r e = e' at *
  obtain ⟨power, time, inputs, loader, -, loop, port, -⟩ :=
    acceptanceEvent_frame s.ceiling.line e' r (heardAt f e r a s)
  refine ⟨_, taken, ?_⟩
  simp only [State.clocked_frame, beaconAsked_clocked]
  refine ⟨fun armed origin => ?_, fun running => ?_, fun stops => ?_, power, time, inputs, loader, loop, port⟩
  · have judged := running_followed (v := s.ceiling.line) (e := e') loadedNow fitsNow keeps armed origin quiet shows
    rw [consents_heardAt, role] at judged
    simp only [heardAt_frame] at judged
    split
    · next follows =>
      rw [if_pos (by exact follows)] at judged
      split
      · next agrees =>
        rw [if_pos agrees] at judged
        have formed := formedCeiling_of_kept z judged
        obtain ⟨-, -, -, -, -, -, -, ceiling, -, seq, -⟩ := judged.kept
        refine ⟨?_, ?_, judged.asked (beaconAsked_enterState _ _)⟩
        · rw [seq, running_seq]
          rfl
        · rw [formed, ceiling, enterState_ceiling_running]
      · next refuses =>
        rw [if_neg refuses] at judged
        obtain ⟨n, home, from', kept⟩ := judged
        have door := doorJudged_of_kept (m := awayFromStops p s) z kept loadedNow fun _ => by
          rw [show (heardAt f e r a s).seq.state = .armed from armed, misalignedAt_armed]
          rfl
        obtain ⟨-, -, -, -, -, -, -, -, -, seq, -, brakes, -⟩ := kept.kept
        refine ⟨by simp [seq, from'], by rw [seq]; exact enterState_run _ _, ?_, door⟩
        rw [brakes]
        exact allApplied_enterState _ (by rcases home with h | h <;> simp [h])
    · next other =>
      rw [if_neg (by exact other)] at judged
      obtain ⟨-, -, -, -, -, -, -, -, -, seq, -⟩ := judged.kept
      refine ⟨?_, fun still => ?_⟩
      · rw [seq, judgeLineStart_seq]
        rfl
      · rw [seq, judgeLineStart_of_not_drive (by exact still)]
        rfl
  · split
    · next marks =>
      have kept := arrival_followed (v := s.ceiling.line) (e := e') loadedNow fitsNow running marks quiet shows
      have moves := enterStopping_moves (ceilingBeacon s.ceiling.line e' r (heardAt f e r a s))
      have frame := ceilingBeacon_frame s.ceiling.line e' r (heardAt f e r a s)
      generalize ceilingBeacon s.ceiling.line e' r (heardAt f e r a s) = w at *
      simp only [heardAt_frame] at frame
      obtain ⟨-, -, -, loaderW, -, -, trackerW, -, seqW, -, brakesW, -⟩ := frame
      have drive : isDrive w = isDrive s := isDrive_congr loaderW
      have still : standstill w = standstill s := by simp [standstill, trackerW]
      obtain ⟨-, -, -, -, -, -, envelope, ceiling, -, seq, -, brakes, -⟩ := kept.kept
      rw [drive, still, seqW, brakesW] at moves
      obtain ⟨run, line, vperm, asked, applied, leads⟩ := moves
      rw [seq, envelope, ceiling, brakes]
      exact ⟨run, line, vperm, kept.asked asked, applied, leads⟩
    · next other =>
      have kept := acceptanceEvent_of_running (v := s.ceiling.line) (e := e') loadedNow running quiet other
        (sdRole_of_partFits fitsNow (by simp [running]))
      obtain ⟨-, -, -, -, -, -, -, -, -, seq, -⟩ := kept.kept
      rw [seq]
      simp
  · have kept := rest_followed (v := s.ceiling.line) (e := e') loadedNow fitsNow stops quiet shows
    rw [role] at kept
    split
    · next rests =>
      rw [if_pos (by exact rests)] at kept
      have door := doorJudged_of_kept (m := stoppedWide p s) z kept loadedNow fun _ => by
        rw [show (heardAt f e r a s).seq.state = .stopping from stops, misalignedAt_stopping]
        rfl
      obtain ⟨-, -, -, -, -, -, -, -, -, seq, -, brakes, -⟩ := kept.kept
      rw [seq, brakes]
      exact ⟨by simp, enterState_run _ _, (enterState_run_fields (.inl rfl) _).1, allApplied_enterState _ (by simp), door⟩
    · next other =>
      rw [if_neg (by exact other)] at kept
      obtain ⟨-, -, -, -, -, -, -, -, -, seq, -, brakes, -⟩ := kept.kept
      exact ⟨seq, brakes⟩

end Sys2Proof.Machine
end

section
/-! PROOF. WAKE heard from a peer (R181, R182, R188). -/

namespace Sys2Proof.Machine

/-! ## The class through the Run Sequencer's and the Trip Unit's work -/

/-- A class other than the one of `s` has been asked to be shown, and a node out of service is in RUN without a part. -/
structure ClassSettled (s t : State) : Prop where
  fits : partFits t = true
  asked : t.cls.cls = s.cls.cls ∨ beaconAsked t = true
  gone : inService t = false → t.cls.cls = .run ∧ t.cls.sdRole = .none

theorem ClassSettled.of_service {s : State} (fits : partFits s = true) (service : inService s = true) : ClassSettled s s :=
  ⟨fits, .inl rfl, fun out => by simp [service] at out⟩

theorem ClassSettled.of_same {s t u : State} (settled : ClassSettled s t) (cls : u.cls = t.cls)
    (state : u.seq.state = t.seq.state) (asked : beaconAsked t = true → beaconAsked u = true) : ClassSettled s u := by
  obtain ⟨fits, shown, gone⟩ := settled
  refine ⟨?_, ?_, fun out => ?_⟩
  · simpa [partFits, inState, cls, state] using fits
  · exact shown.imp (by simp [cls]) asked
  · rw [cls]
    exact gone (by simpa [inService, inState, state] using out)

theorem ClassSettled.entered {s t : State} (settled : ClassSettled s t) {n : NodeState}
    (allowed : n ≠ .night ∨ t.seq.state ≠ .dwell) : ClassSettled s (enterState n t) := by
  have noPart : (enterState n t).cls.sdRole = .none := by
    rcases allowed with awake | out
    · exact sdRole_enterState settled.fits awake
    · rw [enterState_cls, ClassUnit.entered_sdRole, if_neg (by simp [out])]
      exact sdRole_of_partFits settled.fits out
  refine ⟨by simp [partFits, noPart], .inr (beaconAsked_enterState _ _), fun out => ⟨?_, noPart⟩⟩
  have left : n = .starting ∨ n = .faulted := by
    simp only [inService, inState, enterState_state, Bool.not_eq_false', Bool.or_eq_true, beq_iff_eq] at out
    exact out
  rw [enterState_cls, ClassUnit.entered_cls]
  rcases left with h | h <;> simp [h]

section

variable {s t : State} (settled : ClassSettled s t)

include settled

theorem ClassSettled.requested : ClassSettled s (requestBeacon t) :=
  settled.of_same (by simp) (by simp) fun _ => beaconAsked_requestBeacon t

theorem ClassSettled.lineStart : ClassSettled s (judgeLineStart t) :=
  settled.of_same (by simp) (by rw [judgeLineStart_seq]) beaconAsked_judgeLineStart

theorem ClassSettled.door : ClassSettled s (judgeDoor t) := by
  obtain ⟨b, same⟩ := judgeDoor_released t
  rw [same]
  exact settled.of_same rfl rfl id

theorem ClassSettled.taken (n : RunNo) (d : Direction) (k : Option (Fin 5)) (recovery q : Bool) (i : NodeId) (p : Profile) :
    ClassSettled s (takeRun n d k recovery q i p t) :=
  settled.of_same rfl rfl id

theorem ClassSettled.leftArmed (armed : t.seq.state = .armed) : ClassSettled s (leaveArmed t) :=
  settled.entered (.inr (by simp [armed]))

theorem ClassSettled.adopted (src : NodeId) (r : BeaconRec) (p : Profile) : ClassSettled s (adopt src r p t) := by
  unfold adopt arm
  split
  · refine ClassSettled.entered ?_ (.inl (by simp))
    exact settled.of_same rfl rfl id
  · exact settled

theorem ClassSettled.dispatched (armed : t.seq.state = .armed) (src : NodeId) (r : BeaconRec) (p : Profile) :
    ClassSettled s (dispatchInArmed src r p t) := by
  unfold dispatchInArmed replaceProposal moveToNewer
  dsimp only
  have took := settled.taken t.seq.run r.dir r.leg r.recovery false src p
  split
  · split
    · split
      · split
        · exact took
        · exact took.requested
      · exact took.leftArmed armed
    · exact settled
  · split
    · split
      · exact (settled.taken _ _ _ _ _ _ _).requested
      · exact settled.leftArmed armed
    · exact settled

theorem ClassSettled.follows (armed : t.seq.state = .armed) (r : BeaconRec) : ClassSettled s (followRunning r t) := by
  rw [followRunning_eq]
  split
  · refine ClassSettled.entered ?_ (.inl (by simp))
    exact settled.of_same rfl rfl id
  · exact settled.leftArmed armed

theorem ClassSettled.inArmed (armed : t.seq.state = .armed) (e : Entry) (r : BeaconRec) (p : Profile) :
    ClassSettled s (beaconInArmed e r p t) := by
  have judged : ClassSettled s (if r.dispatch then dispatchInArmed e.id r p t else t) := by
    split
    · exact settled.dispatched armed _ _ _
    · exact settled
  unfold beaconInArmed
  dsimp only
  generalize (if r.dispatch = true then dispatchInArmed e.id r p t else t) = x at judged ⊢
  split
  · next follows =>
    simp only [Bool.and_eq_true, inState, beq_iff_eq] at follows
    exact judged.follows follows.1.1.2 r
  · exact judged.lineStart

theorem ClassSettled.stopping : ClassSettled s (enterStopping t) := by
  have entered := settled.entered (n := .stopping) (.inl (by simp))
  rw [enterStopping_eq]
  split
  · exact entered.entered (.inl (by simp))
  · exact entered

theorem ClassSettled.sequencer (e : Entry) (r : BeaconRec) : ClassSettled s (sequencerBeacon e r t) := by
  unfold sequencerBeacon
  split
  · exact settled
  · next p loaded =>
    split
    · have judged : ClassSettled s (if e.role == .loop then judgeDoor t else t) := by
        split
        · exact settled.door
        · exact settled
      dsimp only
      split
      · exact judged.adopted _ _ _
      · exact judged
    · split
      · exact settled.adopted _ _ _
      · exact settled
    · next armed => exact settled.inArmed armed e r p
    · split
      · exact settled.stopping
      · exact settled
    · split
      · exact settled.entered (.inl (by simp))
      · exact settled
    · exact settled

theorem ClassSettled.cleared : ClassSettled s (judgeClear t) := by
  unfold judgeClear
  dsimp only
  split
  · split
    · refine ClassSettled.entered ?_ (.inl ?_)
      · exact settled.of_same rfl rfl id
      · rcases standingTest_rests ({ t with trips.origin := none, trips.primary := none } : State) with h | h <;>
          rw [h] <;> simp
    · exact settled.of_same rfl rfl id
  · exact settled

end

/-! ## WAKE (R181, R182, R188) -/

theorem beaconAsked_takeWake {s : State} (changes : s.cls.cls ≠ .run ∨ s.seq.state = .night ∨ beaconAsked s = true) :
    beaconAsked (takeWake s) = true := by
  unfold takeWake
  dsimp only
  refine beaconAsked_endStandDown ((classMoved_restartSpell _).asked ?_)
  split
  · exact beaconAsked_setClass_of_asked (beaconAsked_setClass_of_asked (beaconAsked_enterState _ _))
  · next awake =>
    rcases changes with other | night | asked
    · exact beaconAsked_setClass other
    · simp [inState, night] at awake
    · exact beaconAsked_setClass_of_asked asked

/-- A WAKE without a REQUEST gives class RUN and ends a part (R181, R188). -/
theorem classBeacon_of_wake {e : Entry} {r : BeaconRec} {s : State} (service : inService s = true) (wakes : r.wake = true)
    (plain : (r.sdCode == .request && ownField e r) = false) : classBeacon e r s = takeWake s := by
  have woken : wakeHeard r s = takeWake s := by rw [wakeHeard, if_pos wakes]
  have noPart := (takeWake_cls s).2
  have silent : requestHeard e r (takeWake s) = takeWake s := by
    unfold requestHeard
    split
    · rfl
    · rw [if_neg (by simp [plain])]
  rw [classBeacon_eq, if_pos service, woken, silent, judgeAcker_of_not_acking (by simp [noPart]),
    judgeInitiator_of_other (by simp [noPart])]

theorem classBeacon_of_not_inService {e : Entry} {r : BeaconRec} {s : State} (out : inService s = false) :
    classBeacon e r s = s := by
  rw [classBeacon_eq, if_neg (by simp [out])]

/-- An accepted WAKE at a node in service, whatever the Run Sequencer has made of the same beacon (R181, R188). -/
theorem wake_accepted {v : Nat} {e : Entry} {r : BeaconRec} {u : State} (service : inService u = true)
    (fits : partFits u = true) (quiet : r.state ≠ .tripped) (wakes : r.wake = true)
    (plain : (r.sdCode == .request && ownField e r) = false) :
    (acceptanceEvent v e r u).cls.cls = .run ∧ (acceptanceEvent v e r u).cls.sdRole = .none
      ∧ (u.cls.cls ≠ .run → beaconAsked (acceptanceEvent v e r u) = true) := by
  have settled : ClassSettled u (judgeClear (sequencerBeacon e r (ceilingBeacon v e r u))) := by
    have lowered : ClassSettled u (ceilingBeacon v e r u) :=
      (ClassSettled.of_service fits service).of_same (by simp) (by simp) fun asked => (beaconAsked_congr (by simp)).trans asked
    exact (lowered.sequencer e r).cleared
  unfold acceptanceEvent
  rw [tripBeacon_of_no_trip _ quiet]
  generalize judgeClear (sequencerBeacon e r (ceilingBeacon v e r u)) = x at *
  cases serves : inService x with
  | true =>
    rw [classBeacon_of_wake serves wakes plain]
    refine ⟨(takeWake_cls x).1, (takeWake_cls x).2, fun other => beaconAsked_takeWake ?_⟩
    rcases settled.asked with same | asked
    · exact .inl (by rwa [same])
    · exact .inr (.inr asked)
  | false =>
    rw [classBeacon_of_not_inService serves]
    obtain ⟨run, none⟩ := settled.gone serves
    refine ⟨run, none, fun other => settled.asked.resolve_left fun same => other (same ▸ run)⟩

/-- WAKE takes a node out of NIGHT by the standing test (R182). -/
theorem night_left {v : Nat} {e : Entry} {r : BeaconRec} {u : State} (night : u.seq.state = .night)
    (quiet : r.state ≠ .tripped) (wakes : r.wake = true) (plain : (r.sdCode == .request && ownField e r) = false) :
    (acceptanceEvent v e r u).seq.state = standingTest u ∧ (acceptanceEvent v e r u).seq.run = u.seq.run
      ∧ beaconAsked (acceptanceEvent v e r u) = true := by
  have led : sequencerBeacon e r (ceilingBeacon v e r u) = u := by
    rw [ceilingBeacon_of_other (by simp [night])]
    unfold sequencerBeacon
    split
    · rfl
    · simp only [night]
  obtain ⟨o, cleared⟩ := judgeClear_of_not_tripped (s := u) (by simp [night])
  unfold acceptanceEvent
  rw [led, tripBeacon_of_no_trip _ quiet, cleared, classBeacon_of_wake (by simp [inService, inState, night]) wakes plain]
  refine ⟨?_, by rw [takeWake_run], beaconAsked_takeWake (.inr (.inl night))⟩
  simp only [takeWake, inState, night, beq_self_eq_true, if_true, endStandDown_frame, restartSpell_frame, setClass_frame,
    standUp, enterState_state]
  rfl

end Sys2Proof.Machine
end

section
/-! PROOF. The stand-down handshake heard in DWELL (R185 to R188). -/

namespace Sys2Proof.Machine

/-- The states in which the Class Controller judges a beacon that leads to no run, heard at `u` in DWELL. -/
structure HeardInDwell (u x : State) : Prop where
  dwell : x.seq.state = .dwell
  cls : x.cls = u.cls
  loader : x.loader = u.loader
  peers : x.peers = u.peers
  tracker : x.tracker = u.tracker
  time : x.time = u.time

/-- What the Class Controller makes of a beacon without WAKE (R185 to R188). -/
def partJudged (e : Entry) (r : BeaconRec) (s : State) : State := judgeInitiator (judgeAcker e r (requestHeard e r s))

theorem acceptanceEvent_of_dwell {v : Nat} {e : Entry} {r : BeaconRec} {u : State} {p : Profile}
    (loaded : u.loader.profile = some p) (dwells : u.seq.state = .dwell) (sleeps : r.wake = false)
    (keeps : r.dispatch = false) (quiet : r.state ≠ .tripped) :
    ∃ x, HeardInDwell u x ∧ acceptanceEvent v e r u = partJudged e r x := by
  obtain ⟨b, led⟩ := sequencerBeacon_of_resting (e := e) (r := r) loaded (.inl dwells)
  rw [if_neg (by simp [keeps])] at led
  obtain ⟨o, cleared⟩ := judgeClear_of_not_tripped (s := u.released b) (by simp [dwells])
  refine ⟨judgeClear (u.released b), ?_, ?_⟩
  · rw [cleared]
    exact ⟨dwells, rfl, rfl, rfl, rfl, rfl⟩
  · have serves : inService (judgeClear (u.released b)) = true := by
      rw [cleared]
      simp [inService, inState, dwells]
    have asleep : wakeHeard r (judgeClear (u.released b)) = judgeClear (u.released b) := by simp [wakeHeard, sleeps]
    unfold acceptanceEvent
    rw [ceilingBeacon_of_other (by simp [dwells]), led, tripBeacon_of_no_trip _ quiet, classBeacon_eq, if_pos serves, asleep]
    rfl

section

variable {u x : State} (h : HeardInDwell u x)

include h

theorem HeardInDwell.stands : stands x = stands u := by
  simp [Machine.stands, hasEncoder, isDrive, isCar, role, standstill, driveStopped, heardShows, driveEntry, h.loader,
    h.tracker, h.peers]

theorem HeardInDwell.ownId : ownId x = ownId u := by simp [Machine.ownId, h.loader]

theorem HeardInDwell.peerLeftDwell : peerLeftDwell x = peerLeftDwell u := by simp [Machine.peerLeftDwell, h.peers]

theorem HeardInDwell.commitDue : commitDue x = commitDue u := by
  simp [Machine.commitDue, driveHeard, isDrive, role, driveEntry, h.ownId, h.loader, h.peers]

end

/-! ## The answer to a REQUEST (R186) -/

theorem requestHeard_of_plain {e : Entry} {r : BeaconRec} {s : State} (plain : (r.sdCode == .request && ownField e r) = false) :
    requestHeard e r s = s := by
  unfold requestHeard
  split
  · rfl
  · rw [if_neg (by simp [plain])]

theorem requestHeard_of_request {e : Entry} {r : BeaconRec} {s : State} {p : Profile} (loaded : s.loader.profile = some p)
    (request : (r.sdCode == .request && ownField e r) = true) : requestHeard e r s = takeRequest e.id p s := by
  simp only [requestHeard, loaded, request, if_true]

theorem answer_moves (src : NodeId) (p : Profile) (s : State) :
    (answer src p s).seq = s.seq
      ∧ (answer src p s).cls =
        { s.cls with
          sdRole := .acking, sdId := some src, sdDeadline := some (s.time.now + BitVec.ofNat 32 (p.tSd * 1000)) }
      ∧ beaconAsked (answer src p s) = true := by
  refine ⟨by simp, by simp [answer, standDownDeadline, after], beaconAsked_requestBeacon _⟩

/-- The node answers where it holds no part, acks a higher id, or initiates with a higher id, which then has yielded
(R186). -/
theorem takeRequest_answers {src : NodeId} {p : Profile} {s : State} (may : mayAnswer s = true)
    (accepts : s.cls.sdRole = .none ∨ (s.cls.sdRole = .acking ∧ s.cls.sdId.any (fun i => decide (src < i)) = true)
      ∨ (s.cls.sdRole = .initiating ∧ src < ownId s)) :
    takeRequest src p s = answer src p (if s.cls.sdRole = .initiating then endStandDown .yielded s else s) := by
  unfold takeRequest
  rcases accepts with none | ⟨acking, higher⟩ | ⟨initiating, lower⟩
  · simp [none, may]
  · simp [acking, higher, may]
  · have still : mayAnswer (endStandDown .yielded s) = true := by
      rw [← may]
      simp [mayAnswer, inState, stands, hasEncoder, isDrive, isCar, role, standstill, driveStopped, heardShows, driveEntry]
    simp [initiating, lower, still]

theorem request_answered {e : Entry} {r : BeaconRec} {s : State} {p : Profile} (loaded : s.loader.profile = some p)
    (dwells : s.seq.state = .dwell) (still : stands s = true) (request : (r.sdCode == .request && ownField e r) = true)
    (awake : r.state ≠ .night)
    (accepts : s.cls.sdRole = .none ∨ (s.cls.sdRole = .acking ∧ s.cls.sdId.any (fun i => decide (e.id < i)) = true)
      ∨ (s.cls.sdRole = .initiating ∧ e.id < ownId s)) :
    (partJudged e r s).seq.state = .dwell ∧ (partJudged e r s).cls.sdRole = .acking
      ∧ (partJudged e r s).cls.sdId = some e.id
      ∧ (partJudged e r s).cls.sdDeadline = some (s.time.now + BitVec.ofNat 32 (p.tSd * 1000))
      ∧ beaconAsked (partJudged e r s) = true
      ∧ (partJudged e r s).cls.outcome = (if s.cls.sdRole = .initiating then .yielded else s.cls.outcome) := by
  have may : mayAnswer s = true := by simp [mayAnswer, inState, dwells, still]
  have named : requestHeard e r s = answer e.id p (if s.cls.sdRole = .initiating then endStandDown .yielded s else s) := by
    rw [requestHeard_of_request loaded request, takeRequest_answers may accepts]
  obtain ⟨code, own⟩ : r.sdCode = .request ∧ ownField e r = true := by simpa using request
  have begun : (if s.cls.sdRole = .initiating then endStandDown .yielded s else s).seq.state = .dwell
      ∧ (if s.cls.sdRole = .initiating then endStandDown .yielded s else s).time = s.time
      ∧ (if s.cls.sdRole = .initiating then endStandDown .yielded s else s).cls.outcome =
        (if s.cls.sdRole = .initiating then .yielded else s.cls.outcome) := by
    split
    · next initiating => simp [dwells, (endStandDown_of_part (o := .yielded) (s := s) (by simp [initiating])).1]
    · exact ⟨dwells, rfl, rfl⟩
  obtain ⟨state, time, outcome⟩ := begun
  obtain ⟨seq, cls, asked⟩ :=
    answer_moves e.id p (if s.cls.sdRole = .initiating then endStandDown .yielded s else s)
  rw [← named] at seq cls asked
  unfold partJudged
  rw [judgeAcker_of_request _ awake code own, judgeInitiator_of_other (by simp [cls])]
  rw [seq, cls]
  exact ⟨state, rfl, rfl, by rw [time], asked, outcome⟩

/-! ## The initiator (R185, R188) -/

theorem cls_enterState_night {s : State} (dwells : s.seq.state = .dwell) :
    (enterState .night s).cls = s.cls.set .dormant s.time.now := by
  rw [enterState_cls, dwells]
  rfl

theorem commit_moves {s : State} (dwells : s.seq.state = .dwell) (part : s.cls.sdRole ≠ .none) :
    (commit s).seq.state = .night ∧ (commit s).cls.sdRole = .none ∧ (commit s).cls.outcome = .committed
      ∧ (commit s).cls.commit = 3 ∧ (commit s).cls.cls = .dormant ∧ beaconAsked (commit s) = true := by
  have cls : (commit s).cls = _ := cls_enterState_night (by simpa using dwells)
  obtain ⟨ended, -⟩ := endStandDown_of_part (o := .committed) part
  refine ⟨by simp [commit], ?_, ?_, ?_, ?_, beaconAsked_enterState _ _⟩
  all_goals rw [cls]; simp [ended, Config.repeatBeacons]

theorem follow_moves {s : State} (dwells : s.seq.state = .dwell) (part : s.cls.sdRole ≠ .none) :
    (follow s).seq.state = .night ∧ (follow s).cls.sdRole = .none ∧ (follow s).cls.outcome = .committed
      ∧ (follow s).cls.cls = .dormant ∧ (follow s).cls.commit = s.cls.commit ∧ allApplied (follow s).brakes = true := by
  have cls : (follow s).cls = _ := cls_enterState_night (by simpa using dwells)
  obtain ⟨ended, -⟩ := endStandDown_of_part (o := .committed) part
  refine ⟨by simp [follow], ?_, ?_, ?_, ?_, allApplied_enterState _ (by simp)⟩
  all_goals rw [cls]; simp [ended]

theorem initiator_judged {s : State} (dwells : s.seq.state = .dwell) (initiating : s.cls.sdRole = .initiating) :
    if peerLeftDwell s = true then
      (judgeInitiator s).seq.state = .dwell ∧ (judgeInitiator s).cls.sdRole = .none
        ∧ (judgeInitiator s).cls.outcome = .cancelled ∧ beaconAsked (judgeInitiator s) = true
    else if commitDue s = true then
      (judgeInitiator s).seq.state = .night ∧ (judgeInitiator s).cls.sdRole = .none
        ∧ (judgeInitiator s).cls.outcome = .committed ∧ (judgeInitiator s).cls.commit = 3
        ∧ (judgeInitiator s).cls.cls = .dormant ∧ beaconAsked (judgeInitiator s) = true
    else judgeInitiator s = s := by
  have part : s.cls.sdRole ≠ .none := by simp [initiating]
  unfold judgeInitiator
  simp only [initiating, beq_self_eq_true, if_true, inState, dwells, Bool.and_true]
  by_cases left : peerLeftDwell s = true
  · simp only [left, if_true]
    obtain ⟨cls, asked⟩ := endStandDown_of_part (o := .cancelled) part
    exact ⟨by simp [dwells], by rw [cls], by rw [cls], asked⟩
  · simp only [left, Bool.false_eq_true, if_false]
    by_cases due : commitDue s = true
    · simp only [due, if_true]
      exact commit_moves dwells part
    · simp only [due, Bool.false_eq_true, if_false]

/-! ## The acker (R187, R188) -/

theorem acker_judged {e : Entry} {r : BeaconRec} {s : State} (acking : s.cls.sdRole = .acking) (own : s.cls.sdId = some e.id) :
    if r.state = .night ∨ (r.sdCode == .commit && ownField e r) = true then judgeAcker e r s = follow s
    else if (r.sdCode == .request && ownField e r) = true then judgeAcker e r s = s
    else judgeAcker e r s = endStandDown .cancelled s := by
  have mine : (s.cls.sdRole == .acking && s.cls.sdId == some e.id) = true := by simp [acking, own]
  unfold judgeAcker
  rw [if_pos mine]
  by_cases ends : r.state = .night ∨ (r.sdCode == .commit && ownField e r) = true
  · rw [if_pos ends, if_pos (by simpa using ends)]
  · rw [if_neg ends, if_neg (c := (r.state == .night || (r.sdCode == .commit && ownField e r)) = true) (by simpa using ends)]
    have commits : (r.sdCode == .commit && ownField e r) = false := by
      cases shown : (r.sdCode == .commit && ownField e r) with
      | false => rfl
      | true => exact absurd (.inr shown) ends
    rw [Bool.and_or_distrib_right, commits, Bool.or_false]
    by_cases requests : (r.sdCode == .request && ownField e r) = true
    · rw [if_pos requests, if_pos requests]
    · rw [if_neg requests, if_neg requests]

/-- An acker's own initiator, after a REQUEST that it has answered already (R186 to R188). -/
theorem requestHeard_of_own {e : Entry} {r : BeaconRec} {s : State} (acking : s.cls.sdRole = .acking)
    (own : s.cls.sdId = some e.id) : requestHeard e r s = s := by
  unfold requestHeard
  split
  · rfl
  · split
    · simp [takeRequest, acking, own]
    · rfl

theorem acker_follows {e : Entry} {r : BeaconRec} {s : State} (dwells : s.seq.state = .dwell)
    (acking : s.cls.sdRole = .acking) (own : s.cls.sdId = some e.id) :
    if r.state = .night ∨ (r.sdCode == .commit && ownField e r) = true then
      (partJudged e r s).seq.state = .night ∧ (partJudged e r s).cls.sdRole = .none
        ∧ (partJudged e r s).cls.outcome = .committed ∧ (partJudged e r s).cls.cls = .dormant
        ∧ (partJudged e r s).cls.commit = s.cls.commit ∧ allApplied (partJudged e r s).brakes = true
    else if (r.sdCode == .request && ownField e r) = true then partJudged e r s = s
    else
      (partJudged e r s).seq.state = .dwell ∧ (partJudged e r s).cls.sdRole = .none
        ∧ (partJudged e r s).cls.outcome = .cancelled ∧ beaconAsked (partJudged e r s) = true := by
  have part : s.cls.sdRole ≠ .none := by simp [acking]
  have judged := acker_judged (e := e) (r := r) acking own
  unfold partJudged
  rw [requestHeard_of_own acking own]
  split
  · next ends =>
    rw [if_pos ends] at judged
    have moves := follow_moves dwells part
    rw [judged, judgeInitiator_of_other (by simp [moves.2.1])]
    exact moves
  · next goes =>
    rw [if_neg goes] at judged
    split
    · next requests =>
      rw [if_pos requests] at judged
      rw [judged, judgeInitiator_of_other (by simp [acking])]
    · next cancels =>
      rw [if_neg cancels] at judged
      obtain ⟨cls, asked⟩ := endStandDown_of_part (o := .cancelled) part
      rw [judged, judgeInitiator_of_other (by simp [cls])]
      exact ⟨by simp [dwells], by rw [cls], by rw [cls], asked⟩

/-! ## A node without a part (R186, R187) -/

theorem no_part_judged {e : Entry} {r : BeaconRec} {s : State} (noPart : s.cls.sdRole = .none) (dwells : s.seq.state = .dwell) :
    (partJudged e r s).cls.sdRole ≠ .initiating
      ∧ (partJudged e r s).cls.outcome = (if (partJudged e r s).seq.state = .night then .committed else s.cls.outcome) := by
  unfold partJudged
  obtain same | ⟨p, request, own, -, answered⟩ := requestHeard_of_none (e := e) (r := r) noPart
  · rw [same, judgeAcker_of_not_acking (by simp [noPart]), judgeInitiator_of_other (by simp [noPart])]
    simp [noPart, dwells]
  · obtain ⟨seq, cls, -⟩ := answer_moves e.id p s
    rw [answered]
    generalize answer e.id p s = x at *
    have state : x.seq.state = .dwell := by rw [seq, dwells]
    have acking : x.cls.sdRole = .acking := by rw [cls]
    have judged := acker_judged (e := e) (r := r) acking (by rw [cls])
    split at judged
    · obtain ⟨night, none, outcome, -⟩ := follow_moves state (by simp [acking])
      rw [judged, judgeInitiator_of_other (by simp [none])]
      simp [none, outcome, night]
    · rw [if_pos (by simp [request, own])] at judged
      rw [judged, judgeInitiator_of_other (by simp [acking])]
      simp [state, cls]

/-- Settles O49: the wake first, then the part that the node holds. -/
theorem wakeAndStandDownAreHeard : Obligations.WakeAndStandDownAreHeard := by
  intro f e p r requests commits s accepted service fits quiet requestsIs commitsIs
  obtain ⟨a, z, taken⟩ := exec_of_acceptedFresh accepted
  obtain ⟨-, loaded, -, -, -⟩ := (acceptedFresh_iff f e p r s).mp accepted
  have loadedNow : (heardAt f e r a s).loader.profile = some p := loaded
  have fitsNow : partFits (heardAt f e r a s) = true := fits
  have serviceNow : inService (heardAt f e r a s) = true := service
  have id : (beaconEntry (frameSeq f.octets) r e).id = e.id := rfl
  generalize beaconEntry (frameSeq f.octets) r e = e' at *
  have requestOf : (r.sdCode == .request && ownField e' r) = requests := by rw [requestsIs, ownField, id]
  have commitOf : (r.sdCode == .commit && ownField e' r) = commits := by rw [commitsIs, ownField, id]
  clear requestsIs commitsIs
  obtain ⟨power, time, inputs, loader, -, loop, port, -⟩ :=
    acceptanceEvent_frame s.ceiling.line e' r (heardAt f e r a s)
  have cls : ∀ t : State, (t.clocked z).cls.sdRole = t.cls.sdRole ∧ (t.clocked z).cls.cls = t.cls.cls
      ∧ (t.clocked z).cls.outcome = t.cls.outcome ∧ (t.clocked z).cls.sdId = t.cls.sdId
      ∧ (t.clocked z).cls.sdDeadline = t.cls.sdDeadline ∧ (t.clocked z).cls.commit = t.cls.commit :=
    fun _ => ⟨rfl, rfl, rfl, rfl, rfl, rfl⟩
  refine ⟨_, taken, ?_⟩
  simp only [cls, beaconAsked_clocked]
  simp only [State.clocked_frame]
  refine ⟨fun wakes plain => ?_, fun dwells sleeps keeps => ?_, power, time, inputs, loader, loop, port⟩
  · rw [← requestOf] at plain
    obtain ⟨run, none, asks⟩ := wake_accepted (v := s.ceiling.line) serviceNow fitsNow quiet wakes plain
    refine ⟨run, none, fun night => ?_, asks⟩
    exact night_left (u := heardAt f e r a s) night quiet wakes plain
  · obtain ⟨x, heard, event⟩ := acceptanceEvent_of_dwell (v := s.ceiling.line) (e := e') loadedNow dwells sleeps keeps quiet
    rw [event]
    have loadedX : x.loader.profile = some p := by rw [heard.loader]; exact loaded
    have clsX : x.cls = s.cls := heard.cls
    have timeX : x.time = s.time := heard.time
    have ownX : ownId x = ownId s := heard.ownId
    have leftX : peerLeftDwell x = peerLeftDwell (renewed f e r s) := heard.peerLeftDwell
    have dueX : commitDue x = commitDue (renewed f e r s) := heard.commitDue
    have standsX : stands x = stands (renewed f e r s) := heard.stands
    refine ⟨fun none => ?_, fun request awake still accepts => ?_, fun initiating plain => ?_, fun acking own => ?_⟩
    · rw [← clsX] at none ⊢
      exact no_part_judged none heard.dwell
    · rw [← clsX, ← ownX, ← id] at accepts
      have judged := request_answered (r := r) loadedX heard.dwell (standsX.trans still) (requestOf.trans request) awake
        accepts
      rw [timeX, clsX, id] at judged
      exact judged
    · have judged := initiator_judged heard.dwell (by rw [clsX]; exact initiating)
      rw [leftX, dueX] at judged
      have named : partJudged e' r x = judgeInitiator x := by
        rw [partJudged, requestHeard_of_plain (requestOf.trans plain), judgeAcker_of_not_acking (by simp [clsX, initiating])]
      rw [named]
      by_cases left : peerLeftDwell (renewed f e r s) = true
      · rw [if_pos left] at judged ⊢
        exact judged
      · rw [if_neg left] at judged ⊢
        by_cases due : commitDue (renewed f e r s) = true
        · rw [if_pos due] at judged ⊢
          exact judged
        · rw [if_neg due] at judged ⊢
          rw [judged, clsX]
          exact ⟨heard.dwell, initiating, rfl, rfl⟩
    · have judged := acker_follows (e := e') (r := r) heard.dwell (by rw [clsX]; exact acking) (by rw [clsX, id]; exact own)
      rw [commitOf, requestOf] at judged
      by_cases ends : r.state = .night ∨ commits = true
      · rw [if_pos ends] at judged ⊢
        rw [clsX] at judged
        exact judged
      · rw [if_neg ends] at judged ⊢
        by_cases request : requests = true
        · rw [if_pos request] at judged ⊢
          rw [judged, clsX]
          exact ⟨heard.dwell, acking, own, rfl⟩
        · rw [if_neg request] at judged ⊢
          exact judged

end Sys2Proof.Machine
end

section
/-! PROOF. A peer's own trip heard (R168, R169, R174). -/

namespace Sys2Proof.Machine

/-! ## The state in which the acceptance event runs, from any listed peer -/

/-- The renewed entry's change signal, where the entry was not FRESH (R87). -/
def toldOf (e : Entry) (e' : Entry) (s : State) : State := if e.fresh = .fresh then s else changeSignal e' false s

theorem acceptBeacon_told (f : RxFrame) (e : Entry) (r : BeaconRec) (s : State) :
    ∃ a, acceptBeacon (frameSeq f.octets) r e (endFrame s) =
      acceptanceEvent s.ceiling.line (beaconEntry (frameSeq f.octets) r e) r
        (toldOf e (beaconEntry (frameSeq f.octets) r e) (heardAt f e r a s)) := by
  have owed : ∃ a, (if returns e then requestAnnounce (heardAt f e r (endFrame s).access s)
      else heardAt f e r (endFrame s).access s) = heardAt f e r a s := by
    split
    · obtain ⟨a, same⟩ := requestAnnounce_access (heardAt f e r (endFrame s).access s)
      exact ⟨a, by rw [same]; rfl⟩
    · exact ⟨_, rfl⟩
  obtain ⟨a, owed⟩ := owed
  have asked : ∃ b, (if r.annReq then honour (heardAt f e r a s) else heardAt f e r a s) = heardAt f e r b s := by
    split
    · obtain ⟨b, same⟩ := honour_access (heardAt f e r a s)
      exact ⟨b, by rw [same]; rfl⟩
    · exact ⟨_, rfl⟩
  obtain ⟨b, asked⟩ := asked
  refine ⟨b, ?_⟩
  unfold acceptBeacon toldOf
  simp only [putEntry_endFrame, owed, asked, beq_iff_eq]
  rfl

theorem exec_of_accepted {f : RxFrame} {e : Entry} {p : Profile} {r : BeaconRec} {s : State}
    (framedOf : framed .beacon f e s = true) (loaded : s.loader.profile = some p)
    (parsed : parseBeacon p.length p.wMax f.octets = some r) (newer : sequenceAccepts e (frameSeq f.octets) = true) :
    ∃ a z, exec (.receiveBeacon f) s = .next
      ((acceptanceEvent s.ceiling.line (beaconEntry (frameSeq f.octets) r e) r
        (toldOf e (beaconEntry (frameSeq f.octets) r e) (heardAt f e r a s))).clocked z) := by
  obtain ⟨z, taken⟩ := act_clocked (receive .beacon takeBeacon f) (held_of_framed framedOf)
  obtain ⟨a, event⟩ := acceptBeacon_told f e r s
  rw [receive_of_framed takeBeacon framedOf loaded, takeBeacon_of_parsed e (endFrame s) parsed, if_pos newer, event] at taken
  exact ⟨a, z, taken⟩

/-! ## A node in service and out of TRIPPED stays so until the Trip Unit judges -/

/-- In service, out of TRIPPED, with a sound origin state and a part only in DWELL. -/
structure Underway (t : State) : Prop where
  state : t.seq.state ∈ [NodeState.dwell, .hold, .armed, .running, .stopping, .night]
  origin : t.seq.state = .armed → t.seq.origin = some .dwell ∨ t.seq.origin = some .hold
  fits : partFits t = true

theorem Underway.of_same {t u : State} (way : Underway t) (state : u.seq.state = t.seq.state)
    (origin : u.seq.origin = t.seq.origin) (role : u.cls.sdRole = t.cls.sdRole) : Underway u := by
  obtain ⟨states, from', fits⟩ := way
  refine ⟨by rwa [state], by rwa [state, origin], ?_⟩
  rw [partFits_iff] at fits ⊢
  rwa [state, role]

theorem Underway.entered {t : State} (way : Underway t) {n : NodeState}
    (within : n = .dwell ∨ n = .hold ∨ n = .running ∨ n = .stopping) : Underway (enterState n t) := by
  have noPart : (enterState n t).cls.sdRole = .none := sdRole_enterState way.fits (by rcases within with h | h | h | h <;> simp [h])
  refine ⟨?_, ?_, by simp [partFits, noPart]⟩
  all_goals rcases within with h | h | h | h <;> simp [h]

section

variable {t : State} (way : Underway t)

include way

theorem Underway.lineStart : Underway (judgeLineStart t) :=
  way.of_same (by rw [judgeLineStart_seq]) (by rw [judgeLineStart_seq]) (by simp)

theorem Underway.door : Underway (judgeDoor t) := by
  obtain ⟨b, same⟩ := judgeDoor_released t
  rw [same]
  exact way.of_same rfl rfl rfl

theorem Underway.leftArmed (armed : t.seq.state = .armed) : Underway (leaveArmed t) := by
  rcases way.origin armed with h | h <;> rw [leaveArmed_of_origin h]
  · exact way.entered (.inl rfl)
  · exact way.entered (.inr (.inl rfl))

theorem Underway.consentJudged : Underway (judgeConsent t) := by
  unfold judgeConsent
  split
  · next armed => exact way.leftArmed (by simp [inState] at armed; exact armed.1)
  · exact way

theorem Underway.adopted (rests : t.seq.state = .dwell ∨ t.seq.state = .hold) (src : NodeId) (r : BeaconRec) (p : Profile) :
    Underway (adopt src r p t) := by
  unfold adopt
  split
  · have noPart : (arm (takeRun r.run r.dir r.leg r.recovery false src p t)).cls.sdRole = .none :=
      sdRole_enterState (s := { takeRun r.run r.dir r.leg r.recovery false src p t with seq.origin := _ }) way.fits (by simp)
    refine ⟨by simp [arm], fun _ => ?_, by simp [partFits, noPart]⟩
    rw [arm_seq]
    exact rests.imp (congrArg some) (congrArg some)
  · exact way

theorem Underway.dispatched (armed : t.seq.state = .armed) (e : Entry) (r : BeaconRec) (p : Profile) :
    Underway (dispatchInArmed e.id r p t) := by
  have cases := dispatchInArmed_cases e r p t
  split at cases
  · split at cases
    · obtain ⟨a, took, -⟩ := cases
      rw [took]
      exact way.of_same rfl rfl rfl
    · obtain ⟨q, leaves, state, origin, -⟩ := cases
      rw [leaves]
      exact (way.of_same (u := { t with seq := q }) state origin rfl).leftArmed (state.trans armed)
  · rw [cases]
    exact way

theorem Underway.inArmed (armed : t.seq.state = .armed) {e : Entry} {r : BeaconRec} (other : r.state ≠ .running)
    (p : Profile) : Underway (beaconInArmed e r p t) := by
  have judged : Underway (if r.dispatch then dispatchInArmed e.id r p t else t) := by
    split
    · exact way.dispatched armed e r p
    · exact way
  unfold beaconInArmed
  dsimp only
  rw [if_neg (by simp [other])]
  exact judged.lineStart

theorem Underway.stopping : Underway (enterStopping t) := by
  have entered := way.entered (n := .stopping) (.inr (.inr (.inr rfl)))
  rw [enterStopping_eq]
  split
  · exact entered.entered (.inl rfl)
  · exact entered

theorem Underway.sequencer {e : Entry} {r : BeaconRec} (other : r.state ≠ .running) : Underway (sequencerBeacon e r t) := by
  unfold sequencerBeacon
  split
  · exact way
  · next p loaded =>
    split
    · next dwells =>
      have judged : Underway (if e.role == .loop then judgeDoor t else t) ∧
          (if e.role == .loop then judgeDoor t else t).seq.state = .dwell := by
        split
        · obtain ⟨b, same⟩ := judgeDoor_released t
          exact ⟨way.door, by rw [same]; exact dwells⟩
        · exact ⟨way, dwells⟩
      dsimp only
      split
      · exact judged.1.adopted (.inl judged.2) _ _ _
      · exact judged.1
    · next holds =>
      split
      · exact way.adopted (.inr holds) _ _ _
      · exact way
    · next armed => exact way.inArmed armed other p
    · split
      · exact way.stopping
      · exact way
    · split
      · exact way.entered (.inl rfl)
      · exact way
    · exact way

theorem Underway.signalled (e : Entry) : Underway (sequencerSignal e t) := by
  unfold sequencerSignal
  dsimp only
  split
  · exact way.consentJudged.lineStart.door
  · exact way.consentJudged.lineStart

end

/-! ## The change signal of a peer that shows TRIPPED (R169, R188) -/

theorem judgeClear_of_no_origin {s : State} (none : s.trips.origin = none) : judgeClear s = s := by
  simp [judgeClear, none]

/-- An entry in the table that shows TRIPPED on a cause of its own. -/
structure ShowsTrip (e : Entry) (s : State) : Prop where
  listed : e ∈ s.peers
  holds : holdsPeerTrip e = true

theorem ShowsTrip.left {e : Entry} {s : State} (shows : ShowsTrip e s) : peerLeftDwell s = true := by
  refine List.any_eq_true.mpr ⟨e, shows.listed, ?_⟩
  have holds := shows.holds
  simp only [holdsPeerTrip, Bool.and_eq_true] at holds ⊢
  refine ⟨holds.1, ?_⟩
  have record := holds.2
  unfold recordShows at record ⊢
  cases shown : e.beacon with
  | none => simp [shown] at record
  | some r =>
    simp only [shown, Option.any_some, Bool.and_eq_true, beq_iff_eq] at record ⊢
    simp [record.1]

theorem ShowsTrip.keeps_origin {e : Entry} {s : State} (shows : ShowsTrip e s) : judgeClear s = s := by
  have any : s.peers.any holdsPeerTrip = true := List.any_eq_true.mpr ⟨e, shows.listed, shows.holds⟩
  simp [judgeClear, any]

/-- With a peer out of DWELL an initiator's part is cancelled, whatever the answers are (R188; log entry 28). -/
theorem classSignal_of_left {s : State} (left : peerLeftDwell s = true) :
    classSignal s = s ∨ classSignal s = endStandDown .cancelled s := by
  unfold classSignal judgeInitiator
  simp only [left, if_true]
  split
  · split
    · exact .inr rfl
    · exact .inl rfl
  · exact .inl rfl

theorem Underway.ended {t : State} (way : Underway t) (o : StandDownOutcome) : Underway (endStandDown o t) := by
  obtain ⟨states, from', -⟩ := way
  exact ⟨by simpa using states, by simpa using from', by simp [partFits]⟩

section

variable {e : Entry} {s : State} (shows : ShowsTrip e s) (none : s.trips.origin = none)

include shows none

/-- The change signal leaves the trips as they stand, and a node that is under way so (R94). -/
theorem changeSignal_of_trip (e' : Entry) :
    (changeSignal e' false s).trips = s.trips ∧ (Underway s → Underway (changeSignal e' false s)) := by
  have formed : ceilingSignal false s = formCeiling s := by simp [ceilingSignal]
  have frame : (sequencerSignal e' (formCeiling s)).trips = s.trips ∧ (sequencerSignal e' (formCeiling s)).peers = s.peers := by
    simp
  have way : Underway s → Underway (sequencerSignal e' (formCeiling s)) := fun way =>
    (way.of_same (u := formCeiling s) (by simp) (by simp) (by simp)).signalled e'
  unfold changeSignal
  rw [formed]
  generalize sequencerSignal e' (formCeiling s) = x at *
  rw [judgeClear_of_no_origin (by rw [frame.1]; exact none)]
  have left : peerLeftDwell x = true := ShowsTrip.left ⟨by rw [frame.2]; exact shows.listed, shows.holds⟩
  rcases classSignal_of_left left with same | ended
  · rw [same]
    exact ⟨frame.1, way⟩
  · rw [ended]
    exact ⟨by simp [frame.1], fun begun => (way begun).ended _⟩

end

/-- In TRIPPED a change signal forms the ceiling anew and nothing else (R94). -/
theorem changeSignal_of_tripped {s : State} (e' : Entry) (origin : s.trips.origin = none) (tripped : s.seq.state = .tripped)
    (noPart : s.cls.sdRole = .none) : changeSignal e' false s = formCeiling s := by
  have formed : ceilingSignal false s = formCeiling s := by simp [ceilingSignal]
  have judged : sequencerSignal e' (formCeiling s) = formCeiling s := by
    have door : judgeDoor (formCeiling s) = formCeiling s := by
      unfold judgeDoor
      split
      · rfl
      · rw [if_neg (by simp [inState, tripped])]
    unfold sequencerSignal
    dsimp only
    rw [judgeConsent_of_not_armed (by simp [tripped]), judgeLineStart_of_other (.inr (.inl (by simp [tripped]))), door, ite_self]
  unfold changeSignal
  rw [formed, judged, judgeClear_of_no_origin (by simpa using origin)]
  unfold classSignal
  rw [judgeInitiator_of_other (by simp [noPart]), ite_self]

/-! ## The peer trip raised (R168, R174) -/

/-- Out of DWELL and without a part, a beacon's WAKE is all that the Class Controller takes (R181). -/
theorem classBeacon_of_no_part {e : Entry} {r : BeaconRec} {s : State} (service : inService s = true)
    (out : s.seq.state ≠ .dwell) (awake : s.seq.state ≠ .night) (noPart : s.cls.sdRole = .none) :
    classBeacon e r s = wakeHeard r s := by
  have part := wakeHeard_sdRole (r := r) noPart
  obtain ⟨a, c, moved⟩ := (classMoved_wakeHeard (r := r) awake).rest
  have seq : (wakeHeard r s).seq = s.seq := by rw [moved]
  obtain same | ⟨p, -, -, dwells, -⟩ := requestHeard_of_none (e := e) (r := r) part
  · rw [classBeacon_eq, if_pos service, same, judgeAcker_of_not_acking (by simp [part]),
      judgeInitiator_of_other (by simp [part])]
  · exact absurd (by rw [← seq]; exact dwells) out

theorem tripBeacon_of_trip {e : Entry} {r : BeaconRec} {c : Cause} {s : State} (service : inService s = true)
    (none : s.trips.origin = none) (trips : r.state = .tripped) (cause : r.cause = some c) (own : ownCause c = true)
    (shows : ShowsTrip e s) : tripBeacon e r s = raisePeerTrip e.id c s := by
  unfold tripBeacon
  dsimp only
  rw [if_pos (by simp [service, none, trips]), cause]
  dsimp only
  rw [if_pos own]
  refine ShowsTrip.keeps_origin (e := e) ⟨?_, shows.holds⟩
  by_cases tripped : s.seq.state = .tripped
  · rw [raisePeerTrip_of_tripped tripped]
    exact shows.listed
  · rw [raisePeerTrip_of_trips tripped, (enterState_frame _ _).2.2.2.2.1]
    exact shows.listed

/-- The raised trip stands when the Class Controller has taken the same beacon. -/
theorem classBeacon_of_tripped {e : Entry} {r : BeaconRec} {s : State} (tripped : s.seq.state = .tripped)
    (noPart : s.cls.sdRole = .none) : (classBeacon e r s).seq = s.seq ∧ (classBeacon e r s).trips = s.trips
      ∧ (standsTripped s = true → standsTripped (classBeacon e r s) = true) := by
  have service : inService s = true := by simp [inService, inState, tripped]
  rw [classBeacon_of_no_part service (by simp [tripped]) (by simp [tripped]) noPart]
  have moved := classMoved_wakeHeard (r := r) (s := s) (by simp [tripped])
  have run : s.cls.cls = .run → (wakeHeard r s).cls.cls = .run := by
    intro run
    unfold wakeHeard
    split
    · exact (takeWake_cls s).1
    · exact run
  obtain ⟨⟨a, c, same⟩, asked⟩ := moved
  rw [same] at run asked ⊢
  refine ⟨rfl, rfl, fun stands => ?_⟩
  simp only [standsTripped, inState, Bool.and_eq_true, beq_iff_eq] at stands ⊢
  obtain ⟨rest, shown⟩ := stands
  obtain ⟨⟨rest, cls⟩, still⟩ := rest
  exact ⟨⟨⟨rest, run cls⟩, still⟩, asked shown⟩

section

variable {v : Nat} {e : Entry} {r : BeaconRec} {c : Cause} {u : State}

/-- Out of TRIPPED a peer's own trip trips the node (R168). -/
theorem peer_trip_trips (way : Underway u) (none : u.trips.origin = none) (trips : r.state = .tripped)
    (cause : r.cause = some c) (own : ownCause c = true) (shows : ShowsTrip e u) :
    (acceptanceEvent v e r u).seq.state = .tripped ∧ standsTripped (acceptanceEvent v e r u) = true
      ∧ ∃ w : State, w.trips = u.trips
        ∧ (acceptanceEvent v e r u).trips = (peerTripRecorded e.id c false w).trips := by
  have lowered : Underway (ceilingBeacon v e r u) := way.of_same (by simp) (by simp) (by simp)
  have led : Underway (sequencerBeacon e r (ceilingBeacon v e r u)) := lowered.sequencer (by simp [trips])
  have trips' : (sequencerBeacon e r (ceilingBeacon v e r u)).trips = u.trips := by simp
  have peers : (sequencerBeacon e r (ceilingBeacon v e r u)).peers = u.peers := by simp
  unfold acceptanceEvent
  generalize sequencerBeacon e r (ceilingBeacon v e r u) = w at *
  have out : w.seq.state ≠ .tripped := by
    intro tripped
    simpa [tripped] using led.state
  have service : inService w = true := by
    have within := led.state
    simp only [inService, inState, Bool.not_eq_true', Bool.or_eq_false_iff, beq_eq_false_iff_ne]
    constructor <;> intro left <;> simp [left] at within
  have fits : partFits (peerTripRecorded e.id c false w) = true := led.fits
  rw [tripBeacon_of_trip service (by rw [trips']; exact none) trips cause own ⟨by rw [peers]; exact shows.listed, shows.holds⟩,
    raisePeerTrip_of_trips out]
  have noPart := sdRole_enterState (n := .tripped) fits (by simp)
  obtain ⟨seq, records, stands⟩ := classBeacon_of_tripped (e := e) (r := r) (enterState_state .tripped _) noPart
  refine ⟨by rw [seq]; simp, stands (standsTripped_enterState _), w, trips', ?_⟩
  rw [records]
  simp

/-- In TRIPPED it is a secondary cause (R168). -/
theorem peer_trip_recorded (tripped : u.seq.state = .tripped) (noPart : u.cls.sdRole = .none)
    (none : u.trips.origin = none) (trips : r.state = .tripped) (cause : r.cause = some c) (own : ownCause c = true)
    (shows : ShowsTrip e u) :
    (acceptanceEvent v e r u).seq.state = .tripped
      ∧ (acceptanceEvent v e r u).trips = (peerTripRecorded e.id c true u).trips := by
  have led : sequencerBeacon e r (ceilingBeacon v e r u) = u := by
    rw [ceilingBeacon_of_other (by simp [tripped])]
    unfold sequencerBeacon
    split
    · rfl
    · simp only [tripped]
  unfold acceptanceEvent
  rw [led, tripBeacon_of_trip (by simp [inService, inState, tripped]) none trips cause own shows,
    raisePeerTrip_of_tripped tripped]
  obtain ⟨seq, records, -⟩ :=
    classBeacon_of_tripped (e := e) (r := r) (s := peerTripRecorded e.id c true u) tripped noPart
  exact ⟨by rw [seq]; exact tripped, records⟩

end

/-- The records after one more is appended are those of the history and the serial before it. -/
theorem appended_of_history {s u v : State} {r : TripRecord} (history : u.trips.history = s.trips.history)
    (serial : u.trips.nextSerial = s.trips.nextSerial) (after : v.trips.history = (appendRecord r u).trips.history)
    (next : v.trips.nextSerial = (appendRecord r u).trips.nextSerial) : appended r s v = true := by
  simp [appended, keptRecords, after, next, appendRecord, history, serial, nextSerialAfter, Config.tripRecords]

theorem peerRecord_eq {id : NodeId} {c : Cause} {s u : State} (time : u.time = s.time) (seq : u.seq = s.seq)
    (loader : u.loader = s.loader) (tracker : u.tracker = s.tracker) (serial : u.trips.nextSerial = s.trips.nextSerial) :
    tripRecord u .peerTrip true (some (id, c)) u.seq.state =
      { firstRecord .peerTrip (some (id, c)) s with secondary := true, ceiling := 0, vperm := 0 } := by
  simp [tripRecord, firstRecord, shownPosition, shownQuality, shownSpeed, shownMotion, reported, positionCm, cpm, hasEncoder,
    isDrive, isCar, role, inState, time, seq, loader, tracker, serial]

/-- In TRIPPED the renewed entry's change signal leaves what a trip record shows. -/
theorem toldOf_of_tripped {e e' : Entry} {s : State} (none : s.trips.origin = none) (tripped : s.seq.state = .tripped)
    (noPart : s.cls.sdRole = .none) :
    (toldOf e e' s).seq = s.seq ∧ (toldOf e e' s).loader = s.loader ∧ (toldOf e e' s).tracker = s.tracker
      ∧ (toldOf e e' s).trips = s.trips ∧ (toldOf e e' s).time = s.time ∧ (toldOf e e' s).cls = s.cls
      ∧ (toldOf e e' s).peers = s.peers := by
  unfold toldOf
  split
  · exact ⟨rfl, rfl, rfl, rfl, rfl, rfl, rfl⟩
  · rw [changeSignal_of_tripped e' none tripped noPart]
    simp

theorem toldOf_of_trip {e e' : Entry} {s : State} (shows : ShowsTrip e' s) (none : s.trips.origin = none) (way : Underway s) :
    Underway (toldOf e e' s) ∧ (toldOf e e' s).trips = s.trips ∧ (toldOf e e' s).peers = s.peers := by
  unfold toldOf
  split
  · exact ⟨way, rfl, rfl⟩
  · obtain ⟨trips, begun⟩ := changeSignal_of_trip shows none e'
    exact ⟨begun way, trips, by simp⟩

theorem underway_of_gated {s : State} (service : inService s = true) (out : s.seq.state ≠ .tripped)
    (gated : originGated s = true) (fits : partFits s = true) : Underway s := by
  refine ⟨?_, fun armed => ?_, fits⟩
  · cases state : s.seq.state <;> simp_all [inService, inState]
  · simpa [originGated, inState, armed] using gated

theorem standsTripped_clocked (z : Option Time) (s : State) : standsTripped (s.clocked z) = standsTripped s := rfl

theorem State.clocked_trips (z : Option Time) (s : State) : (s.clocked z).trips = s.trips := rfl

/-- Settles O28: the peer's trip is raised in the state to which the beacon's own changes have led. -/
theorem peerTripIsRaised : Obligations.PeerTripIsRaised := by
  intro f e p r c s framedOf service loaded parsed newer trips cause other code none part gated
  obtain ⟨a, z, taken⟩ := exec_of_accepted framedOf loaded parsed newer
  have listed : beaconEntry (frameSeq f.octets) r e ∈ (heardAt f e r a s).peers := renewed_listed framedOf
  have holds : holdsPeerTrip (beaconEntry (frameSeq f.octets) r e) = true := by
    simp [holdsPeerTrip, heard, recordShows, beaconEntry, trips, cause, other]
  have id : (beaconEntry (frameSeq f.octets) r e).id = e.id := rfl
  generalize beaconEntry (frameSeq f.octets) r e = e' at *
  have own : ownCause c = true := by simp [ownCause, code, other]
  have shows : ShowsTrip e' (heardAt f e r a s) := ⟨listed, holds⟩
  have fits : partFits s = true := (partFits_iff s).mpr part
  refine ⟨_, taken, ?_⟩
  rw [← id, standsTripped_clocked]
  simp only [State.clocked_frame]
  by_cases tripped : s.seq.state = .tripped
  · have noPart := sdRole_of_partFits fits (by simp [tripped])
    obtain ⟨seq, loader, tracker, records, time, cls, peers⟩ :=
      toldOf_of_tripped (e := e) (e' := e') (s := heardAt f e r a s) none tripped noPart
    generalize toldOf e e' (heardAt f e r a s) = u at *
    simp only [heardAt_frame] at seq loader tracker records time cls
    obtain ⟨state, recorded⟩ := peer_trip_recorded (v := s.ceiling.line) (u := u) (by rw [seq]; exact tripped)
      (by rw [cls]; exact noPart) (by rw [records]; exact none) trips cause own ⟨by rw [peers]; exact listed, holds⟩
    generalize acceptanceEvent s.ceiling.line e' r u = t at *
    refine ⟨state, by rw [recorded]; rfl, ?_, fun _ => ⟨?_, ?_⟩, fun out => absurd tripped out⟩
    · rw [recorded, ← records]
      rfl
    · rw [recorded, ← records]
      rfl
    · rw [← peerRecord_eq time seq loader tracker (by rw [records])]
      apply appended_of_history (u := u) (by rw [records]) (by rw [records])
      · rw [State.clocked_trips, recorded]
        rfl
      · rw [State.clocked_trips, recorded]
        rfl
  · have way : Underway (heardAt f e r a s) := underway_of_gated service tripped gated fits
    obtain ⟨wayNow, records, peers⟩ := toldOf_of_trip (e := e) shows none way
    generalize toldOf e e' (heardAt f e r a s) = u at *
    obtain ⟨state, stands, w, same, recorded⟩ := peer_trip_trips (v := s.ceiling.line) wayNow (by rw [records]; exact none)
      trips cause own ⟨by rw [peers]; exact listed, holds⟩
    generalize acceptanceEvent s.ceiling.line e' r u = t at *
    have recordsS : w.trips = s.trips := same.trans records
    refine ⟨state, by rw [recorded]; rfl, ?_, fun still => absurd still tripped, fun _ => ⟨stands, ?_, ?_, ?_⟩⟩
    · rw [recorded, ← recordsS]
      rfl
    · rw [recorded]
      rfl
    · rw [recorded]
      simp [peerTripRecorded, appendRecord, tripRecord]
    · rw [recorded]
      simp [peerTripRecorded, appendRecord, tripRecord]

end Sys2Proof.Machine
end

section
/-! PROOF. Without the origin state DWELL or HOLD of R132 a sample tick can lead from ARMED into RUNNING, past the
supervision of that tick (R114, R115, R132). -/

namespace Sys2Proof.Machine

/-- Car A in ARMED at a sample tick, its consent lost and its origin state RUNNING, with 400 counts to take. -/
def strayOrigin : State :=
  { State.reset with
    time.now := 100000
    time.sampleDue := true
    loader.straps := ⟨.car, .a, 2⟩
    loader.stage := .ended
    loader.outcome := .loaded
    loader.revision := 1
    loader.profile := some shortLine
    tracker.counts := 5000
    tracker.quality := .marked
    tracker.delta := 400
    seq.state := .armed
    seq.origin := some .running
    seq.run := 1 }

theorem strayOrigin_ticks : held strayOrigin = false ∧ hasEncoder strayOrigin = true ∧ inService strayOrigin = true
    ∧ strayOrigin.time.sampleDue = true ∧ strayOrigin.loader.profile = some shortLine := by decide +kernel

/-- The tick leaves ARMED for RUNNING at 1,000 cm/s, with a limit of 100. -/
theorem strayOrigin_runs :
    (settleSpell strayOrigin (sampleTick strayOrigin)).seq.state = .running
      ∧ ¬(settleSpell strayOrigin (sampleTick strayOrigin)).tracker.speed
          ≤ (settleSpell strayOrigin (sampleTick strayOrigin)).ceiling.limit + shortLine.tTrip := by decide +kernel

/-- Refutes O19: the statement does not suppose that the origin state of an ARMED node is DWELL or HOLD (R132), and out of
another the tick's last judgement enters RUNNING, after the speed has been supervised. -/
theorem not_sampleTickSupervises : ¬ Obligations.SampleTickSupervises := by
  intro supervises
  obtain ⟨live, encoder, service, due, loaded⟩ := strayOrigin_ticks
  obtain ⟨t, taken, runs, -⟩ := supervises shortLine strayOrigin live encoder service due loaded
  obtain ⟨state, fast⟩ := strayOrigin_runs
  have executed : exec .sampleTick strayOrigin = .next (settleSpell strayOrigin (sampleTick strayOrigin)) :=
    act_of_not_held _ live
  obtain rfl : settleSpell strayOrigin (sampleTick strayOrigin) = t := by simpa [executed] using taken
  exact fast (runs state).2.2

end Sys2Proof.Machine
end

section
/-! PROOF. What follows the Envelope Calculator in a sample tick, block by block: the ceiling unit, the Loop Monitor, the Run
Sequencer and the Trip Unit's clearing (R89, R110 to R115, R137 to R142, R153, R169). -/

namespace Sys2Proof.Machine

/-! ## The command -/

/-- The state in which the blocks work at a sample tick. -/
def State.ticked (s : State) : State := { s with time.sampleDue := false }

@[simp] theorem State.ticked_frame (s : State) :
    s.ticked.power = s.power ∧ s.ticked.time = { s.time with sampleDue := false } ∧ s.ticked.inputs = s.inputs
      ∧ s.ticked.loader = s.loader ∧ s.ticked.access = s.access ∧ s.ticked.peers = s.peers
      ∧ s.ticked.tracker = s.tracker ∧ s.ticked.envelope = s.envelope ∧ s.ticked.ceiling = s.ceiling
      ∧ s.ticked.generator = s.generator ∧ s.ticked.seq = s.seq ∧ s.ticked.loop = s.loop ∧ s.ticked.brakes = s.brakes
      ∧ s.ticked.trips = s.trips ∧ s.ticked.cls = s.cls ∧ s.ticked.port = s.port ∧ s.ticked.pending = s.pending :=
  ⟨rfl, rfl, rfl, rfl, rfl, rfl, rfl, rfl, rfl, rfl, rfl, rfl, rfl, rfl, rfl, rfl, rfl⟩

theorem exec_sampleTick {s : State} (live : held s = false) (due : s.time.sampleDue = true) (begun : s.seq.state ≠ .starting) :
    ∃ z, exec .sampleTick s = .next ((sampleWork s.ticked).clocked z) := by
  obtain ⟨z, taken⟩ := act_clocked sampleTick live
  have works : sampleTick s = sampleWork s.ticked := by
    unfold sampleTick
    rw [if_pos due, if_neg (by simp [inState, begun])]
    rfl
  exact ⟨z, by rw [← works]; exact taken⟩

/-- What a sample tick leaves alone. -/
theorem sampleWork_frame (s : State) :
    (sampleWork s).power = s.power ∧ (sampleWork s).time = s.time ∧ (sampleWork s).inputs = s.inputs
      ∧ (sampleWork s).loader = s.loader ∧ (sampleWork s).peers = s.peers ∧ (sampleWork s).port = s.port
      ∧ (sampleWork s).loop = (loopWork (ceilingWork (envelopeWork (trackerWork s)))).loop := by
  simp [sampleWork]

/-! ## What the Loop Monitor and the clearing of a peer trip leave alone -/

/-- Nothing but the Line Access Unit, the Loop Monitor and the peer-trip origin has moved, and a beacon asked for stays asked
for. -/
structure Clad (s t : State) : Prop where
  rest : ∃ a m o, t = { s with access := a, loop := m, trips := { s.trips with origin := o } }
  asked : beaconAsked s = true → beaconAsked t = true

theorem Clad.refl (s : State) : Clad s s := ⟨⟨s.access, s.loop, s.trips.origin, rfl⟩, id⟩

theorem Clad.trans {s t u : State} (first : Clad s t) (second : Clad t u) : Clad s u := by
  obtain ⟨⟨a, m, o, rfl⟩, one⟩ := first
  obtain ⟨⟨b, n, q, rfl⟩, two⟩ := second
  exact ⟨⟨b, n, q, rfl⟩, fun asked => two (one asked)⟩

theorem Clad.kept {s t : State} (k : Clad s t) :
    t.power = s.power ∧ t.time = s.time ∧ t.inputs = s.inputs ∧ t.loader = s.loader ∧ t.peers = s.peers
      ∧ t.tracker = s.tracker ∧ t.envelope = s.envelope ∧ t.ceiling = s.ceiling ∧ t.generator = s.generator
      ∧ t.seq = s.seq ∧ t.brakes = s.brakes ∧ t.cls = s.cls ∧ t.port = s.port ∧ t.pending = s.pending
      ∧ t.trips.own = s.trips.own ∧ t.trips.primary = s.trips.primary ∧ t.trips.history = s.trips.history
      ∧ t.trips.nextSerial = s.trips.nextSerial := by
  obtain ⟨a, m, o, rfl⟩ := k.rest
  exact ⟨rfl, rfl, rfl, rfl, rfl, rfl, rfl, rfl, rfl, rfl, rfl, rfl, rfl, rfl, rfl, rfl, rfl, rfl⟩

theorem clad_of_frame {s t : State} (frame : t.power = s.power ∧ t.time = s.time ∧ t.inputs = s.inputs ∧ t.loader = s.loader
      ∧ t.peers = s.peers ∧ t.tracker = s.tracker ∧ t.envelope = s.envelope ∧ t.ceiling = s.ceiling
      ∧ t.generator = s.generator ∧ t.seq = s.seq ∧ t.brakes = s.brakes ∧ t.trips = s.trips ∧ t.cls = s.cls
      ∧ t.port = s.port ∧ t.pending = s.pending) (asked : beaconAsked s = true → beaconAsked t = true) : Clad s t := by
  obtain ⟨power, time, inputs, loader, peers, tracker, envelope, ceiling, generator, seq, brakes, trips, cls, port, pending⟩ :=
    frame
  refine ⟨⟨t.access, t.loop, s.trips.origin, ?_⟩, asked⟩
  apply State.eq_of_fields <;> simp_all

theorem clad_setTrack (x : Side) (k : Track) (s : State) : Clad s (setTrack x k s) := by
  refine clad_of_frame (setTrack_frame x k s) fun asked => ?_
  unfold setTrack
  dsimp only
  split
  · cases x <;> exact asked
  · exact beaconAsked_requestBeacon _

theorem clad_confirmTrack (p : Profile) (x : Side) (s : State) : Clad s (confirmTrack p x s) := by
  unfold confirmTrack
  split
  · split
    · exact .refl s
    · exact clad_setTrack _ _ s
  · exact .refl s

theorem clad_loopWork (s : State) : Clad s (loopWork s) := by
  unfold loopWork
  split
  · exact .refl s
  · split
    · exact (clad_confirmTrack _ _ s).trans (clad_confirmTrack _ _ _)
    · exact .refl s

theorem clad_origin (o : Option (NodeId × Cause)) (s : State) : Clad s { s with trips := { s.trips with origin := o } } :=
  ⟨⟨s.access, s.loop, o, rfl⟩, id⟩

/-! ## How the tick ends (R169) -/

/-- The clearing of a held peer trip: the origin alone, or the way out of TRIPPED (R169, R172). -/
inductive TickEnd (x t : State) : Prop
  | clad (kept : Clad x t)
  | left (tripped : x.seq.state = .tripped) (empty : x.trips.own = [])
      (eq : t = leaveTripped { x with trips := { x.trips with origin := none } })

theorem tickEnd_judgeClear (x : State) : TickEnd x (judgeClear x) := by
  unfold judgeClear
  dsimp only
  split
  · split
    · next leaves =>
      simp only [Bool.and_eq_true, inState, beq_iff_eq, List.isEmpty_iff] at leaves
      exact .left leaves.2 leaves.1 rfl
    · exact .clad (clad_origin none x)
  · exact .clad (.refl x)

/-! ## What the ceiling unit does before it judges (R111 to R113) -/

/-- The ceiling unit's state before OVERSPEED and the completion of a comms stop are judged (R115). -/
def supervised (p : Profile) (s : State) : State := superviseStep p (limitStep (formCeiling s))

theorem ceilingWork_eq {p : Profile} {s : State} (loaded : s.loader.profile = some p) (service : inService s = true) :
    ceilingWork s = completeStep (overspeedStep p (supervised p s)) := by
  simp only [ceilingWork, loaded, service, if_true]
  rfl

section

variable (p : Profile) (s : State)

@[simp] theorem supervised_frame :
    (supervised p s).power = s.power ∧ (supervised p s).time = s.time ∧ (supervised p s).inputs = s.inputs
      ∧ (supervised p s).loader = s.loader ∧ (supervised p s).access = s.access ∧ (supervised p s).peers = s.peers
      ∧ (supervised p s).tracker = s.tracker ∧ (supervised p s).envelope = s.envelope ∧ (supervised p s).seq = s.seq
      ∧ (supervised p s).loop = s.loop ∧ (supervised p s).trips = s.trips ∧ (supervised p s).cls = s.cls
      ∧ (supervised p s).port = s.port ∧ (supervised p s).pending = s.pending := by
  simp [supervised]

/-- The steps before the judgements change the limit, the counts and SB, not the line ceiling (R111 to R113). -/
theorem superviseStep_line (x : State) :
    (superviseStep p x).ceiling.line = x.ceiling.line ∧ (superviseStep p x).ceiling.comms = x.ceiling.comms := by
  unfold superviseStep interveneStep reliftStep
  dsimp only
  (repeat' split) <;> simp

theorem limitStep_line : (limitStep s).ceiling.line = s.ceiling.line ∧ (limitStep s).ceiling.comms = s.ceiling.comms := by
  unfold limitStep
  split
  · exact followLimit_line s
  · exact ⟨rfl, rfl⟩

theorem supervised_line :
    (supervised p s).ceiling.line = formedCeiling s ∧ (supervised p s).ceiling.comms = s.ceiling.comms := by
  obtain ⟨line, comms⟩ := superviseStep_line p (limitStep (formCeiling s))
  obtain ⟨line', comms'⟩ := limitStep_line (formCeiling s)
  unfold supervised
  rw [line, comms, line', comms']
  exact ⟨by simp [formCeiling], by simp⟩

end

theorem supervised_of_not_moving {p : Profile} {s : State} (other : moving s = false) : supervised p s = formCeiling s := by
  have still : moving (formCeiling s) = false := by rw [← other]; simp [moving, inState]
  have unlimited : limitStep (formCeiling s) = formCeiling s := by simp [limitStep, still]
  have stays : inState (formCeiling s) .running = false := by
    simp only [moving, Bool.or_eq_false_iff] at still
    exact still.1
  simp [supervised, unlimited, superviseStep, stays]

/-- Out of RUNNING the ceiling formed is 0; where it stands at 0 already nothing moves (R104). -/
theorem formCeiling_of_zero {s : State} (other : s.seq.state ≠ .running) (zero : s.ceiling.line = 0) : formCeiling s = s := by
  have formed : formedCeiling s = 0 := formedCeiling_of_not_running other
  simp [formCeiling, setLine, formed, zero]

/-! ## The Run Sequencer's judgements by node state (R127, R134, R137 to R140, R142) -/

theorem moving_iff (s : State) : moving s = true ↔ s.seq.state = .running ∨ s.seq.state = .stopping := by
  simp [moving, inState]

theorem sequencerWork_of_rest {s : State} (rests : s.seq.state ≠ .armed ∧ s.seq.state ≠ .running ∧ s.seq.state ≠ .stopping) :
    sequencerWork s = s := by
  obtain ⟨armed, running, stopping⟩ := rests
  have still : moving s = false := by simp [moving, inState, running, stopping]
  unfold sequencerWork sequencerTick
  split
  · simp only [still, Bool.and_false, Bool.false_and, Bool.false_eq_true, if_false]
  · rfl

theorem sequencerWork_of_armed {s : State} (armed : s.seq.state = .armed) :
    sequencerWork s = judgeLineStart (judgeConsent s) := by
  have service : inService s = true := by simp [inService, inState, armed]
  have still : moving s = false := by simp [moving, inState, armed]
  simp only [sequencerWork, service, if_true, sequencerTick, still, Bool.and_false, Bool.false_and, Bool.false_eq_true, if_false,
    armed]

/-- An open door at a CAR in RUNNING or STOPPING is judged first (R142). -/
def doorOpens (s : State) : Bool := isCar s && moving s && !doorShut s

theorem sequencerWork_of_open {s : State} (opens : doorOpens s = true) : sequencerWork s = raiseCause .doorOpen s := by
  have moves : moving s = true := by
    simp only [doorOpens, Bool.and_eq_true] at opens
    exact opens.1.2
  have service : inService s = true := by
    rcases (moving_iff s).mp moves with h | h <;> simp [inService, inState, h]
  have tripped : (raiseCause .doorOpen s).seq.state = .tripped := by
    by_cases already : s.seq.state = .tripped
    · rw [raiseCause_of_tripped already]
      exact already
    · rw [raiseCause_of_trips service already]
      simp
  have judged : (isCar s && moving s && !doorShut s) = true := opens
  simp only [sequencerWork, service, if_true, sequencerTick, judged, tripped]

theorem sequencerWork_of_running {s : State} (shut : doorOpens s = false) (running : s.seq.state = .running) :
    sequencerWork s =
      if s.envelope.atMark = true then enterStopping s
      else if stands s = true ∧ strandingPeer s = true then enterState (standingTest s) s
      else s := by
  have service : inService s = true := by simp [inService, inState, running]
  have judged : (isCar s && moving s && !doorShut s) = false := shut
  simp only [sequencerWork, service, if_true, sequencerTick, judged, Bool.false_eq_true, if_false, running, Bool.and_eq_true]

theorem sequencerWork_of_stopping {s : State} (shut : doorOpens s = false) (stopping : s.seq.state = .stopping) :
    sequencerWork s = carDwell (driveDwell s) := by
  have service : inService s = true := by simp [inService, inState, stopping]
  have judged : (isCar s && moving s && !doorShut s) = false := shut
  simp only [sequencerWork, service, if_true, sequencerTick, judged, Bool.false_eq_true, if_false, stopping]

/-! ## What becomes of a node in service after the Envelope Calculator's work -/

/-- What a tick's judgements make of the supervised node `l` (R110, R114, R127, R134, R137 to R140, R142). -/
inductive TickOutcome (p : Profile) (l x : State) : Prop
  | overspeed (moves : moving l = true) (encoder : hasEncoder l = true) (eq : x = raiseCause .overspeed l)
  | opened (opens : doorOpens l = true) (within : commsComplete l = false) (eq : x = raiseCause .doorOpen l)
  | completed (ends : commsComplete l = true) (eq : x = enterState (standingTest l) l)
  | arrived (shut : doorOpens l = false) (running : l.seq.state = .running) (marks : l.envelope.atMark = true)
      (eq : x = enterStopping l)
  | stranded (shut : doorOpens l = false) (running : l.seq.state = .running) (still : stands l = true)
      (eq : x = enterState (standingTest l) l)
  | goesOn (shut : doorOpens l = false) (running : l.seq.state = .running) (within : commsComplete l = false)
      (unmarked : l.envelope.atMark = false) (together : (stands l && strandingPeer l) = false) (eq : x = l)
  | stopping (shut : doorOpens l = false) (stops : l.seq.state = .stopping) (eq : x = carDwell (driveDwell l))
  | armed (armed : l.seq.state = .armed) (eq : x = judgeLineStart (judgeConsent l))
  | rests (rests : l.seq.state ≠ .armed ∧ l.seq.state ≠ .running ∧ l.seq.state ≠ .stopping) (eq : x = l)

theorem commsComplete_clad {s t : State} (k : Clad s t) : commsComplete t = commsComplete s := by
  obtain ⟨-, time, -, loader, peers, tracker, -, ceiling, -, seq, -⟩ := k.kept
  simp [commsComplete, inState, stands, hasEncoder, isDrive, isCar, role, standstill, driveStopped, heardShows, driveEntry,
    time, loader, peers, tracker, ceiling, seq]

/-- The Loop Monitor, the Run Sequencer and the clearing, at a node that no judgement of the ceiling unit has moved. -/
theorem tick_after_ceiling {p : Profile} {u : State} (within : commsComplete u = false) :
    ∃ l x, Clad u l ∧ TickOutcome p l x ∧ TickEnd x (judgeClear (sequencerWork (loopWork u))) := by
  have clad := clad_loopWork u
  have goes : commsComplete (loopWork u) = false := (commsComplete_clad clad).trans within
  refine ⟨loopWork u, sequencerWork (loopWork u), clad, ?_, tickEnd_judgeClear _⟩
  generalize loopWork u = l at *
  by_cases opens : doorOpens l = true
  · exact .opened opens goes (sequencerWork_of_open opens)
  · have shut : doorOpens l = false := by simpa using opens
    by_cases running : l.seq.state = .running
    · have led := sequencerWork_of_running shut running
      split at led
      · next marks => exact .arrived shut running marks led
      · next unmarked =>
        split at led
        · next strands => exact .stranded shut running strands.1 led
        · next together => exact .goesOn shut running goes (by simpa using unmarked) (by simpa using together) led
    · by_cases stops : l.seq.state = .stopping
      · exact .stopping shut stops (sequencerWork_of_stopping shut stops)
      · by_cases armed : l.seq.state = .armed
        · exact .armed armed (sequencerWork_of_armed armed)
        · exact .rests ⟨armed, running, stops⟩ (sequencerWork_of_rest ⟨armed, running, stops⟩)

/-- At a node that the ceiling unit has taken out of the run, nothing follows but the Loop Monitor and the clearing. -/
theorem clad_after_exit {x : State} (rests : x.seq.state ≠ .armed ∧ x.seq.state ≠ .running ∧ x.seq.state ≠ .stopping)
    (held : x.seq.state ≠ .tripped ∨ x.trips.own ≠ []) : Clad x (judgeClear (sequencerWork (loopWork x))) := by
  have clad := clad_loopWork x
  obtain ⟨-, -, -, -, -, -, -, -, -, seq, -, -, -, -, own, -⟩ := clad.kept
  rw [sequencerWork_of_rest (by rw [seq]; exact rests)]
  obtain kept | ⟨tripped, empty, -⟩ := tickEnd_judgeClear (loopWork x)
  · exact clad.trans kept
  · rw [seq] at tripped
    rw [own] at empty
    rcases held with h | h
    · exact absurd tripped h
    · exact absurd empty h

theorem inService_of_moving {s : State} (moves : moving s = true) : inService s = true := by
  rcases (moving_iff s).mp moves with h | h <;> simp [inService, inState, h]

/-- A cause raised in service leaves the node in TRIPPED with it among its own causes (R165, R166). -/
theorem raised_in_service {c : Cause} {s : State} (service : inService s = true) :
    (raiseCause c s).seq.state = .tripped ∧ (raiseCause c s).trips.own = addCause c s.trips.own := by
  by_cases tripped : s.seq.state = .tripped
  · rw [raiseCause_of_tripped tripped]
    exact ⟨tripped, rfl⟩
  · rw [raiseCause_of_trips service tripped]
    simp [causeRecorded]

theorem addCause_ne_nil (c : Cause) (l : List Cause) : addCause c l ≠ [] := by
  unfold addCause
  split
  · next has =>
    rintro rfl
    simp at has
  · simp

/-- What becomes of a node in service from the ceiling unit's work to the end of the tick (R89, R115). -/
theorem tick_end {p : Profile} {b : State} (loaded : b.loader.profile = some p) (service : inService b = true) :
    ∃ l x, Clad (supervised p b) l ∧ TickOutcome p l x ∧ TickEnd x (judgeClear (sequencerWork (loopWork (ceilingWork b)))) := by
  rw [ceilingWork_eq loaded service]
  generalize supervised p b = u
  by_cases fast : (hasEncoder u && moving u && decide (u.ceiling.limit + p.tTrip < u.tracker.speed)) = true
  · have encoder : hasEncoder u = true := by
      simp only [Bool.and_eq_true] at fast
      exact fast.1.1
    have moves : moving u = true := by
      simp only [Bool.and_eq_true] at fast
      exact fast.1.2
    obtain ⟨tripped, own⟩ := raised_in_service (c := .overspeed) (inService_of_moving moves)
    have ceiling : completeStep (overspeedStep p u) = raiseCause .overspeed u := by
      have raised : overspeedStep p u = raiseCause .overspeed u := if_pos fast
      rw [raised]
      simp [completeStep, commsComplete, inState, tripped]
    rw [ceiling]
    refine ⟨u, _, .refl u, .overspeed moves encoder rfl, .clad (clad_after_exit ?_ (.inr ?_))⟩
    · simp [tripped]
    · rw [own]
      exact addCause_ne_nil _ _
  · have slow : overspeedStep p u = u := if_neg fast
    rw [slow]
    unfold completeStep
    split
    · next ends =>
      refine ⟨u, _, .refl u, .completed ends rfl, .clad (clad_after_exit ?_ (.inl ?_))⟩
      all_goals rcases standingTest_rests u with h | h <;> simp [h]
    · next goes => exact tick_after_ceiling (by simpa using goes)

end Sys2Proof.Machine
end

section
/-! PROOF. What the judgements of a sample tick leave of the tracker (R28, R35). -/

namespace Sys2Proof.Machine

/-- The tracker is as it was but for the still-entry reference, or the DRIVE has entered DWELL with its rope re-referenced
(R28, R35). -/
structure Tracked (s t : State) : Prop where
  loader : t.loader = s.loader
  peers : t.peers = s.peers
  moved : (∃ r, t.tracker = { s.tracker with stillRef := r })
    ∨ (t.seq.state = .dwell ∧ s.seq.state ≠ .dwell ∧ isDrive s = true
      ∧ ∃ p x r, s.loader.profile = some p ∧ referencePosition s p = some x
        ∧ t.tracker = { s.tracker with
            counts := sat32 (countsAt (cpm s p) x - invertedDelta s p), quality := .marked, stillRef := r })

theorem Tracked.of_same {s t : State} (loader : t.loader = s.loader) (peers : t.peers = s.peers)
    (tracker : t.tracker = s.tracker) : Tracked s t := ⟨loader, peers, .inl ⟨s.tracker.stillRef, tracker⟩⟩

theorem Clad.tracked {s t : State} (k : Clad s t) : Tracked s t := by
  obtain ⟨-, -, -, loader, peers, tracker, -⟩ := k.kept
  exact .of_same loader peers tracker

/-- What follows a step that has not re-referenced the rope. -/
theorem Tracked.trans {s t u : State} (one : Tracked s t) (two : Tracked t u) (out : s.seq.state ≠ .dwell)
    (away : t.seq.state ≠ .dwell) : Tracked s u := by
  obtain ⟨loader, peers, moved⟩ := one
  obtain ⟨loader', peers', moved'⟩ := two
  refine ⟨loader'.trans loader, peers'.trans peers, ?_⟩
  obtain ⟨r, tracker⟩ := moved.resolve_right fun h => away h.1
  rcases moved' with ⟨q, tracker'⟩ | ⟨dwell, -, drive, p, x, q, loaded, reference, tracker'⟩
  · exact .inl ⟨q, by rw [tracker', tracker]⟩
  · refine .inr ⟨dwell, out, by rwa [← isDrive_congr loader], p, x, q, by rwa [← loader], ?_, ?_⟩
    · simpa [referencePosition, carEntry, peers] using reference
    · rw [tracker', tracker]
      simp [cpm, invertedDelta, inverted, isDrive, role, side, loader, tracker]

theorem reReference_cases (p : Profile) (s : State) :
    (referencePosition s p = none ∧ reReference p s = s)
      ∨ ∃ x r, referencePosition s p = some x ∧ (reReference p s).tracker =
          { s.tracker with
            counts := sat32 (countsAt (cpm s p) x - invertedDelta s p), quality := .marked, stillRef := r } := by
  unfold reReference
  cases found : referencePosition s p with
  | none => exact .inl ⟨rfl, rfl⟩
  | some x => exact .inr ⟨x, _, rfl, rfl⟩

theorem tracked_enterState (n : NodeState) {s : State} (out : s.seq.state ≠ .dwell) : Tracked s (enterState n s) := by
  refine ⟨by simp, by simp, ?_⟩
  by_cases stays : isDrive s = false ∨ n ≠ .dwell ∨ standstill s = false
  · exact .inl (enterState_tracker_of_no_reference stays)
  · simp only [not_or, not_not, Bool.not_eq_false] at stays
    obtain ⟨drive, rfl, still⟩ := stays
    rw [enterState_tracker_eq]
    generalize named : enterCeiling .dwell (enterBrakes .dwell (enterEnvelope .dwell (enterSequencer .dwell s))) = v
    have loader : v.loader = s.loader := by rw [← named]; simp
    have peers : v.peers = s.peers := by rw [← named]; simp
    have tracker : v.tracker = s.tracker := by rw [← named]; simp
    have driveV : isDrive v = true := (isDrive_congr loader).trans drive
    have stillV : standstill v = true := by simpa [standstill, tracker] using still
    unfold enterTracker
    cases loaded : v.loader.profile with
    | none => exact .inl ⟨_, tracker⟩
    | some p =>
      have encoder : hasEncoder v = true := by simp [hasEncoder, driveV]
      simp only [encoder, driveV, if_true, Bool.true_and, beq_self_eq_true]
      rw [if_pos (by simpa [standstill] using stillV)]
      generalize ref : ({ v with tracker := { v.tracker with stillRef := some (presentCounts v p) } } : State) = w
      obtain ⟨-, same⟩ | ⟨x, r, found, same⟩ := reReference_cases p w
      · exact .inl ⟨some (presentCounts v p), by rw [same, ← ref, ← tracker]⟩
      · refine .inr ⟨by simp, out, drive, p, x, r, by rwa [← loader], ?_, ?_⟩
        · rw [← ref] at found
          simpa [referencePosition, carEntry, peers] using found
        · rw [same, ← ref]
          simp [cpm, invertedDelta, inverted, isDrive, role, side, loader, tracker]

/-! ## The outcomes of a tick -/

theorem tracked_raiseCause (c : Cause) (s : State) : Tracked s (raiseCause c s) := by
  obtain ⟨r, same⟩ := raiseCause_tracker c s
  exact ⟨by simp, by simp, .inl ⟨r, same⟩⟩

theorem tracked_enterStopping {s : State} (running : s.seq.state = .running) : Tracked s (enterStopping s) := by
  have out : s.seq.state ≠ .dwell := by simp [running]
  rw [enterStopping_eq]
  have stopped := tracked_enterState .stopping out
  split
  · exact stopped.trans (tracked_enterState .dwell (by simp)) out (by simp)
  · exact stopped

theorem tracked_stopping {s : State} (stops : s.seq.state = .stopping) : Tracked s (carDwell (driveDwell s)) := by
  have out : s.seq.state ≠ .dwell := by simp [stops]
  have car : Tracked s (carDwell s) := by
    unfold carDwell
    dsimp only
    split
    · exact tracked_enterState .dwell out
    · exact .of_same rfl rfl rfl
  unfold driveDwell
  split
  · have rests : carDwell (enterState .dwell s) = enterState .dwell s := by simp [carDwell, inState]
    rw [rests]
    exact tracked_enterState .dwell out
  · exact car

theorem tracked_lineStart (s : State) : Tracked s (judgeLineStart s) := .of_same (by simp) (by simp) (by simp)

theorem tracked_armed {s : State} (armed : s.seq.state = .armed) : Tracked s (judgeLineStart (judgeConsent s)) := by
  unfold judgeConsent
  split
  · unfold leaveArmed
    generalize s.seq.origin.getD .hold = n
    have left := tracked_enterState n (s := s) (by simp [armed])
    by_cases again : n = .armed
    · exact left.trans (tracked_lineStart _) (by simp [armed]) (by simp [again])
    · rw [judgeLineStart_of_other (.inr (.inl (by simpa using again)))]
      exact left
  · exact tracked_lineStart s

theorem tracked_outcome {p : Profile} {l x : State} (o : TickOutcome p l x) : Tracked l x := by
  cases o with
  | overspeed _ _ eq => exact eq ▸ tracked_raiseCause _ l
  | opened _ _ eq => exact eq ▸ tracked_raiseCause _ l
  | completed ends eq =>
    rw [eq]
    refine tracked_enterState _ ?_
    simp only [commsComplete, inState, Bool.and_eq_true, beq_iff_eq] at ends
    simp [ends.1.1]
  | arrived _ running _ eq => exact eq ▸ tracked_enterStopping running
  | stranded _ running _ eq => exact eq ▸ tracked_enterState _ (by simp [running])
  | goesOn _ _ _ _ _ eq => exact eq ▸ .of_same rfl rfl rfl
  | stopping _ stops eq => exact eq ▸ tracked_stopping stops
  | armed armed eq => exact eq ▸ tracked_armed armed
  | rests _ eq => exact eq ▸ .of_same rfl rfl rfl

theorem tracked_leaveTripped {s : State} (tripped : s.seq.state = .tripped) : Tracked s (leaveTripped s) := by
  have left := tracked_enterState (standingTest { s with trips.primary := none })
    (s := { s with trips.primary := none }) (by simp [tripped])
  exact ⟨left.loader, left.peers, left.moved⟩

theorem TickEnd.tracked {x t : State} (e : TickEnd x t) : Tracked x t := by
  cases e with
  | clad kept => exact kept.tracked
  | left tripped _ eq =>
    rw [eq]
    have left := tracked_leaveTripped (s := { x with trips := { x.trips with origin := none } }) tripped
    exact ⟨left.loader, left.peers, left.moved⟩

/-- The way out of TRIPPED is the only entry that the clearing leads to. -/
theorem TickEnd.clad_of_not_tripped {x t : State} (e : TickEnd x t) (out : x.seq.state ≠ .tripped) : Clad x t := by
  cases e with
  | clad kept => exact kept
  | left tripped _ _ => exact absurd tripped out

theorem Tracked.clad {s t u : State} (one : Tracked s t) (two : Clad t u) : Tracked s u := by
  obtain ⟨loader, peers, moved⟩ := one
  obtain ⟨-, -, -, loader', peers', tracker', -, -, -, seq, -⟩ := two.kept
  exact ⟨loader'.trans loader, peers'.trans peers, by rwa [tracker', seq]⟩

/-- The supervised node with the Loop Monitor's work done. -/
theorem clad_supervised {p : Profile} {b l : State} (k : Clad (supervised p b) l) :
    l.power = b.power ∧ l.time = b.time ∧ l.inputs = b.inputs ∧ l.loader = b.loader ∧ l.peers = b.peers
      ∧ l.tracker = b.tracker ∧ l.envelope = b.envelope ∧ l.seq = b.seq ∧ l.port = b.port ∧ l.trips.own = b.trips.own
      ∧ l.trips.primary = b.trips.primary ∧ l.ceiling.line = formedCeiling b ∧ l.ceiling.comms = b.ceiling.comms := by
  obtain ⟨power, time, inputs, loader, peers, tracker, envelope, ceiling, -, seq, -, -, port, -, own, primary, -⟩ := k.kept
  obtain ⟨line, comms⟩ := supervised_line p b
  refine ⟨?_, ?_, ?_, ?_, ?_, ?_, ?_, ?_, ?_, ?_, ?_, by rw [ceiling, line], by rw [ceiling, comms]⟩
  all_goals simp [*]

/-- Out of the run a tick's judgements move nothing. -/
theorem TickOutcome.eq_of_rests {p : Profile} {l x : State} (o : TickOutcome p l x)
    (rests : l.seq.state ≠ .armed ∧ l.seq.state ≠ .running ∧ l.seq.state ≠ .stopping) : x = l := by
  obtain ⟨armed, running, stopping⟩ := rests
  have still : moving l = false := by simp [moving, inState, running, stopping]
  cases o with
  | overspeed moves => simp [still] at moves
  | opened opens => simp [doorOpens, still] at opens
  | completed ends => simp [commsComplete, inState, running] at ends
  | arrived _ h => exact absurd h running
  | stranded _ h => exact absurd h running
  | goesOn _ h => exact absurd h running
  | stopping _ h => exact absurd h stopping
  | armed h => exact absurd h armed
  | rests _ eq => exact eq

/-- From the Envelope Calculator's work to the end of the tick (R28, R35). -/
theorem tick_tracked {p : Profile} {b : State} (loaded : b.loader.profile = some p) (service : inService b = true) :
    Tracked b (judgeClear (sequencerWork (loopWork (ceilingWork b)))) := by
  obtain ⟨l, x, clad, outcome, ended⟩ := tick_end loaded service
  obtain ⟨-, -, -, loader, peers, tracker, -, seq, -⟩ := clad_supervised clad
  have begun : Tracked b l := .of_same loader peers tracker
  by_cases dwell : b.seq.state = .dwell
  · have same := outcome.eq_of_rests (by simp [seq, dwell])
    rw [same] at ended
    exact begun.clad (ended.clad_of_not_tripped (by simp [seq, dwell]))
  · have judged := begun.trans (tracked_outcome outcome) dwell (by rwa [seq])
    by_cases entered : x.seq.state = .dwell
    · exact judged.clad (ended.clad_of_not_tripped (by simp [entered]))
    · exact judged.trans ended.tracked dwell entered

end Sys2Proof.Machine
end

section
/-! PROOF. The confirmation of an unconfirmed track at a LOOP's sample tick (R153, R154). -/

namespace Sys2Proof.Machine

/-! ## A beacon asked for stays asked for to the end of the tick -/

theorem beaconAsked_raiseCause {c : Cause} {s : State} (asked : beaconAsked s = true) : beaconAsked (raiseCause c s) = true := by
  by_cases service : inService s = true
  · by_cases tripped : s.seq.state = .tripped
    · rw [raiseCause_of_tripped tripped]
      exact asked
    · rw [raiseCause_of_trips service tripped]
      exact beaconAsked_enterState _ _
  · rw [raiseCause_of_not_inService (by simpa using service)]
    exact asked

theorem beaconAsked_sequencerWork {s : State} (asked : beaconAsked s = true) : beaconAsked (sequencerWork s) = true := by
  have rest : ∀ t : State, beaconAsked t = true → beaconAsked (carDwell t) = true := by
    intro t asked
    unfold carDwell
    dsimp only
    split
    · exact beaconAsked_enterState _ _
    · exact asked
  by_cases opens : doorOpens s = true
  · rw [sequencerWork_of_open opens]
    exact beaconAsked_raiseCause asked
  · have shut : doorOpens s = false := by simpa using opens
    by_cases running : s.seq.state = .running
    · rw [sequencerWork_of_running shut running]
      split
      · exact (enterStopping_moves s).2.2.2.1
      · split
        · exact beaconAsked_enterState _ _
        · exact asked
    · by_cases stops : s.seq.state = .stopping
      · rw [sequencerWork_of_stopping shut stops]
        refine rest _ ?_
        unfold driveDwell
        split
        · exact beaconAsked_enterState _ _
        · exact asked
      · by_cases armed : s.seq.state = .armed
        · rw [sequencerWork_of_armed armed]
          refine beaconAsked_judgeLineStart ?_
          unfold judgeConsent
          split
          · exact beaconAsked_enterState _ _
          · exact asked
        · rwa [sequencerWork_of_rest ⟨armed, running, stops⟩]

theorem beaconAsked_judgeClear {s : State} (asked : beaconAsked s = true) : beaconAsked (judgeClear s) = true := by
  cases tickEnd_judgeClear s with
  | clad kept => exact kept.asked asked
  | left _ _ eq =>
    rw [eq]
    exact beaconAsked_enterState _ _

/-! ## A track confirmed (R153) -/

/-- What the confirmation of one track leaves (R153, R154). -/
structure Confirmed (p : Profile) (x : Side) (s t : State) : Prop where
  inputs : ∀ y e, active t y e = active s y e
  other : track t.loop (otherSide x) = track s.loop (otherSide x)
  frame : t.loop = { s.loop with trackA := t.loop.trackA, trackB := t.loop.trackB }
  clad : Clad s t
  judged : if (track s.loop x).unconfirmed = true ∧ active s x .low = false ∧ active s x .up = false
        ∧ freshShows (carEntry s x) (fun r => r.motion == .stopped) = true ∧ (loopCarPosition s p x).isSome = true then
      ∀ q ∈ loopCarPosition s p x, track t.loop x = confirmedTrack p x q
        ∧ ((track t.loop x).occ ≠ (track s.loop x).occ → beaconAsked t = true)
    else track t.loop x = track s.loop x

theorem beaconAsked_setTrack {x : Side} {k : Track} {s : State} (changes : k.occ ≠ (track s.loop x).occ) :
    beaconAsked (setTrack x k s) = true := by
  unfold setTrack
  dsimp only
  rw [if_neg (by simpa using changes.symm)]
  exact beaconAsked_requestBeacon _

theorem confirmed_setTrack (x : Side) (k : Track) (s : State) :
    (∀ y e, active (setTrack x k s) y e = active s y e)
      ∧ track (setTrack x k s).loop (otherSide x) = track s.loop (otherSide x)
      ∧ (setTrack x k s).loop =
        { s.loop with trackA := (setTrack x k s).loop.trackA, trackB := (setTrack x k s).loop.trackB } := by
  refine ⟨fun y e => by simp [active], by simp [otherSide_ne], ?_⟩
  rw [setTrack_loop]
  cases x <;> rfl

theorem confirmed_confirmTrack (p : Profile) (x : Side) (s : State) : Confirmed p x s (confirmTrack p x s) := by
  have clad := clad_confirmTrack p x s
  by_cases stands : (track s.loop x).unconfirmed = true ∧ active s x .low = false ∧ active s x .up = false
      ∧ freshShows (carEntry s x) (fun r => r.motion == .stopped) = true ∧ (loopCarPosition s p x).isSome = true
  · obtain ⟨unconfirmed, low, up, shows, located⟩ := stands
    obtain ⟨q, found⟩ := Option.isSome_iff_exists.mp located
    have set : confirmTrack p x s = setTrack x (confirmedTrack p x q) s := by
      simp [confirmTrack, unconfirmed, low, up, shows, found]
    rw [set] at clad ⊢
    obtain ⟨inputs, other, frame⟩ := confirmed_setTrack x (confirmedTrack p x q) s
    refine ⟨inputs, other, frame, clad, ?_⟩
    rw [if_pos ⟨unconfirmed, low, up, shows, located⟩]
    intro q' member
    obtain rfl : q = q' := by simpa [found] using member
    have now : track (setTrack x (confirmedTrack p x q) s).loop x = confirmedTrack p x q := by simp
    refine ⟨now, fun changes => beaconAsked_setTrack ?_⟩
    rwa [now] at changes
  · have stays : confirmTrack p x s = s := by
      unfold confirmTrack
      split
      · next judged =>
        split
        · rfl
        · next q found =>
          refine absurd ?_ stands
          simpa [and_assoc, found] using judged
      · rfl
    rw [stays, ] at clad ⊢
    exact ⟨fun _ _ => rfl, rfl, rfl, clad, by rw [if_neg stands]⟩

/-! ## The LOOP's tick -/

section

variable {p : Profile} {s : State}

theorem role_of_isLoop (loop : isLoop s = true) : role s = .loop := by simpa [isLoop] using loop

theorem hasEncoder_of_isLoop (loop : isLoop s = true) : hasEncoder s = false := by
  simp [hasEncoder, isDrive, isCar, role_of_isLoop loop]

theorem loopWork_of_loop (loaded : s.loader.profile = some p) (loop : isLoop s = true) (service : inService s = true) :
    loopWork s = confirmTrack p .b (confirmTrack p .a s) := by
  simp [loopWork, loaded, loop, service]

theorem stopMarkStep_envelope (p : Profile) (s : State) : ∃ v, stopMarkStep p s = { s with envelope := v } := by
  unfold stopMarkStep
  split
  · exact ⟨_, rfl⟩
  · exact ⟨s.envelope, rfl⟩

theorem distanceStep_envelope (p : Profile) (s : State) : ∃ v, distanceStep p s = { s with envelope := v } := by
  unfold distanceStep
  split
  · exact ⟨_, rfl⟩
  · split
    · exact ⟨_, rfl⟩
    · exact ⟨s.envelope, rfl⟩

/-- The steps before the arrival change the calculator's own record alone (R40). -/
theorem envelopeLoop_envelope (p : Profile) (s : State) : ∃ v, envelopeLoop p s = { s with envelope := v } := by
  obtain ⟨v, marks⟩ := stopMarkStep_envelope p s
  obtain ⟨w, distances⟩ := distanceStep_envelope p (stopMarkStep p s)
  unfold envelopeLoop
  rw [distances, marks]
  exact ⟨_, rfl⟩

/-- At a LOOP the Envelope Calculator changes its own record alone (R155, R156). -/
theorem envelopeWork_of_loop (loop : isLoop s = true) : ∃ v, envelopeWork s = { s with envelope := v } := by
  have strapped := role_of_isLoop loop
  unfold envelopeWork
  split
  · exact ⟨s.envelope, rfl⟩
  · split
    · simp only [strapped]
      exact envelopeLoop_envelope _ s
    · exact ⟨s.envelope, rfl⟩

theorem inService_ceilingWork (service : inService s = true) (loaded : s.loader.profile = some p)
    (slow : hasEncoder s = false) : inService (ceilingWork s) = true := by
  have supervisedService : inService (supervised p s) = true := by simpa [inService, inState] using service
  have encoder : hasEncoder (supervised p s) = false := by simpa [hasEncoder, isDrive, isCar, role] using slow
  have quiet : overspeedStep p (supervised p s) = supervised p s := by simp [overspeedStep, encoder]
  rw [ceilingWork_eq loaded service, quiet]
  unfold completeStep
  split
  · rcases standingTest_rests (supervised p s) with h | h <;> simp [h, inService, inState]
  · exact supervisedService

end

theorem ceilingWork_kept (s : State) :
    (ceilingWork s).loop = s.loop ∧ (ceilingWork s).peers = s.peers ∧ (ceilingWork s).loader = s.loader := by
  simp

/-- One track through both confirmations (R153). -/
theorem both_confirmed {p : Profile} (x : Side) (s : State) :
    if (track s.loop x).unconfirmed = true ∧ active s x .low = false ∧ active s x .up = false
        ∧ freshShows (carEntry s x) (fun r => r.motion == .stopped) = true ∧ (loopCarPosition s p x).isSome = true then
      ∀ q ∈ loopCarPosition s p x, track (confirmTrack p .b (confirmTrack p .a s)).loop x = confirmedTrack p x q
        ∧ ((track (confirmTrack p .b (confirmTrack p .a s)).loop x).occ ≠ (track s.loop x).occ →
          beaconAsked (confirmTrack p .b (confirmTrack p .a s)) = true)
    else track (confirmTrack p .b (confirmTrack p .a s)).loop x = track s.loop x := by
  have one := confirmed_confirmTrack p .a s
  have two := confirmed_confirmTrack p .b (confirmTrack p .a s)
  generalize confirmTrack p .a s = d at *
  generalize confirmTrack p .b d = t at *
  cases x with
  | a =>
    have same : track t.loop .a = track d.loop .a := two.other
    have judged := one.judged
    rw [same]
    split
    · next stands =>
      rw [if_pos stands] at judged
      intro q member
      obtain ⟨now, asks⟩ := judged q member
      exact ⟨now, fun changes => two.clad.asked (asks changes)⟩
    · next other =>
      rw [if_neg other] at judged
      exact judged
  | b =>
    have same : track d.loop .b = track s.loop .b := one.other
    obtain ⟨-, -, -, -, peers, -⟩ := one.clad.kept
    have judged := two.judged
    have entry : carEntry d .b = carEntry s .b := by simp [carEntry, peers]
    have position : loopCarPosition d p .b = loopCarPosition s p .b := by simp [loopCarPosition, entry]
    rw [one.inputs, one.inputs, same, entry, position] at judged
    exact judged

/-- Settles O20: the Loop Monitor confirms its tracks, and no other block touches them. -/
theorem loopTrackIsConfirmed : Obligations.LoopTrackIsConfirmed := by
  intro x p s live loop service due loaded
  obtain ⟨z, taken⟩ := exec_sampleTick live due (by simp [inService, inState] at service; exact service.1)
  obtain ⟨power, -, inputs, loader, peers, port, loopKept⟩ := sampleWork_frame s.ticked
  have encoder : hasEncoder s.ticked = false := hasEncoder_of_isLoop (s := s) loop
  have still : trackerWork s.ticked = s.ticked := by simp [trackerWork, encoder]
  obtain ⟨v, enveloped⟩ := envelopeWork_of_loop (s := s.ticked) loop
  have tracked : Tracked { s.ticked with envelope := v } (sampleWork s.ticked) := by
    unfold sampleWork
    rw [still, enveloped]
    exact tick_tracked loaded service
  have served : inService (ceilingWork { s.ticked with envelope := v }) = true :=
    inService_ceilingWork service loaded encoder
  obtain ⟨loopC, peersC, loaderC⟩ := ceilingWork_kept { s.ticked with envelope := v }
  replace loopC : (ceilingWork { s.ticked with envelope := v }).loop = s.loop := loopC
  replace peersC : (ceilingWork { s.ticked with envelope := v }).peers = s.peers := peersC
  replace loaderC : (ceilingWork { s.ticked with envelope := v }).loader = s.loader := loaderC
  have asks : beaconAsked (loopWork (ceilingWork { s.ticked with envelope := v })) = true →
      beaconAsked (sampleWork s.ticked) = true := by
    intro asked
    unfold sampleWork
    rw [still, enveloped]
    exact beaconAsked_judgeClear (beaconAsked_sequencerWork asked)
  rw [still, enveloped] at loopKept
  generalize ceilingWork { s.ticked with envelope := v } = c at *
  rw [loopWork_of_loop (by rw [loaderC]; exact loaded) (by simpa [isLoop, role, loaderC] using loop) served]
    at loopKept asks
  have confirmed := both_confirmed (p := p) x c
  have frame : (confirmTrack p .b (confirmTrack p .a c)).loop =
      { c.loop with
        trackA := (confirmTrack p .b (confirmTrack p .a c)).loop.trackA
        trackB := (confirmTrack p .b (confirmTrack p .a c)).loop.trackB } := by
    rw [(confirmed_confirmTrack p .b _).frame, (confirmed_confirmTrack p .a c).frame]
  generalize confirmTrack p .b (confirmTrack p .a c) = d at *
  have entry : carEntry c x = carEntry s x := by simp [carEntry, peersC]
  have position : loopCarPosition c p x = usablePosition p (carEntry s x) := by rw [loopCarPosition, entry]
  have pins : ∀ e, active c x e = (detectorInput s.loop { track := x, atEnd := e }).level := fun e => by
    simp [active, loopC]
  have tracker : ∃ r, (sampleWork s.ticked).tracker = { s.tracker with stillRef := r } := by
    refine tracked.moved.resolve_right fun moved => ?_
    have drive : isDrive s = true := moved.2.2.1
    simp [isDrive, role_of_isLoop loop] at drive
  rw [entry, position, pins, pins, loopC] at confirmed
  refine ⟨_, taken, ?_⟩
  simp only [State.clocked_frame, beaconAsked_clocked]
  refine ⟨?_, ?_, power, inputs, loader, peers, port, ?_⟩
  · rw [loopKept]
    by_cases stands : (track s.loop x).unconfirmed = true
        ∧ (detectorInput s.loop { track := x, atEnd := .low }).level = false
        ∧ (detectorInput s.loop { track := x, atEnd := .up }).level = false
        ∧ freshShows (carEntry s x) (fun r => r.motion == .stopped) = true
        ∧ (usablePosition p (carEntry s x)).isSome = true
    · rw [if_pos stands] at confirmed ⊢
      intro q member
      obtain ⟨now, changed⟩ := confirmed q member
      exact ⟨now, fun changes => asks (changed changes)⟩
    · rw [if_neg stands] at confirmed ⊢
      exact confirmed
  · rw [loopKept, frame, loopC]
  · obtain ⟨r, same⟩ := tracker
    rw [same]

end Sys2Proof.Machine
end

section
/-! PROOF. What the Position Tracker's work at a sample tick does to the other blocks: nothing, or a trip (R18, R26, R34, R36,
R165, R166). -/

namespace Sys2Proof.Machine

/-! ## A step that may raise causes -/

/-- A step leaves the state of the node and of its outputs as they were, or it has tripped the node on one of the causes `C`;
in TRIPPED it may add secondary causes. -/
structure Raises (C : List Cause) (s t : State) : Prop where
  own : ∀ c ∈ s.trips.own, c ∈ t.trips.own
  origin : t.trips.origin = s.trips.origin
  stands : standsTripped s = true → standsTripped t = true
  outcome : (t.seq = s.seq ∧ t.brakes = s.brakes ∧ t.envelope = s.envelope ∧ t.ceiling = s.ceiling
        ∧ t.generator = s.generator ∧ t.trips.primary = s.trips.primary)
      ∨ (s.seq.state ≠ .tripped ∧ inService s = true ∧ t.seq.run = s.seq.run ∧ standsTripped t = true
        ∧ ∃ c ∈ C, t.trips.primary = some c ∧ c ∈ t.trips.own)

theorem standsTripped_shows {s : State} (stands : standsTripped s = true) :
    s.seq.state = .tripped ∧ allApplied s.brakes = true ∧ s.ceiling.line = 0 ∧ s.envelope.vperm = 0 := by
  simp only [standsTripped, inState, Bool.and_eq_true, beq_iff_eq, and_assoc] at stands
  obtain ⟨tripped, applied, line, -, vperm, -⟩ := stands
  exact ⟨tripped, applied, line, vperm⟩

theorem tripped_of_standsTripped {s : State} (stands : standsTripped s = true) : s.seq.state = .tripped :=
  (standsTripped_shows stands).1

theorem Raises.refl (C : List Cause) (s : State) : Raises C s s :=
  ⟨fun _ => id, rfl, id, .inl ⟨rfl, rfl, rfl, rfl, rfl, rfl⟩⟩

theorem Raises.trans {C : List Cause} {s t u : State} (one : Raises C s t) (two : Raises C t u) : Raises C s u := by
  refine ⟨fun c has => two.own c (one.own c has), two.origin.trans one.origin, fun stands => two.stands (one.stands stands), ?_⟩
  rcases one.outcome with ⟨seq, brakes, envelope, ceiling, generator, primary⟩ | ⟨out, service, run, stands, c, listed, first, own⟩
  · rcases two.outcome with ⟨seq', brakes', envelope', ceiling', generator', primary'⟩ | ⟨out, service, run, rest⟩
    · exact .inl ⟨seq'.trans seq, brakes'.trans brakes, envelope'.trans envelope, ceiling'.trans ceiling,
        generator'.trans generator, primary'.trans primary⟩
    · refine .inr ⟨by rwa [← seq], ?_, by rw [run, seq], rest⟩
      simpa [inService, inState, seq] using service
  · refine .inr ⟨out, service, ?_, two.stands stands, c, listed, ?_, two.own c own⟩
    · rcases two.outcome with ⟨seq', -⟩ | ⟨-, -, run', -⟩
      · rw [seq', run]
      · rw [run', run]
    · rcases two.outcome with ⟨-, -, -, -, -, primary'⟩ | ⟨out', -⟩
      · rw [primary', first]
      · exact absurd (tripped_of_standsTripped stands) out'

/-- A step at the tracker, the Line Access Unit and the class alone. -/
theorem Raises.of_blocks {C : List Cause} {s t : State} (seq : t.seq = s.seq) (brakes : t.brakes = s.brakes)
    (envelope : t.envelope = s.envelope) (ceiling : t.ceiling = s.ceiling) (generator : t.generator = s.generator)
    (trips : t.trips = s.trips) (still : s.tracker.stillRef = none → t.tracker.stillRef = none)
    (run : s.cls.cls = .run → t.cls.cls = .run) (asked : beaconAsked s = true → beaconAsked t = true) : Raises C s t := by
  refine ⟨fun c has => by rwa [trips], by rw [trips], fun stands => ?_, .inl ⟨seq, brakes, envelope, ceiling, generator, ?_⟩⟩
  · simp only [standsTripped, inState, seq, brakes, envelope, ceiling, generator, Bool.and_eq_true, beq_iff_eq,
      Option.isNone_iff_eq_none] at stands ⊢
    obtain ⟨⟨⟨rest, cls⟩, ref⟩, shown⟩ := stands
    exact ⟨⟨⟨rest, run cls⟩, still ref⟩, asked shown⟩
  · rw [trips]

/-- A step at the tracker alone. -/
theorem Raises.of_tracker {C : List Cause} {s : State} (k : Tracker) (still : s.tracker.stillRef = none → k.stillRef = none) :
    Raises C s { s with tracker := k } :=
  .of_blocks rfl rfl rfl rfl rfl rfl still id id

theorem mem_addCause (c : Cause) (l : List Cause) : c ∈ addCause c l := by
  unfold addCause
  split
  · next has => simpa using has
  · simp

theorem mem_addCause_of_mem {c d : Cause} {l : List Cause} (has : c ∈ l) : c ∈ addCause d l := by
  unfold addCause
  split
  · exact has
  · simp [has]

theorem raises_raiseCause {C : List Cause} {c : Cause} (listed : c ∈ C) (s : State) : Raises C s (raiseCause c s) := by
  by_cases service : inService s = true
  · by_cases tripped : s.seq.state = .tripped
    · rw [raiseCause_of_tripped tripped]
      exact ⟨fun d has => mem_addCause_of_mem has, rfl, id, .inl ⟨rfl, rfl, rfl, rfl, rfl, rfl⟩⟩
    · rw [raiseCause_of_trips service tripped]
      refine ⟨fun d has => ?_, ?_, fun stands => absurd (tripped_of_standsTripped stands) tripped,
        .inr ⟨tripped, service, enterState_run _ _, standsTripped_enterState _, c, listed, ?_, ?_⟩⟩
      · simpa [causeRecorded] using mem_addCause_of_mem has
      · simp [causeRecorded, appendRecord]
      · simp [causeRecorded]
      · simpa [causeRecorded] using mem_addCause c s.trips.own
  · rw [raiseCause_of_not_inService (by simpa using service)]
    exact .refl C s

/-! ## The steps of the tracker's work -/

/-- The causes that the tracker raises. -/
def trackerCauses : List Cause := [.speedSensor, .markerLost, .positionConflict, .uncommandedMotion]

section

variable (p : Profile) (s : State)

theorem raises_takeStep : Raises trackerCauses s (takeStep p s) := by
  unfold takeStep
  dsimp only
  split
  · split
    · exact .of_tracker _ id
    · refine Raises.trans (.of_tracker { s.tracker with delta := 0, illegal := false, sensorLatch := true } id) ?_
      exact (raises_raiseCause (by simp [trackerCauses]) _).trans (.of_tracker _ id)
  · exact .of_tracker _ id

/-- The tracker with a take's record joined (R19, R20). -/
def recordedTracker (d : Int) (speed : Nat) : Tracker :=
  { s.tracker with
    history := joinHistory s.tracker.history { delta := d, speed := speed }
    speed := speed
    motion := motionOf (newestSum s.tracker.history d) }

theorem recordStep_eq (d : Int) (speed : Nat) :
    recordStep d speed s =
      if (standstill s && !standstillOf (recordedTracker s d speed).history) = true then
        wakeEvent { s with tracker := recordedTracker s d speed }
      else { s with tracker := recordedTracker s d speed } := rfl

theorem raises_recordStep (d : Int) (speed : Nat) : Raises trackerCauses s (recordStep d speed s) := by
  have woken : ∀ t : State, Raises trackerCauses t (wakeEvent t) := by
    intro t
    refine .of_blocks (by simp) (by simp) (by simp) (by simp) (by simp) (by simp) (by simp) (fun run => ?_) beaconAsked_wakeEvent
    cases taken : wakes t with
    | true => exact (wakeEvent_cls_of_wakes taken).1
    | false => rwa [wakeEvent_of_not_wakes taken]
  rw [recordStep_eq]
  split
  · exact Raises.trans (.of_tracker (recordedTracker s d speed) id) (woken _)
  · exact .of_tracker _ id

theorem raises_reReference : Raises trackerCauses s (reReference p s) := by
  unfold reReference setPresent
  split
  · exact .refl _ s
  · exact .of_tracker _ fun none => by simp [none]

theorem raises_judgeMiss : Raises trackerCauses s (judgeMiss p s) := by
  unfold judgeMiss withdrawMarkers
  split
  · exact .refl _ s
  · split
    · split
      · exact .of_tracker _ id
      · exact (raises_raiseCause (by simp [trackerCauses]) s).trans (.of_tracker _ id)
    · exact .refl _ s

/-- The next expected marker after R25's choice. -/
def chosenExpected : Option (Marker × Travel) :=
  match travelOf s.tracker.motion with
  | none => s.tracker.nextExpected
  | some d =>
    if located s && s.tracker.nextExpected.all (fun x => x.2 != d) then
      (markerAhead (ownMarkers s p) d (positionCm s p) s.tracker.lastMatched).map (·, d)
    else s.tracker.nextExpected

theorem chooseExpected_eq :
    chooseExpected p s = { s with tracker := { s.tracker with nextExpected := chosenExpected p s } } := by
  unfold chooseExpected chosenExpected
  cases travelOf s.tracker.motion with
  | none => rfl
  | some d =>
    dsimp only
    by_cases chooses : (located s && s.tracker.nextExpected.all (fun x => x.2 != d)) = true
    · rw [if_pos chooses]
      refine if_pos ?_
      cases expected : s.tracker.nextExpected <;> simpa [expected] using chooses
    · rw [if_neg chooses]
      refine if_neg ?_
      cases expected : s.tracker.nextExpected <;> simpa [expected] using chooses

theorem raises_chooseExpected : Raises trackerCauses s (chooseExpected p s) := by
  rw [chooseExpected_eq]
  exact .of_tracker _ id

theorem raises_referenceStep : Raises trackerCauses s (referenceStep p s) := by
  unfold referenceStep
  split
  · exact (raises_judgeMiss p s).trans (raises_chooseExpected p _)
  · split
    · exact .refl _ s
    · exact raises_reReference p s

theorem raises_judgeConflictA (f : Option Finding) : Raises trackerCauses s (judgeConflictA f s) := by
  unfold judgeConflictA withdrawMarkers
  dsimp only
  split
  · split
    · exact .refl _ s
    · refine Raises.trans (.of_tracker { s.tracker with cmpA := { s.tracker.cmpA with conflict := true } } id) ?_
      refine (raises_raiseCause (c := .positionConflict) (by simp [trackerCauses]) _).trans ?_
      split
      · exact .of_tracker _ id
      · exact .of_tracker _ id
  · exact .of_tracker _ id

theorem raises_judgeConflictB (f : Option Finding) : Raises trackerCauses s (judgeConflictB f s) := by
  unfold judgeConflictB
  split
  · split
    · exact .refl _ s
    · refine Raises.trans (.of_tracker { s.tracker with cmpB := { s.tracker.cmpB with conflict := true } } id) ?_
      exact raises_raiseCause (by simp [trackerCauses]) _
  · exact .of_tracker _ id

theorem raises_judgeDisagree (fa fb : Option Finding) : Raises trackerCauses s (judgeDisagree fa fb s) := by
  unfold judgeDisagree
  dsimp only
  split
  · exact .of_tracker _ id
  · exact .of_tracker _ id

theorem raises_compareStep : Raises trackerCauses s (compareStep p s) :=
  (raises_judgeDisagree s _ _).trans ((raises_judgeConflictA _ _).trans (raises_judgeConflictB _ _))

theorem raises_judgeStill : Raises trackerCauses s (judgeStill p s) := by
  unfold judgeStill
  split
  · exact .refl _ s
  · split
    · exact raises_raiseCause (by simp [trackerCauses]) s
    · exact .refl _ s

theorem raises_countStep (d : Int) : Raises trackerCauses s (countStep d s) := .of_tracker _ id

/-- The state with the take recorded and counted: steps 1 to 3 (R37). -/
def counted : State :=
  countStep (takenDelta s p)
    (recordStep (takenDelta s p) (speedOf (cpm s p) (newestSum s.tracker.history (takenDelta s p))) (takeStep p s))

theorem trackLoaded_eq : trackLoaded p s = judgeStill p (compareStep p (referenceStep p (counted p s))) := rfl

theorem raises_counted : Raises trackerCauses s (counted p s) :=
  (raises_takeStep p s).trans ((raises_recordStep _ _ _).trans (raises_countStep _ _))

theorem raises_trackLoaded : Raises trackerCauses s (trackLoaded p s) := by
  rw [trackLoaded_eq]
  refine (raises_counted p s).trans ((raises_referenceStep p _).trans ?_)
  exact (raises_compareStep p _).trans (raises_judgeStill p _)

theorem raises_trackerWork : Raises trackerCauses s (trackerWork s) := by
  unfold trackerWork
  split
  · split
    · exact raises_trackLoaded _ s
    · unfold trackRaw
      exact Raises.trans (.of_tracker { s.tracker with delta := 0, illegal := false } id) (raises_recordStep _ _ _)
  · exact .refl _ s

end

end Sys2Proof.Machine
end

section
/-! PROOF. How a trip ends: the acknowledgement, and the clearing of a peer trip (R169 to R172, R180). -/

namespace Sys2Proof.Machine

/-! ## The acknowledgement (R170, R171) -/

/-- The state with a press of ACK taken. -/
def State.acked (s : State) : State := s.sampled { s.inputs.previous with ack := true }

theorem takeAck_of_pressed {s : State} (pressed : s.inputs.pins.ack = true) (fresh : s.inputs.previous.ack = false)
    (begun : s.seq.state ≠ .starting) : takeAck s = wakeEvent (acknowledge s.acked) := by
  unfold takeAck
  rw [if_pos (by simp [pressed, fresh, inState, begun])]
  rfl

theorem acknowledge_of_tripped {s : State} (tripped : s.seq.state = .tripped) :
    acknowledge s =
      if stands s = true ∧ s.trips.estop = false ∧ s.trips.own.all (conditionGone s) = true then acceptAck s else s := by
  unfold acknowledge
  simp only [tripped]
  refine if_congr ?_ rfl rfl
  simp [and_assoc]

@[simp] theorem dropUnit_liftFail (now : Time) (u : BrakeUnit) : (dropUnit now u).liftFail = u.liftFail := by
  unfold dropUnit
  split <;> rfl

/-- The own causes and every LIFT_FAIL cleared (R170). -/
def causesCleared (s : State) : State := clearLiftFail { s with trips := { s.trips with own := [] } }

theorem acceptAck_eq (s : State) :
    acceptAck s =
      if s.trips.origin = none then leaveTripped (causesCleared s)
      else { causesCleared s with trips := { (causesCleared s).trips with primary := some .peerTrip } } := by
  unfold acceptAck
  refine if_congr ?_ rfl rfl
  exact Option.isNone_iff_eq_none

/-- What leaving TRIPPED leaves (R121, R172). -/
theorem leaveTripped_moves (s : State) :
    (leaveTripped s).seq.state = standingTest s ∧ (leaveTripped s).seq.run = s.seq.run
      ∧ (leaveTripped s).trips = { s.trips with primary := none } ∧ (leaveTripped s).brakes = s.brakes.dropped s.time.now
      ∧ beaconAsked (leaveTripped s) = true ∧ resting (leaveTripped s) = true := by
  have rests := standingTest_rests { s with trips := { s.trips with primary := none } }
  have state : (leaveTripped s).seq.state = standingTest s := enterState_state _ _
  refine ⟨state, enterState_run _ _, by simp [leaveTripped], ?_, beaconAsked_enterState _ _, ?_⟩
  · exact enterState_brakes_of_rest _ (by rcases rests with h | h <;> rw [h] <;> simp)
  · rcases standingTest_rests s with h | h <;> simp [resting, inState, state, h]

theorem doorJudged_leaveTripped {p : Profile} {s : State} (tripped : s.seq.state = .tripped)
    (loaded : s.loader.profile = some p) : doorJudged false p (leaveTripped s) = true := by
  refine doorJudged_enterState (s := { s with trips := { s.trips with primary := none } }) _ loaded fun _ _ => ?_
  have state : ({ s with trips := { s.trips with primary := none } } : State).seq.state = .tripped := tripped
  rw [state]
  rfl

theorem doorJudged_of_not_dwell {m : Bool} {p : Profile} {s : State} (out : s.seq.state ≠ .dwell) : doorJudged m p s = true := by
  simp [doorJudged, inState, out]

/-- What an accepted press leaves of the trip (R170). -/
theorem acceptAck_moves {s : State} (tripped : s.seq.state = .tripped) :
    (acceptAck s).trips = { s.trips with own := [], primary := if s.trips.origin = none then none else some .peerTrip }
      ∧ (acceptAck s).seq.state = (if s.trips.origin = none then standingTest s else .tripped)
      ∧ (acceptAck s).brakes.eb.liftFail = false ∧ (acceptAck s).brakes.sb.liftFail = false
      ∧ (acceptAck s).brakes.tb.liftFail = false ∧ (acceptAck s).seq.run = s.seq.run
      ∧ (∀ p ∈ s.loader.profile, doorJudged false p (acceptAck s) = true)
      ∧ (beaconAsked (acceptAck s) = true ∨ (acceptAck s).cls = s.cls) := by
  rw [acceptAck_eq]
  split
  · next none =>
    obtain ⟨state, run, trips, brakes, asked, -⟩ := leaveTripped_moves (causesCleared s)
    rw [trips, state, run, brakes]
    refine ⟨rfl, rfl, ?_, ?_, ?_, rfl, fun p member => doorJudged_leaveTripped tripped member, .inl asked⟩
    all_goals simp [causesCleared, Brakes.dropped]
  · next held => exact ⟨rfl, tripped, rfl, rfl, rfl, rfl, fun p _ => doorJudged_of_not_dwell (by simp [causesCleared, tripped]), .inr rfl⟩

theorem woken_congr {s t u : State} (cls : t.cls = s.cls) : woken t u = woken s u := by simp [woken, cls]

/-- A press is a wake event (R180), whatever it clears. -/
theorem woken_takeAck {s v : State} (wakes' : wakes v = true) (known : beaconAsked v = true ∨ v.cls = s.cls) :
    woken s (wakeEvent v) = true := by
  rcases known with asked | same
  · obtain ⟨run, wake, role⟩ := wakeEvent_cls_of_wakes wakes'
    simp [woken, run, wake, role, beaconAsked_wakeEvent asked]
  · rw [← woken_congr same]
    exact woken_wakeEvent wakes'

/-! ## A sample tick in TRIPPED (R169, R172) -/

/-- Out of RUNNING and STOPPING the Envelope Calculator changes its own record alone (R40). -/
theorem envelopeWork_of_still {s : State} (still : moving s = false) : ∃ v, envelopeWork s = { s with envelope := v } := by
  have arrives : ∀ p : Profile, envelopeEncoder p s = envelopeLoop p s := by
    intro p
    obtain ⟨v, same⟩ := envelopeLoop_envelope p s
    have eq : envelopeEncoder p s = arrivalStep p (envelopeLoop p s) := rfl
    rw [eq, same, arrivalStep, if_neg]
    simpa [moving, inState] using still
  unfold envelopeWork
  split
  · exact ⟨s.envelope, rfl⟩
  · next p _ =>
    split
    · cases role s with
      | drive => exact arrives p ▸ envelopeLoop_envelope p s
      | car => exact arrives p ▸ envelopeLoop_envelope p s
      | loop => exact envelopeLoop_envelope p s
      | terminal => exact ⟨_, rfl⟩
    · exact ⟨s.envelope, rfl⟩

/-- Out of RUNNING and STOPPING the ceiling unit forms the line ceiling and judges nothing (R104, R115). -/
theorem ceilingWork_of_still {s : State} (still : moving s = false) : ceilingWork s = s ∨ ceilingWork s = formCeiling s := by
  by_cases service : inService s = true
  · cases loaded : s.loader.profile with
    | none => exact .inl (by simp [ceilingWork, loaded])
    | some p =>
      right
      have state : (formCeiling s).seq = s.seq := by simp
      have quiet : moving (formCeiling s) = false := by rw [← still]; simp [moving, inState]
      have rests : inState (formCeiling s) .running = false := by
        simp only [moving, Bool.or_eq_false_iff] at quiet
        exact quiet.1
      rw [ceilingWork_eq loaded service, supervised_of_not_moving still]
      simp [overspeedStep, completeStep, commsComplete, quiet, rests]
  · left
    unfold ceilingWork
    split
    · rfl
    · exact if_neg service

/-- What the blocks before the clearing leave of a node that the tracker's work has left out of every run. -/
theorem sampleWork_of_rest {s : State} (rests : (trackerWork s).seq.state ≠ .armed ∧ (trackerWork s).seq.state ≠ .running
      ∧ (trackerWork s).seq.state ≠ .stopping) :
    ∃ y, sampleWork s = judgeClear y ∧ y.seq = (trackerWork s).seq ∧ y.trips = (trackerWork s).trips
      ∧ y.tracker = (trackerWork s).tracker ∧ y.loader = s.loader ∧ y.peers = s.peers := by
  have frame := trackerWork_frame s
  unfold sampleWork
  generalize trackerWork s = v at *
  obtain ⟨-, -, -, loader, peers, -⟩ := frame
  have still : moving v = false := by simp [moving, inState, rests]
  obtain ⟨w, enveloped⟩ := envelopeWork_of_still still
  have formed : ∃ c g, ceilingWork (envelopeWork v) = { v with envelope := w, ceiling := c, generator := g } := by
    rw [enveloped]
    rcases ceilingWork_of_still (s := { v with envelope := w }) still with same | same <;> rw [same]
    · exact ⟨_, _, rfl⟩
    · refine ⟨(formCeiling { v with envelope := w }).ceiling, (formCeiling { v with envelope := w }).generator, ?_⟩
      apply State.eq_of_fields <;> simp
  obtain ⟨c, g, formed⟩ := formed
  rw [formed]
  refine ⟨_, rfl, ?_⟩
  rw [sequencerWork_of_rest (by simpa using rests)]
  simp [loader, peers]

theorem sampleWork_of_tripped {s : State} (tripped : s.seq.state = .tripped) :
    ∃ y, sampleWork s = judgeClear y ∧ y.seq = s.seq ∧ y.trips = (trackerWork s).trips ∧ y.loader = s.loader
      ∧ y.peers = s.peers := by
  have kept : (trackerWork s).seq = s.seq := by
    rcases (raises_trackerWork s).outcome with ⟨seq, -⟩ | ⟨out, -⟩
    · exact seq
    · exact absurd tripped out
  obtain ⟨y, ends, seq, trips, -, loader, peers⟩ := sampleWork_of_rest (s := s) (by simp [kept, tripped])
  exact ⟨y, ends, seq.trans kept, trips, loader, peers⟩

theorem wakes_acceptAck {s : State} (tripped : s.seq.state = .tripped) : wakes (acceptAck s) = true := by
  obtain ⟨-, state, -⟩ := acceptAck_moves tripped
  rw [wakes_iff, state]
  split
  · rcases standingTest_rests s with h | h <;> simp [h]
  · simp

/-- An accepted press (R170, R180). -/
theorem ack_accepted {s : State} (live : held s = false) (tripped : s.seq.state = .tripped)
    (pressed : s.inputs.pins.ack = true) (fresh : s.inputs.previous.ack = false) (still : stands s = true)
    (released : s.trips.estop = false) (gone : s.trips.own.all (conditionGone s) = true) :
    ∃ z, exec .ackPress s = .next ((wakeEvent (acceptAck s.acked)).clocked z) := by
  obtain ⟨z, taken⟩ := act_clocked takeAck live
  have accepted : stands s.acked = true ∧ s.acked.trips.estop = false ∧ s.acked.trips.own.all (conditionGone s.acked) = true :=
    ⟨still, released, gone⟩
  rw [takeAck_of_pressed pressed fresh (by simp [tripped]), acknowledge_of_tripped (s := s.acked) tripped, if_pos accepted]
    at taken
  exact ⟨z, taken⟩

/-- A press that a condition refuses (R170). -/
theorem ack_refused {s : State} (live : held s = false) (tripped : s.seq.state = .tripped)
    (pressed : s.inputs.pins.ack = true) (fresh : s.inputs.previous.ack = false)
    (fails : stands s = false ∨ s.trips.estop = true ∨ s.trips.own.all (conditionGone s) = false) :
    exec .ackPress s = .next (wakeEvent s.acked) := by
  have refused : ¬(stands s.acked = true ∧ s.acked.trips.estop = false
      ∧ s.acked.trips.own.all (conditionGone s.acked) = true) := by
    rintro ⟨still, released, gone⟩
    rcases fails with h | h | h
    · exact absurd (still.symm.trans h) (by simp)
    · exact absurd (released.symm.trans h) (by simp)
    · exact absurd (gone.symm.trans h) (by simp)
  have press : takeAck s = wakeEvent s.acked := by
    rw [takeAck_of_pressed pressed fresh (by simp [tripped]), acknowledge_of_tripped (s := s.acked) tripped, if_neg refused]
  rw [exec_ackPress_eq, act_of_state live, press]
  all_goals rw [press]; simp [State.acked]

theorem doorJudged_clocked (m : Bool) (p : Profile) (z : Option Time) (s : State) :
    doorJudged m p (s.clocked z) = doorJudged m p s := rfl

theorem woken_clocked (z : Option Time) (s t : State) : woken s (t.clocked z) = woken s t := rfl

/-- What a judgement of the clearing reads of the node after it. -/
theorem stands_congr {s t : State} (loader : t.loader = s.loader) (peers : t.peers = s.peers)
    (history : t.tracker.history = s.tracker.history) : stands t = stands s := by
  simp [stands, hasEncoder, isDrive, isCar, role, standstill, driveStopped, heardShows, driveEntry, loader, peers, history]

theorem standingTest_congr {s t : State} (loader : t.loader = s.loader) (peers : t.peers = s.peers)
    (counts : t.tracker.counts = s.tracker.counts) (quality : t.tracker.quality = s.tracker.quality) :
    standingTest t = standingTest s := by
  simp [standingTest, hasEncoder, isDrive, isCar, role, atStop, located, stopHere, ownStops, reported, positionCm, cpm, side,
    driveEntry, loader, peers, counts, quality]
  rfl

/-- A held peer trip clears: the node stands and no heard peer shows a cause of its own (R169). -/
def clears (y : State) : Bool := y.trips.origin.isSome && !y.peers.any holdsPeerTrip && stands y

/-- What the clearing leaves of the trip (R169, R172). -/
theorem judgeClear_moves {y : State} (tripped : y.seq.state = .tripped) :
    (judgeClear y).trips.own = y.trips.own
      ∧ (judgeClear y).trips.origin = (if clears y = true then none else y.trips.origin)
      ∧ (judgeClear y).seq.run = y.seq.run ∧ stands (judgeClear y) = stands y
      ∧ (∀ p ∈ y.loader.profile, doorJudged false p (judgeClear y) = true)
      ∧ (if clears y = true ∧ y.trips.own = [] then
          resting (judgeClear y) = true ∧ (judgeClear y).trips.primary = none ∧ allApplied (judgeClear y).brakes = true
            ∧ beaconAsked (judgeClear y) = true
            ∧ ((isDrive y = false ∨ (judgeClear y).seq.state = .hold) →
                (judgeClear y).seq.state = standingTest (judgeClear y))
        else (judgeClear y).seq.state = .tripped ∧ (judgeClear y).trips.primary = y.trips.primary) := by
  by_cases gone : clears y = true
  · by_cases empty : y.trips.own = []
    · have leaves : judgeClear y = leaveTripped { y with trips := { y.trips with origin := none } } := by
        rw [judgeClear, if_pos (by exact gone)]
        exact if_pos (by simp [empty, inState, tripped])
      rw [leaves]
      generalize cleared : ({ y with trips := { y.trips with origin := none } } : State) = c
      have state' : c.seq.state = .tripped := by rw [← cleared]; exact tripped
      have loader' : c.loader = y.loader := by rw [← cleared]
      have trips' : c.trips = { y.trips with origin := none } := by rw [← cleared]
      have run' : c.seq.run = y.seq.run := by rw [← cleared]
      have drive' : isDrive c = isDrive y := by rw [← cleared]; rfl
      have stands' : stands c = stands y := by rw [← cleared]; rfl
      obtain ⟨state, run, trips, brakes, asked, rests⟩ := leaveTripped_moves c
      have congr := stands_congr (s := c) (t := leaveTripped c) (by simp) (by simp) (by simp [leaveTripped])
      refine ⟨by simp [trips, trips'], by simp [trips, trips', gone], run.trans run', congr.trans stands',
        fun p loaded => doorJudged_leaveTripped state' (by rw [loader']; exact loaded), ?_⟩
      rw [if_pos ⟨gone, empty⟩]
      refine ⟨rests, by rw [trips], ?_, asked, fun judged => ?_⟩
      · rw [brakes]
        simp [allApplied, Brakes.dropped]
      · have reached : isDrive c = false ∨ standingTest c ≠ .dwell := by
          rcases judged with other | hold
          · exact .inl (drive'.trans other)
          · exact .inr (by rw [← state, hold]; simp)
        obtain ⟨r, kept⟩ := enterState_tracker_of_no_reference (n := standingTest c)
          (s := { c with trips := { c.trips with primary := none } }) (reached.imp id .inl)
        have kept : (leaveTripped c).tracker = { c.tracker with stillRef := r } := kept
        rw [state]
        exact (standingTest_congr (by simp) (by simp) (by rw [kept]) (by rw [kept])).symm
    · have stays : judgeClear y = { y with trips := { y.trips with origin := none } } := by
        rw [judgeClear, if_pos (by exact gone)]
        exact if_neg (by simp [empty])
      have remain : ¬(clears y = true ∧ y.trips.own = []) := fun h => empty h.2
      rw [stays, if_neg remain]
      exact ⟨rfl, by simp [gone], rfl, rfl, fun p _ => doorJudged_of_not_dwell (by simp [tripped]), tripped, rfl⟩
  · have stays : judgeClear y = y := if_neg gone
    have remain : ¬(clears y = true ∧ y.trips.own = []) := fun h => gone h.1
    rw [stays, if_neg remain, if_neg gone]
    exact ⟨rfl, rfl, rfl, rfl, fun p _ => doorJudged_of_not_dwell (by simp [tripped]), tripped, rfl⟩

/-- Settles O26: the press first, then the clearing of a held peer trip at a sample tick. -/
theorem acknowledgementClearsTheTrip : Obligations.AcknowledgementClearsTheTrip := by
  intro s live tripped
  refine ⟨fun pressed fresh => ⟨fun still released gone => ?_, fun fails => ?_⟩, fun due held => ?_⟩
  · obtain ⟨z, taken⟩ := ack_accepted live tripped pressed fresh still released gone
    obtain ⟨trips, state, eb, sb, tb, run, door, known⟩ := acceptAck_moves (s := s.acked) tripped
    have still' : standingTest s.acked = standingTest s := rfl
    have woke := woken_takeAck (s := s.acked) (wakes_acceptAck (s := s.acked) tripped) known
    obtain ⟨power, time, inputs, loader, peers, loop, port, -⟩ := acceptAck_frame s.acked
    refine ⟨_, taken, ?_⟩
    simp only [State.clocked_frame, woken_clocked, doorJudged_clocked]
    generalize acceptAck s.acked = v at *
    simp only [wakeEvent_frame]
    refine ⟨trips, state.trans (by rw [still']; rfl), eb, sb, tb, by rw [inputs]; rfl, woke, fun p loaded => ?_, power, ?_, loader,
      peers, loop, port, run⟩
    · rw [← door p loaded]
      exact doorJudged_congr (by simp) (by simp) (by simp) (by simp)
    · rw [time]
      rfl
  · refine ⟨_, ack_refused live tripped pressed fresh fails, ?_, ?_⟩
    · have moved : wakeEvent s.acked = withInputsAndBrakes _ _ (wakeEvent s) := wakeEvent_withInputsAndBrakes _ _ s
      rw [moved, wakeEvent_eq]
      rfl
    · exact woken_takeAck ((wakes_iff _).mpr (by simp [State.acked, tripped])) (.inr rfl)
  · obtain ⟨z, taken⟩ := exec_sampleTick live due (by simp [tripped])
    obtain ⟨y, ends, seq, trips, loader, peers⟩ := sampleWork_of_tripped (s := s.ticked) tripped
    have tracked := raises_trackerWork s.ticked
    have first : y.trips.primary = s.trips.primary := by
      rcases tracked.outcome with ⟨-, -, -, -, -, primary⟩ | ⟨out, -⟩
      · rw [trips]; exact primary
      · exact absurd tripped out
    have origin : y.trips.origin = s.trips.origin := by rw [trips]; exact tracked.origin
    have own : ∀ c ∈ s.trips.own, c ∈ y.trips.own := by rw [trips]; exact tracked.own
    have drive : isDrive y = isDrive s := isDrive_congr loader
    have judged : clears y = true ↔ stands y = true
        ∧ s.peers.any (fun e => heard e && recordShows e (fun r => r.state == .tripped && r.cause != some .peerTrip)) = false := by
      have listed : y.peers = s.peers := peers
      simp only [clears, origin, held, listed, Bool.true_and, Bool.and_eq_true, Bool.not_eq_true']
      exact and_comm
    obtain ⟨own', origin', run, stood, door, ends'⟩ := judgeClear_moves (y := y) (by rw [seq]; exact tripped)
    have frame := sampleWork_frame s.ticked
    refine ⟨_, taken, ?_⟩
    rw [ends] at frame ⊢
    obtain ⟨power, -, inputs, loader', peers', port, -⟩ := frame
    have same : standingTest ((judgeClear y).clocked z) = standingTest (judgeClear y) := rfl
    have stood' : stands ((judgeClear y).clocked z) = stands y := stood
    have rests : resting ((judgeClear y).clocked z) = resting (judgeClear y) := rfl
    simp only [State.clocked_frame, doorJudged_clocked, stood', same, rests, beaconAsked_clocked]
    rw [first, drive] at ends'
    rw [origin] at origin'
    rw [loader] at door
    refine ⟨?_, ?_, door, fun c has => ?_, power, inputs, loader', peers', port, by rw [run, seq]; rfl⟩
    · rw [origin']
      exact if_congr judged rfl rfl
    · refine (if_congr ?_ rfl rfl).mp ends'
      rw [origin', own']
      refine and_congr_left fun _ => ⟨fun gone => if_pos gone, fun none => ?_⟩
      by_contra other
      rw [if_neg other] at none
      simp [none] at held
    · rw [own']
      simpa using own c has

end Sys2Proof.Machine
end

section
/-! PROOF. What a sample tick leaves of the tracker, step by step (R18 to R21, R25, R26, R28, R33, R34, R37). -/

namespace Sys2Proof.Machine

/-! ## After the tracker's work -/

theorem Raises.inService {C : List Cause} {s t : State} (r : Raises C s t) : inService t = inService s := by
  rcases r.outcome with ⟨seq, -⟩ | ⟨-, service, -, stands, -⟩
  · simp [Machine.inService, inState, seq]
  · rw [service]
    simp [Machine.inService, inState, tripped_of_standsTripped stands]

/-- Before the ceiling unit's work the tracker moves in its still-entry reference alone (R57). -/
theorem envelopeWork_moves (s : State) :
    (∃ v, envelopeWork s = { s with envelope := v })
      ∨ moving s = true ∧ ∃ v, envelopeWork s = raiseCause .overrun { s with envelope := v } := by
  have arrives : ∀ p : Profile, (∃ v, envelopeEncoder p s = { s with envelope := v })
      ∨ moving s = true ∧ ∃ v, envelopeEncoder p s = raiseCause .overrun { s with envelope := v } := by
    intro p
    obtain ⟨v, same⟩ := envelopeLoop_envelope p s
    have eq : envelopeEncoder p s = arrivalStep p (envelopeLoop p s) := rfl
    rw [eq, same, arrivalStep_eq]
    split
    · next moves =>
      split
      · exact .inr ⟨moves, _, rfl⟩
      · exact .inl ⟨_, rfl⟩
    · exact .inl ⟨_, rfl⟩
  unfold envelopeWork
  split
  · exact .inl ⟨s.envelope, rfl⟩
  · next p _ =>
    split
    · cases role s with
      | drive => exact arrives p
      | car => exact arrives p
      | loop => exact .inl (envelopeLoop_envelope p s)
      | terminal => exact .inl ⟨_, rfl⟩
    · exact .inl ⟨s.envelope, rfl⟩

/-- What follows a step that moves the still-entry reference alone and keeps DWELL. -/
theorem Tracked.after {s t u : State} (loader : t.loader = s.loader) (peers : t.peers = s.peers)
    (moved : ∃ r, t.tracker = { s.tracker with stillRef := r }) (dwells : s.seq.state = .dwell → t.seq.state = .dwell)
    (two : Tracked t u) : Tracked s u := by
  obtain ⟨loader', peers', moved'⟩ := two
  obtain ⟨r, tracker⟩ := moved
  refine ⟨loader'.trans loader, peers'.trans peers, ?_⟩
  rcases moved' with ⟨q, tracker'⟩ | ⟨dwell, out, drive, p, x, q, loaded, reference, tracker'⟩
  · exact .inl ⟨q, by rw [tracker', tracker]⟩
  · refine .inr ⟨dwell, fun h => out (dwells h), by rwa [← isDrive_congr loader], p, x, q, by rwa [← loader], ?_, ?_⟩
    · simpa [referencePosition, carEntry, peers] using reference
    · rw [tracker', tracker]
      simp [cpm, invertedDelta, inverted, isDrive, role, side, loader, tracker]

theorem sampleWork_tracked {p : Profile} {s : State} (loaded : s.loader.profile = some p) :
    Tracked (trackerWork s) (sampleWork s) := by
  by_cases service : inService (trackerWork s) = true
  · have unfolded : sampleWork s = judgeClear (sequencerWork (loopWork (ceilingWork (envelopeWork (trackerWork s))))) := rfl
    rw [unfolded]
    have loader := (trackerWork_frame s).2.2.2.1
    generalize trackerWork s = v at *
    rcases envelopeWork_moves v with ⟨w, eq⟩ | ⟨moves, w, eq⟩
    · rw [eq]
      have rest := tick_tracked (p := p) (b := { v with envelope := w }) (by exact loader ▸ loaded) service
      exact Tracked.after (s := v) (t := { v with envelope := w }) rfl rfl ⟨v.tracker.stillRef, rfl⟩ id rest
    · have known := raises_raiseCause (C := [.overrun]) (c := .overrun) (by simp) { v with envelope := w }
      have moved := raiseCause_tracker .overrun { v with envelope := w }
      rw [eq]
      have rest := tick_tracked (p := p) (b := raiseCause .overrun { v with envelope := w }) (by simp [loader, loaded])
        (known.inService.trans service)
      refine .after (by simp) (by simp) moved (fun dwell => ?_) rest
      simp [moving, inState, dwell] at moves
  · have out : (trackerWork s).seq.state = .starting ∨ (trackerWork s).seq.state = .faulted := by
      simpa [inService, inState, or_iff_not_imp_left] using service
    obtain ⟨y, ends, seq, -, tracker, loader, peers⟩ := sampleWork_of_rest (s := s) (by rcases out with h | h <;> simp [h])
    have begun : Tracked (trackerWork s) y := .of_same (by simp [loader]) (by simp [peers]) tracker
    rw [ends]
    refine begun.clad ((tickEnd_judgeClear y).clad_of_not_tripped ?_)
    rw [seq]
    rcases out with h | h <;> simp [h]

/-- A node that the tracker's work has tripped ends the tick in TRIPPED with its own causes (R165, R169). -/
theorem sampleWork_trips {c : Cause} {s : State} (tripped : (trackerWork s).seq.state = .tripped)
    (own : c ∈ (trackerWork s).trips.own) : (sampleWork s).seq.state = .tripped ∧ c ∈ (sampleWork s).trips.own := by
  obtain ⟨y, ends, seq, trips, -⟩ := sampleWork_of_rest (s := s) (by simp [tripped])
  rw [ends]
  cases tickEnd_judgeClear y with
  | clad kept =>
    obtain ⟨-, -, -, -, -, -, -, -, -, seq', -, -, -, -, own', -⟩ := kept.kept
    exact ⟨by rw [seq', seq, tripped], by rwa [own', trips]⟩
  | left _ empty _ =>
    rw [← trips, empty] at own
    simp at own

theorem loop_of_encoder {s : State} (encoder : hasEncoder s = true) : (sampleWork s).loop = s.loop := by
  have other : isLoop s = false := by
    by_contra loop
    rw [hasEncoder_of_isLoop (by simpa using loop)] at encoder
    simp at encoder
  have rests : ∀ v : State, v.loader = s.loader → loopWork v = v := by
    intro v loader
    have : isLoop v = false := by rw [← other]; simp [isLoop, role, loader]
    unfold loopWork
    split
    · rfl
    · simp [this]
  obtain ⟨-, -, -, -, -, -, loop⟩ := sampleWork_frame s
  rw [loop, rests _ (by simp)]
  simp

end Sys2Proof.Machine
end

section
/-! PROOF. The tracker after each step of its work at a sample tick (R18 to R21, R33, R34, R37). -/

namespace Sys2Proof.Machine

/-! ## The take (R18 to R21) -/

/-- The quality after the take (R18). -/
def takenQuality (p : Profile) (s : State) : Quality :=
  if takeFaulty s p then lowered s.tracker.quality else s.tracker.quality

theorem lowered_eq_none (q : Quality) : lowered q = .none ↔ q = .none := by cases q <;> simp [lowered]

theorem takenQuality_eq_none (p : Profile) (s : State) : takenQuality p s = .none ↔ s.tracker.quality = .none := by
  unfold takenQuality
  split
  · exact lowered_eq_none _
  · rfl

theorem takeStep_tracker (p : Profile) (s : State) : ∃ l r, (takeStep p s).tracker =
    { s.tracker with delta := 0, illegal := false, sensorLatch := l, stillRef := r, quality := takenQuality p s } := by
  unfold takeStep takenQuality
  dsimp only
  split
  · split
    · exact ⟨_, _, rfl⟩
    · obtain ⟨r, same⟩ := raiseCause_tracker .speedSensor
        { s with tracker := { s.tracker with delta := 0, illegal := false, sensorLatch := true } }
      exact ⟨true, r, by rw [same]⟩
  · exact ⟨_, _, rfl⟩

theorem recordStep_tracker (d : Int) (v : Nat) (s : State) : (recordStep d v s).tracker = recordedTracker s d v := by
  rw [recordStep_eq]
  split <;> simp

/-- The tracker after steps 1 to 3 (R37). -/
theorem counted_tracker (p : Profile) (s : State) : ∃ l r h v m, (counted p s).tracker =
    { s.tracker with
      delta := 0, illegal := false, sensorLatch := l, stillRef := r, quality := takenQuality p s, history := h, speed := v
      motion := m, counts := sat32 (s.tracker.counts + takenDelta s p) } := by
  obtain ⟨l, r, same⟩ := takeStep_tracker p s
  unfold counted countStep
  rw [recordStep_tracker, recordedTracker, same]
  exact ⟨l, r, _, _, _, rfl⟩

/-- What the steps of the tracker leave of the blocks that its judgements read. -/
@[simp] theorem counted_frame (p : Profile) (s : State) :
    (counted p s).loader = s.loader ∧ (counted p s).peers = s.peers := by
  simp [counted, countStep]

/-! ## The comparisons (R32 to R34) -/

theorem finding_congr {p : Profile} {s t : State} (loader : t.loader = s.loader) (peers : t.peers = s.peers)
    (service : inService t = inService s) (known : located t = located s) (counts : t.tracker.counts = s.tracker.counts) :
    findingA t p = findingA s p ∧ findingB t p = findingB s p := by
  constructor
  · simp [findingA, mayCompare, service, known, isDrive, role, side, carEntry, driveEntry, reported, positionCm, cpm, loader,
      peers, counts]
  · simp [findingB, mayCompare, service, known, isDrive, role, carEntry, reported, positionCm, cpm, loader, peers, counts]

/-- A difference beyond three allowances that the latch does not show yet (R34). -/
def findsConflict (f : Option Finding) (c : Comparison) : Bool := conflicts f && !c.conflict

/-- The own position withdrawn: the quality, and at a CAR the marker state with it (R34). -/
def Tracker.withdrawn (drive : Bool) (k : Tracker) : Tracker :=
  if drive then { k with quality := .none }
  else { k with quality := .none, misses := 0, nextExpected := none, lastMatched := none }

@[simp] theorem Tracker.withdrawn_quality (drive : Bool) (k : Tracker) : (k.withdrawn drive).quality = .none := by
  cases drive <;> rfl

theorem judgeConflictA_tracker (f : Option Finding) (s : State) : ∃ r, (judgeConflictA f s).tracker =
    { (if findsConflict f s.tracker.cmpA = true then s.tracker.withdrawn (isDrive s) else s.tracker) with
      cmpA := { s.tracker.cmpA with conflict := conflicts f }, stillRef := r } := by
  unfold judgeConflictA findsConflict
  dsimp only
  split
  · next found =>
    split
    · next latched =>
      have same : conflicts f = s.tracker.cmpA.conflict := found.trans latched.symm
      exact ⟨s.tracker.stillRef, by rw [if_neg (by simp [latched]), same]⟩
    · next fresh =>
      obtain ⟨r, same⟩ := raiseCause_tracker .positionConflict
        { s with tracker := { s.tracker with cmpA := { s.tracker.cmpA with conflict := true } } }
      refine ⟨r, ?_⟩
      cases drive : isDrive s <;> simp [found, fresh, same, Tracker.withdrawn, withdrawMarkers]
  · next quiet => exact ⟨s.tracker.stillRef, by simp [quiet]⟩

theorem judgeConflictB_tracker (f : Option Finding) (s : State) : ∃ r, (judgeConflictB f s).tracker =
    { s.tracker with cmpB := { s.tracker.cmpB with conflict := conflicts f }, stillRef := r } := by
  unfold judgeConflictB
  split
  · next found =>
    split
    · next latched =>
      have same : conflicts f = s.tracker.cmpB.conflict := found.trans latched.symm
      exact ⟨s.tracker.stillRef, by rw [same]⟩
    · obtain ⟨r, same⟩ := raiseCause_tracker .positionConflict
        { s with tracker := { s.tracker with cmpB := { s.tracker.cmpB with conflict := true } } }
      exact ⟨r, by rw [same, found]⟩
  · next quiet => exact ⟨s.tracker.stillRef, by simp [quiet]⟩

/-- The two comparisons with DISAGREE judged (R33). -/
theorem judgeDisagree_tracker (fa fb : Option Finding) (s : State) : ∃ d a b,
    (judgeDisagree fa fb s).tracker = { s.tracker with disagree := d, cmpA := a, cmpB := b }
      ∧ a.conflict = s.tracker.cmpA.conflict ∧ b.conflict = s.tracker.cmpB.conflict := by
  have latch : ∀ (d : Bool) (f : Option Finding) (c : Comparison), (countComparison d f c).conflict = c.conflict := by
    intro d f c
    cases f <;> cases d <;> rfl
  unfold judgeDisagree
  dsimp only
  split <;> exact ⟨_, _, _, rfl, latch _ _ _, latch _ _ _⟩

/-- The tracker after step 6 (R37). -/
theorem compareStep_tracker (p : Profile) (s : State) : ∃ d a b r,
    (judgeDisagree (findingA s p) (findingB s p) s).tracker = { s.tracker with disagree := d, cmpA := a, cmpB := b }
      ∧ (compareStep p s).tracker =
        { (if findsConflict (findingA s p) s.tracker.cmpA = true then s.tracker.withdrawn (isDrive s) else s.tracker) with
          disagree := d, cmpA := { a with conflict := conflicts (findingA s p) }
          cmpB := { b with conflict := conflicts (findingB s p) }, stillRef := r } := by
  obtain ⟨d, a, b, first, latchA, latchB⟩ := judgeDisagree_tracker (findingA s p) (findingB s p) s
  obtain ⟨r, second⟩ := judgeConflictA_tracker (findingA s p) (judgeDisagree (findingA s p) (findingB s p) s)
  obtain ⟨q, third⟩ := judgeConflictB_tracker (findingB s p)
    (judgeConflictA (findingA s p) (judgeDisagree (findingA s p) (findingB s p) s))
  have drive : isDrive (judgeDisagree (findingA s p) (findingB s p) s) = isDrive s := isDrive_congr (by simp)
  refine ⟨d, a, b, q, first, ?_⟩
  unfold compareStep
  dsimp only
  rw [third, second, first, drive]
  unfold findsConflict
  rw [latchA]
  split
  · cases isDrive s <;> rfl
  · rfl

theorem Raises.tripped {C : List Cause} {s t : State} (r : Raises C s t) (tripped : s.seq.state = .tripped) :
    t.seq.state = .tripped := by
  rcases r.outcome with ⟨seq, -⟩ | ⟨out, -⟩
  · rw [seq, tripped]
  · exact absurd tripped out

/-- A conflict found in service trips the node (R34). -/
theorem compareStep_trips {p : Profile} {s : State} (service : Machine.inService s = true)
    (found : findsConflict (findingA s p) s.tracker.cmpA = true ∨ findsConflict (findingB s p) s.tracker.cmpB = true) :
    (compareStep p s).seq.state = .tripped ∧ Cause.positionConflict ∈ (compareStep p s).trips.own := by
  have raised : ∀ u : State, Machine.inService u = true → (raiseCause .positionConflict u).seq.state = .tripped
      ∧ Cause.positionConflict ∈ (raiseCause .positionConflict u).trips.own := by
    intro u service
    obtain ⟨tripped, own⟩ := raised_in_service (c := .positionConflict) service
    exact ⟨tripped, own ▸ mem_addCause _ _⟩
  obtain ⟨d, a, b, first, latchA, latchB⟩ := judgeDisagree_tracker (findingA s p) (findingB s p) s
  unfold compareStep
  dsimp only
  have serviceD := (raises_judgeDisagree s (findingA s p) (findingB s p)).inService
  generalize judgeDisagree (findingA s p) (findingB s p) s = u at *
  rw [service] at serviceD
  have laterA := raises_judgeConflictA u (findingA s p)
  have laterB := raises_judgeConflictB (judgeConflictA (findingA s p) u) (findingB s p)
  rcases found with conflict | conflict
  · simp only [findsConflict, Bool.and_eq_true, Bool.not_eq_true'] at conflict
    have judged : (judgeConflictA (findingA s p) u).seq.state = .tripped
        ∧ Cause.positionConflict ∈ (judgeConflictA (findingA s p) u).trips.own := by
      have fresh : ¬u.tracker.cmpA.conflict = true := by simp [first, latchA, conflict.2]
      unfold judgeConflictA
      rw [if_pos conflict.1, if_neg fresh]
      dsimp only
      have known := raised { u with tracker := { u.tracker with cmpA := { u.tracker.cmpA with conflict := true } } } serviceD
      split
      · exact known
      · exact known
    exact ⟨laterB.tripped judged.1, laterB.own _ judged.2⟩
  · simp only [findsConflict, Bool.and_eq_true, Bool.not_eq_true'] at conflict
    obtain ⟨r, second⟩ := judgeConflictA_tracker (findingA s p) u
    have fresh : ¬(judgeConflictA (findingA s p) u).tracker.cmpB.conflict = true := by
      rw [second]
      split
      · cases isDrive u <;> simp [Tracker.withdrawn, first, latchB, conflict.2]
      · simp [first, latchB, conflict.2]
    generalize judgeConflictA (findingA s p) u = w at *
    unfold judgeConflictB
    rw [if_pos conflict.1, if_neg fresh]
    exact raised { w with tracker := { w.tracker with cmpB := { w.tracker.cmpB with conflict := true } } }
      (laterA.inService.trans serviceD)

theorem judgeStill_tracker (p : Profile) (s : State) : ∃ r, (judgeStill p s).tracker = { s.tracker with stillRef := r } := by
  unfold judgeStill
  split
  · exact ⟨_, rfl⟩
  · split
    · exact raiseCause_tracker _ s
    · exact ⟨_, rfl⟩

end Sys2Proof.Machine
end

section
/-! PROOF. The markers at a CAR's sample tick (R25, R26). -/

namespace Sys2Proof.Machine

theorem lowered_of_known {q : Quality} (known : q ≠ .none) : lowered q = .reckoned := by cases q <;> simp_all [lowered]

/-! ## The tracker at the end of the tick -/

theorem trackerWork_loaded {p : Profile} {s : State} (encoder : hasEncoder s = true) (loaded : s.loader.profile = some p) :
    trackerWork s = judgeStill p (compareStep p (referenceStep p (counted p s))) := by
  rw [← trackLoaded_eq]
  simp [trackerWork, encoder, loaded]

@[simp] theorem referenceStep_same (p : Profile) (s : State) :
    (referenceStep p s).loader = s.loader ∧ (referenceStep p s).peers = s.peers := by
  simp

/-- What follows step 6 leaves the tracker but for the still-entry reference, or re-references the rope at the DRIVE's entry to
DWELL (R28, R35). -/
theorem tick_tracker {p : Profile} {s k : State} (encoder : hasEncoder s = true) (loaded : s.loader.profile = some p)
    (compared : k = compareStep p (referenceStep p (counted p s))) :
    (∃ r, (sampleWork s).tracker = { k.tracker with stillRef := r })
      ∨ ((sampleWork s).seq.state = .dwell ∧ s.seq.state ≠ .dwell ∧ isDrive s = true ∧ ∃ x r, referencePosition s p = some x
        ∧ (sampleWork s).tracker = { k.tracker with
            counts := sat32 (countsAt (cpm s p) x - invertedDelta k p), quality := .marked, stillRef := r }) := by
  have tracked := sampleWork_tracked loaded
  obtain ⟨q, stood⟩ := judgeStill_tracker p k
  have loader : k.loader = s.loader := by rw [compared]; simp
  have last : (trackerWork s).tracker = { k.tracker with stillRef := q } := by
    rw [trackerWork_loaded encoder loaded, ← compared, stood]
  have loaderW := (trackerWork_frame s).2.2.2.1
  have peersW := (trackerWork_frame s).2.2.2.2.1
  rcases tracked.moved with ⟨r, same⟩ | ⟨dwell, out, drive, p', x, r, loaded', found, same⟩
  · exact .inl ⟨r, by rw [same, last]⟩
  · rw [loaderW, loaded] at loaded'
    obtain rfl : p = p' := by simpa using loaded'
    have entered : s.seq.state ≠ .dwell := by
      rcases (raises_trackerWork s).outcome with ⟨seq, -⟩ | ⟨-, -, -, stands, c, -, -, own⟩
      · rwa [← seq]
      · have tripped := (sampleWork_trips (tripped_of_standsTripped stands) own).1
        rw [dwell] at tripped
        cases tripped
    refine .inr ⟨dwell, entered, (isDrive_congr loaderW).symm.trans drive, x, r, ?_, ?_⟩
    · simpa [referencePosition, carEntry, peersW] using found
    · rw [same, last]
      simp [cpm, invertedDelta, inverted, isDrive, role, side, loader, last]

/-! ## At a CAR -/

section

variable {p : Profile} {s : State}

/-- The markers judged: steps 4 and 5 at a CAR (R37). -/
def marked (p : Profile) (s : State) : State := chooseExpected p (judgeMiss p (counted p s))

theorem referenceStep_of_car (car : isCar s = true) : referenceStep p (counted p s) = marked p s := by
  have : isCar (counted p s) = true := (isCar_congr (by simp)).trans car
  exact if_pos this

theorem encoder_of_car (car : isCar s = true) : hasEncoder s = true := by simp [hasEncoder, car]

/-- The rest of the tick leaves a CAR's markers, or a position conflict withdraws them (R34). -/
theorem marked_at_end (car : isCar s = true) (loaded : s.loader.profile = some p) :
    (sampleWork s).tracker.motion = (marked p s).tracker.motion
      ∧ ((located (marked p s) = true ∧ (sampleWork s).tracker.quality = .none ∧ (sampleWork s).tracker.misses = 0
          ∧ (sampleWork s).tracker.nextExpected = none ∧ (sampleWork s).tracker.lastMatched = none)
        ∨ ((sampleWork s).tracker.quality = (marked p s).tracker.quality
          ∧ (sampleWork s).tracker.misses = (marked p s).tracker.misses
          ∧ (sampleWork s).tracker.nextExpected = (marked p s).tracker.nextExpected
          ∧ (sampleWork s).tracker.lastMatched = (marked p s).tracker.lastMatched)) := by
  have steps := tick_tracker (encoder_of_car car) loaded rfl
  rw [referenceStep_of_car car] at steps
  obtain ⟨r, same⟩ := steps.resolve_right fun h => by simp [isDrive_of_isCar car] at h
  obtain ⟨d, a, b, q, -, compared⟩ := compareStep_tracker p (marked p s)
  have drive : isDrive (marked p s) = false := (isDrive_congr (by simp [marked])).trans (isDrive_of_isCar car)
  rw [same, compared]
  split
  · next found =>
    refine ⟨by simp [drive, Tracker.withdrawn], .inl ⟨?_, ?_⟩⟩
    · cases known : located (marked p s) with
      | true => rfl
      | false => simp [findsConflict, conflicts, findingA, mayCompare, known] at found
    · simp [drive, Tracker.withdrawn]
  · exact ⟨rfl, .inr ⟨rfl, rfl, rfl, rfl⟩⟩

theorem marked_tracker : (marked p s).tracker =
    { (judgeMiss p (counted p s)).tracker with nextExpected := chosenExpected p (judgeMiss p (counted p s)) } := by
  unfold marked
  rw [chooseExpected_eq]

/-! ## The judgement of a miss (R26) -/

theorem markerPassed_counted (m : Marker) (d : Travel) :
    markerPassed (counted p s) p m d = markerPassed (afterTake p s) p m d := by
  obtain ⟨l, r, h, v, k, same⟩ := counted_tracker p s
  cases d <;> simp [markerPassed, positionCm, cpm, isDrive, role, afterTake, same]

theorem judgeMiss_of_within (within : ∀ x ∈ s.tracker.nextExpected, markerPassed (afterTake p s) p x.1 x.2 = false) :
    judgeMiss p (counted p s) = counted p s := by
  obtain ⟨l, r, h, v, k, same⟩ := counted_tracker p s
  have next : (counted p s).tracker.nextExpected = s.tracker.nextExpected := by rw [same]
  unfold judgeMiss
  rw [next]
  split
  · rfl
  · next m d found => exact if_neg (by simp [markerPassed_counted, within (m, d) found])

theorem judgeMiss_of_first {m : Marker} {d : Travel} (expected : s.tracker.nextExpected = some (m, d))
    (passed : markerPassed (afterTake p s) p m d = true) (first : s.tracker.misses = 0) :
    (judgeMiss p (counted p s)).tracker =
      { (counted p s).tracker with
        misses := 1, quality := lowered s.tracker.quality
        nextExpected := (markerAhead (ownMarkers s p) d m.position none).map (·, d) } := by
  obtain ⟨l, r, h, v, k, same⟩ := counted_tracker p s
  have next : (counted p s).tracker.nextExpected = some (m, d) := by rw [same, ← expected]
  have none : (counted p s).tracker.misses = 0 := by rw [same, ← first]
  have low : lowered (counted p s).tracker.quality = lowered s.tracker.quality := by
    rw [same]
    simp only [takenQuality]
    split
    · cases s.tracker.quality <;> rfl
    · rfl
  have own : ownMarkers (counted p s) p = ownMarkers s p := by simp [ownMarkers, side]
  unfold judgeMiss
  rw [next]
  dsimp only
  rw [if_pos (by rw [markerPassed_counted, passed]), if_pos none, low, own]

theorem judgeMiss_of_second {m : Marker} {d : Travel} (expected : s.tracker.nextExpected = some (m, d))
    (passed : markerPassed (afterTake p s) p m d = true) (second : s.tracker.misses ≠ 0) :
    judgeMiss p (counted p s) = withdrawMarkers (raiseCause .markerLost (counted p s)) := by
  obtain ⟨l, r, h, v, k, same⟩ := counted_tracker p s
  have next : (counted p s).tracker.nextExpected = some (m, d) := by rw [same, ← expected]
  have some : (counted p s).tracker.misses ≠ 0 := by rw [same]; exact second
  unfold judgeMiss
  rw [next]
  dsimp only
  rw [if_pos (by rw [markerPassed_counted, passed]), if_neg some]

/-! ## The choice of the next marker (R25) -/

/-- A choice made already for the direction of motion stands, and none is made at rest. -/
theorem chosenExpected_of_held {d : Travel} (towards : (travelOf s.tracker.motion).all (fun e => e == d) = true)
    (held : ∀ x ∈ s.tracker.nextExpected, x.2 = d)
    (barren : s.tracker.nextExpected = none → located s = true →
      markerAhead (ownMarkers s p) d (positionCm s p) s.tracker.lastMatched = none) :
    chosenExpected p s = s.tracker.nextExpected := by
  unfold chosenExpected
  split
  · rfl
  · next e moves =>
    obtain rfl : e = d := by simpa [moves] using towards
    cases expected : s.tracker.nextExpected with
    | none =>
      simp only [Option.all_none, Bool.and_true]
      split
      · next known => rw [barren expected known, Option.map_none]
      · rfl
    | some x =>
      have same : x.2 = e := held x expected
      simp [same]

/-- With no marker held the next is chosen ahead of the position (R25). -/
theorem chosenExpected_of_none (none : s.tracker.nextExpected = none) (known : located s = true) :
    chosenExpected p s =
      (match s.tracker.motion with
        | .stopped => Option.none
        | .up => (markerAhead (ownMarkers s p) .up (positionCm s p) s.tracker.lastMatched).map (·, .up)
        | .down => (markerAhead (ownMarkers s p) .down (positionCm s p) s.tracker.lastMatched).map (·, .down)) := by
  unfold chosenExpected
  rw [none, known]
  cases s.tracker.motion <;> rfl

/-- Beyond a marker that has been passed nothing lies ahead where nothing lies ahead of the marker (R25, R26). -/
theorem markerAhead_of_passed {m : Marker} {d : Travel} {passedOver : Option Marker} (passed : markerPassed s p m d = true)
    (last : markerAhead (ownMarkers s p) d m.position none = none) :
    markerAhead (ownMarkers s p) d (positionCm s p) passedOver = none := by
  cases d with
  | up =>
    simp only [markerAhead, markerPassed, List.find?_eq_none, Bool.and_eq_true, decide_eq_true_eq, not_and] at *
    intro x member ahead
    exact absurd (by simp) (last x member (by omega))
  | down =>
    simp only [markerAhead, markerPassed, List.find?_eq_none, List.mem_reverse, Bool.and_eq_true, decide_eq_true_eq,
      not_and] at *
    intro x member ahead
    exact absurd (by simp) (last x member (by omega))

/-! ## The tick -/

theorem located_counted : located (counted p s) = located s := by
  obtain ⟨l, r, h, v, k, same⟩ := counted_tracker p s
  cases known : located s with
  | true =>
    have kept : s.tracker.quality ≠ .none := by simpa [located] using known
    simpa [located, same, takenQuality_eq_none] using kept
  | false =>
    have lost : s.tracker.quality = .none := by simpa [located] using known
    simp [located, same, (takenQuality_eq_none p s).mpr lost]

theorem positionCm_counted : positionCm (counted p s) p = positionCm (afterTake p s) p := by
  obtain ⟨l, r, h, v, k, same⟩ := counted_tracker p s
  simp [positionCm, cpm, isDrive, role, afterTake, same]

theorem ownMarkers_counted : ownMarkers (counted p s) p = ownMarkers s p := by simp [ownMarkers, side]

/-- No marker passed: the miss count stands (R26), and a marker is chosen where none is held (R25). -/
theorem marked_of_within (within : ∀ x ∈ s.tracker.nextExpected, markerPassed (afterTake p s) p x.1 x.2 = false) :
    (marked p s).tracker.misses = s.tracker.misses ∧ (marked p s).tracker.lastMatched = s.tracker.lastMatched
      ∧ ((marked p s).tracker.quality = .none ↔ s.tracker.quality = .none)
      ∧ (marked p s).tracker.motion = (counted p s).tracker.motion
      ∧ (marked p s).tracker.nextExpected = chosenExpected p (counted p s) := by
  rw [marked_tracker, judgeMiss_of_within within]
  obtain ⟨l, r, h, v, k, same⟩ := counted_tracker p s
  exact ⟨by rw [same], by rw [same], by rw [same]; exact takenQuality_eq_none p s, rfl, rfl⟩

/-- The first miss (R26). -/
theorem marked_of_first {m : Marker} {d : Travel} (expected : s.tracker.nextExpected = some (m, d))
    (passed : markerPassed (afterTake p s) p m d = true) (first : s.tracker.misses = 0) :
    (marked p s).tracker.misses = 1 ∧ (marked p s).tracker.quality = lowered s.tracker.quality
      ∧ ((travelOf (marked p s).tracker.motion).all (fun e => e == d) = true →
          (marked p s).tracker.nextExpected = (markerAhead (ownMarkers s p) d m.position none).map (·, d)) := by
  have judged := judgeMiss_of_first expected passed first
  have own : ownMarkers (judgeMiss p (counted p s)) p = ownMarkers s p := by simp [ownMarkers, side]
  have position : positionCm (judgeMiss p (counted p s)) p = positionCm (counted p s) p := by
    simp [positionCm, cpm, isDrive, role, judged]
  have beyond := (markerPassed_counted (p := p) (s := s) m d).trans passed
  rw [marked_tracker, judged]
  refine ⟨rfl, rfl, fun towards => ?_⟩
  have next : (judgeMiss p (counted p s)).tracker.nextExpected = (markerAhead (ownMarkers s p) d m.position none).map (·, d) := by
    rw [judged]
  show chosenExpected p (judgeMiss p (counted p s)) = _
  rw [← next]
  refine chosenExpected_of_held (d := d) (by rw [judged]; exact towards) (fun x held => ?_) fun barren _ => ?_
  · rw [next] at held
    obtain ⟨y, -, rfl⟩ := Option.map_eq_some_iff.mp held
    rfl
  · rw [next, Option.map_eq_none_iff] at barren
    rw [own, position, ← ownMarkers_counted]
    exact markerAhead_of_passed beyond (by rwa [ownMarkers_counted])

/-- The second miss withdraws quality and markers, and raises MARKER_LOST (R26). -/
theorem marked_of_second {m : Marker} {d : Travel} (expected : s.tracker.nextExpected = some (m, d))
    (passed : markerPassed (afterTake p s) p m d = true) (second : s.tracker.misses ≠ 0) :
    (marked p s).tracker.quality = .none ∧ (marked p s).tracker.misses = 0 ∧ (marked p s).tracker.nextExpected = none
      ∧ (marked p s).tracker.lastMatched = none
      ∧ (inService s = true → (marked p s).seq.state = .tripped ∧ Cause.markerLost ∈ (marked p s).trips.own) := by
  have judged := judgeMiss_of_second expected passed second
  have lost : located (judgeMiss p (counted p s)) = false := by rw [judged]; rfl
  have next : chosenExpected p (judgeMiss p (counted p s)) = none := by
    unfold chosenExpected
    rw [lost, judged]
    split <;> rfl
  rw [marked_tracker, next, judged]
  refine ⟨rfl, rfl, rfl, rfl, fun service => ?_⟩
  obtain ⟨tripped, own⟩ := raised_in_service (c := .markerLost) ((raises_counted p s).inService.trans service)
  unfold marked
  rw [chooseExpected_eq, judged]
  refine ⟨tripped, ?_⟩
  show _ ∈ (raiseCause .markerLost (counted p s)).trips.own
  rw [own]
  exact mem_addCause _ _

/-- Quality lost by the markers' steps is lost with the last match (R26). -/
theorem lastMatched_of_lost (known : s.tracker.quality ≠ .none) (lost : (marked p s).tracker.quality = .none) :
    (marked p s).tracker.lastMatched = none := by
  by_cases within : ∀ x ∈ s.tracker.nextExpected, markerPassed (afterTake p s) p x.1 x.2 = false
  · obtain ⟨-, -, kept, -⟩ := marked_of_within within
    exact absurd (kept.mp lost) known
  · push Not at within
    obtain ⟨⟨m, d⟩, expected, passed⟩ := within
    have passed : markerPassed (afterTake p s) p m d = true := by simpa using passed
    by_cases first : s.tracker.misses = 0
    · obtain ⟨-, low, -⟩ := marked_of_first expected passed first
      rw [low, lowered_eq_none] at lost
      exact absurd lost known
    · exact (marked_of_second expected passed first).2.2.2.1

/-- What the markers' steps trip stays tripped to the end of the tick. -/
theorem trips_at_end {c : Cause} (car : isCar s = true) (loaded : s.loader.profile = some p)
    (tripped : (marked p s).seq.state = .tripped) (own : c ∈ (marked p s).trips.own) :
    (sampleWork s).seq.state = .tripped ∧ c ∈ (sampleWork s).trips.own := by
  have rest := (raises_compareStep p (marked p s)).trans (raises_judgeStill p _)
  have work := trackerWork_loaded (encoder_of_car car) loaded
  rw [referenceStep_of_car car] at work
  rw [← work] at rest
  exact sampleWork_trips (rest.tripped tripped) (rest.own _ own)

end

/-- Settles O17: the judgement of the miss and the choice, then a conflict's withdrawal of what they left. -/
theorem passedMarkerIsMissed : Obligations.PassedMarkerIsMissed := by
  intro p s live car begun due loaded
  obtain ⟨z, taken⟩ := exec_sampleTick live due begun
  have carT : isCar s.ticked = true := car
  obtain ⟨motion, ending⟩ := marked_at_end (s := s.ticked) carT loaded
  obtain ⟨power, -, inputs, loader, peers, port, -⟩ := sampleWork_frame s.ticked
  have loop := loop_of_encoder (encoder_of_car carT)
  refine ⟨_, taken, ?_⟩
  simp only [State.clocked_frame]
  refine ⟨?_, fun free known kept => ?_, fun x expected => ?_, power, inputs, loader, peers, loop, port⟩
  · split
    · next lost =>
      rcases ending with ⟨-, -, -, -, last⟩ | ⟨quality, -, -, last⟩
      · exact last
      · rw [last, lastMatched_of_lost (s := s.ticked) lost.2 (quality.symm.trans lost.1)]
    · rfl
  · obtain ⟨-, misses, next, -⟩ := ending.resolve_left fun h => kept h.2.1
    obtain ⟨misses', -, -, motion', next'⟩ := marked_of_within (p := p) (s := s.ticked) fun x held => by
      simp [free] at held
    obtain ⟨l, r, h, v, k, same⟩ := counted_tracker p s.ticked
    rw [misses, misses', next, next', motion, motion']
    refine ⟨rfl, ?_⟩
    rw [chosenExpected_of_none (by rw [same]; exact free) (located_counted.trans (by simpa [located] using known)),
      ownMarkers_counted, positionCm_counted]
    have last : (counted p s.ticked).tracker.lastMatched = s.tracker.lastMatched := by rw [same]; rfl
    rw [last]
    rfl
  · obtain ⟨m, d⟩ := x
    have passing : markerPassed (afterTake p s.ticked) p m d = markerPassed (afterTake p s) p m d := rfl
    split
    · next within =>
      intro kept
      obtain ⟨-, misses, next, -⟩ := ending.resolve_left fun h => kept h.2.1
      obtain ⟨misses', -, -, motion', next'⟩ := marked_of_within (p := p) (s := s.ticked) fun y held => by
        obtain rfl : y = (m, d) := Option.mem_unique held expected
        exact within
      obtain ⟨l, r, h, v, k, same⟩ := counted_tracker p s.ticked
      have held : (counted p s.ticked).tracker.nextExpected = some (m, d) := by rw [same]; exact expected
      rw [misses, misses', next, next', motion, motion']
      refine ⟨rfl, fun towards => ?_⟩
      rw [chosenExpected_of_held towards (by simp [held]) (by simp [held]), held]
      exact expected.symm
    · next passed =>
      have passed : markerPassed (afterTake p s.ticked) p m d = true := by simpa [passing] using passed
      split
      · next first =>
        intro kept
        obtain ⟨quality, misses, next, -⟩ := ending.resolve_left fun h => kept h.2.1
        obtain ⟨misses', quality', next'⟩ := marked_of_first (s := s.ticked) expected passed first
        rw [misses, misses', next, quality, quality', motion]
        refine ⟨rfl, ?_, next'⟩
        rw [quality, quality', Ne, lowered_eq_none] at kept
        exact lowered_of_known kept
      · next second =>
        obtain ⟨quality', misses', next', last', trips⟩ := marked_of_second (s := s.ticked) expected passed second
        obtain ⟨quality, misses, next, last⟩ := ending.resolve_left fun h => by simp [located, quality'] at h
        refine ⟨quality.trans quality', misses.trans misses', next.trans next', last.trans last', fun service => ?_⟩
        obtain ⟨tripped, own⟩ := trips service
        obtain ⟨tripped, own⟩ := trips_at_end (s := s.ticked) carT loaded tripped own
        exact ⟨tripped, by simpa using own⟩

end Sys2Proof.Machine
end

section
/-! PROOF. The rope and the cars compared at a sample tick (R28, R31 to R34). -/

namespace Sys2Proof.Machine

/-! ## The judgement of DISAGREE (R33) -/

/-- A finding outside its allowance. -/
def outsideNow (f : Option Finding) : Bool := f.any fun f => decide (f.allowance < f.delta.natAbs)

/-- The outside counts that stand while DISAGREE is clear (R33). -/
theorem countComparison_outside (f : Option Finding) (c : Comparison) :
    (countComparison false f c).outside = if outsideNow f = true then c.outside + 1 else 0 := by
  cases f with
  | none => rfl
  | some f => simp [countComparison, outsideNow]

theorem fills_iff (f : Option Finding) (c : Comparison) :
    Config.disagreeSamples ≤ (countComparison false f c).outside
      ↔ ∃ g ∈ f, g.allowance < g.delta.natAbs ∧ 9 ≤ c.outside := by
  rw [countComparison_outside]
  cases f with
  | none => simp [outsideNow, Config.disagreeSamples]
  | some g =>
    by_cases wide : g.allowance < g.delta.natAbs
    · simp only [outsideNow, Option.any_some, wide, decide_true, if_true, Config.disagreeSamples, Option.mem_some_iff]
      exact ⟨fun h => ⟨g, rfl, wide, by omega⟩, fun ⟨_, _, _, h⟩ => by omega⟩
    · simp only [outsideNow, Option.any_some, wide, decide_false, Bool.false_eq_true, if_false, Config.disagreeSamples,
        Option.mem_some_iff]
      refine ⟨fun h => by omega, ?_⟩
      rintro ⟨_, rfl, h, -⟩
      exact absurd h wide

/-- The inside counts that clear DISAGREE (R33). -/
theorem insideOrUnmade_iff (f : Option Finding) (c : Comparison) :
    insideOrUnmade f (countComparison true f c) = true ↔ ∀ g ∈ f, g.delta.natAbs ≤ g.allowance ∧ 9 ≤ c.inside := by
  cases f with
  | none => simp [insideOrUnmade]
  | some g =>
    simp only [insideOrUnmade, Option.isNone_some, Bool.false_or, countComparison, if_true, decide_eq_true_eq,
      Option.mem_some_iff, forall_eq', Config.disagreeSamples]
    split
    · next within => exact ⟨fun h => ⟨within, by omega⟩, fun h => by omega⟩
    · next wide => exact ⟨fun h => by omega, fun h => absurd h.1 wide⟩

/-- DISAGREE clear before the tick (R33). -/
theorem judgeDisagree_of_clear {fa fb : Option Finding} {s : State} (clear : s.tracker.disagree = false) :
    ((judgeDisagree fa fb s).tracker.disagree = true ↔
        (∃ f ∈ fa, f.allowance < f.delta.natAbs ∧ 9 ≤ s.tracker.cmpA.outside)
          ∨ (∃ f ∈ fb, f.allowance < f.delta.natAbs ∧ 9 ≤ s.tracker.cmpB.outside))
      ∧ ((judgeDisagree fa fb s).tracker.disagree = false →
        (judgeDisagree fa fb s).tracker.cmpA.outside = (if outsideNow fa = true then s.tracker.cmpA.outside + 1 else 0)
          ∧ (judgeDisagree fa fb s).tracker.cmpB.outside =
            (if outsideNow fb = true then s.tracker.cmpB.outside + 1 else 0)) := by
  rw [← fills_iff, ← fills_iff, ← countComparison_outside, ← countComparison_outside]
  unfold judgeDisagree
  simp only [clear, Bool.not_false, Bool.true_and, Bool.false_and, Bool.or_false, Bool.or_eq_true, decide_eq_true_eq]
  split
  · next fills => exact ⟨by simp [fills], fun h => absurd fills (by simpa using h)⟩
  · next fills => simp [fills]

/-- DISAGREE standing before the tick (R33). -/
theorem judgeDisagree_of_set {fa fb : Option Finding} {s : State} (stands : s.tracker.disagree = true) :
    (judgeDisagree fa fb s).tracker.disagree = false ↔
      (fa.isSome = true ∨ fb.isSome = true)
        ∧ (∀ f ∈ fa, f.delta.natAbs ≤ f.allowance ∧ 9 ≤ s.tracker.cmpA.inside)
        ∧ (∀ f ∈ fb, f.delta.natAbs ≤ f.allowance ∧ 9 ≤ s.tracker.cmpB.inside) := by
  rw [← insideOrUnmade_iff, ← insideOrUnmade_iff, ← and_assoc]
  unfold judgeDisagree
  simp only [stands, Bool.not_true, Bool.false_and, Bool.false_or, Bool.true_and, Bool.and_eq_true, Bool.or_eq_true]
  split
  · next clears => simp [clears]
  · next holds => simp [holds]

/-! ## What a comparison finds (R32) -/

theorem findingA_of_drive {p : Profile} {s : State} {f : Finding} (drive : isDrive s = true) :
    f ∈ findingA s p ↔ mayCompare s = true ∧ ∃ x ∈ agreedPosition p (carEntry s .a),
      { delta := (reported s p : Int) - (x : Int), allowance := allowance p x } = f := by
  simp only [findingA, drive, if_true, Option.mem_def]
  split
  · next may => simp [may]
  · next may => simp [may]

theorem findingA_of_car {p : Profile} {s : State} {f : Finding} (car : isCar s = true) :
    f ∈ findingA s p ↔ mayCompare s = true ∧ ∃ x ∈ agreedPosition p (driveEntry s),
      { delta := (reported s p : Int) - (if side s == .a then (x : Int) else (p.length : Int) - x)
        allowance := allowance p (reported s p) } = f := by
  simp only [findingA, isDrive_of_isCar car, Bool.false_eq_true, if_false, Option.mem_def]
  split
  · next may => simp [may]
  · next may => simp [may]

/-! ## The tick -/

section

variable {p : Profile} {s : State}

/-- Steps 1 to 5 leave what the comparisons read as the take left it, where no second miss is due (R32). -/
theorem finding_at_reference (known : s.tracker.quality ≠ .none)
    (unmissed : isCar s = true → s.tracker.misses = 0) :
    findingA (referenceStep p (counted p s)) p = findingA (afterTake p s) p
      ∧ findingB (referenceStep p (counted p s)) p = findingB (afterTake p s) p
      ∧ (referenceStep p (counted p s)).tracker.disagree = s.tracker.disagree
      ∧ (referenceStep p (counted p s)).tracker.cmpA = s.tracker.cmpA
      ∧ (referenceStep p (counted p s)).tracker.cmpB = s.tracker.cmpB := by
  obtain ⟨l, r, h, v, m, same⟩ := counted_tracker p s
  have located' : located s = true := by simpa [located] using known
  have serviceR := (raises_referenceStep p (counted p s)).inService.trans (raises_counted p s).inService
  have read : located (referenceStep p (counted p s)) = true
      ∧ (referenceStep p (counted p s)).tracker.counts = (counted p s).tracker.counts
      ∧ (referenceStep p (counted p s)).tracker.disagree = (counted p s).tracker.disagree
      ∧ (referenceStep p (counted p s)).tracker.cmpA = (counted p s).tracker.cmpA
      ∧ (referenceStep p (counted p s)).tracker.cmpB = (counted p s).tracker.cmpB := by
    cases car : isCar s with
    | true =>
      rw [referenceStep_of_car car]
      by_cases within : ∀ x ∈ s.tracker.nextExpected, markerPassed (afterTake p s) p x.1 x.2 = false
      · obtain ⟨-, -, kept, -⟩ := marked_of_within within
        refine ⟨by simpa [located, kept] using known, ?_⟩
        rw [marked_tracker, judgeMiss_of_within within]
        exact ⟨rfl, rfl, rfl, rfl⟩
      · push Not at within
        obtain ⟨⟨n, d⟩, expected, passed⟩ := within
        have passed : markerPassed (afterTake p s) p n d = true := by simpa using passed
        obtain ⟨-, low, -⟩ := marked_of_first expected passed (unmissed car)
        refine ⟨by simpa [located, low, lowered_eq_none] using known, ?_⟩
        rw [marked_tracker, judgeMiss_of_first expected passed (unmissed car)]
        exact ⟨rfl, rfl, rfl, rfl⟩
    | false =>
      have other : ¬isCar (counted p s) = true := by simp [(isCar_congr (s := s) (t := counted p s) (by simp)).trans car]
      have stays : referenceStep p (counted p s) = counted p s := by
        unfold referenceStep
        rw [if_neg other, if_pos (located_counted.trans located')]
      rw [stays]
      exact ⟨located_counted.trans located', rfl, rfl, rfl, rfl⟩
  obtain ⟨place, counts, disagree, cmpA, cmpB⟩ := read
  obtain ⟨first, second⟩ := finding_congr (p := p) (s := afterTake p s) (t := referenceStep p (counted p s)) (by simp [afterTake])
    (by simp [afterTake]) serviceR (place.trans located'.symm) (by rw [counts, same]; rfl)
  exact ⟨first, second, by rw [disagree, same], by rw [cmpA, same], by rw [cmpB, same]⟩

/-- What a tick leaves of the comparisons of a node that has a position (R33, R34). -/
theorem compared_at_end (encoder : hasEncoder s = true) (service : inService s = true) (loaded : s.loader.profile = some p)
    (known : s.tracker.quality ≠ .none) (unmissed : isCar s = true → s.tracker.misses = 0) {fa fb : Option Finding}
    (foundA : fa = findingA (afterTake p s) p) (foundB : fb = findingB (afterTake p s) p) :
    ∃ u : State, u.tracker.disagree = s.tracker.disagree ∧ u.tracker.cmpA = s.tracker.cmpA ∧ u.tracker.cmpB = s.tracker.cmpB
      ∧ (sampleWork s).tracker.disagree = (judgeDisagree fa fb u).tracker.disagree
      ∧ (sampleWork s).tracker.cmpA = { (judgeDisagree fa fb u).tracker.cmpA with conflict := conflicts fa }
      ∧ (sampleWork s).tracker.cmpB = { (judgeDisagree fa fb u).tracker.cmpB with conflict := conflicts fb }
      ∧ ((findsConflict fa s.tracker.cmpA = true ∨ findsConflict fb s.tracker.cmpB = true) →
        (sampleWork s).seq.state = .tripped ∧ Cause.positionConflict ∈ (sampleWork s).trips.own)
      ∧ (findsConflict fa s.tracker.cmpA = true → (sampleWork s).tracker.quality = .none) := by
  obtain ⟨readA, readB, disagree, cmpA, cmpB⟩ := finding_at_reference (p := p) known unmissed
  have steps := tick_tracker encoder loaded rfl
  have serviceR := (raises_referenceStep p (counted p s)).inService.trans ((raises_counted p s).inService.trans service)
  have work := trackerWork_loaded encoder loaded
  have stillness := raises_judgeStill p (compareStep p (referenceStep p (counted p s)))
  rw [← work] at stillness
  generalize referenceStep p (counted p s) = u at *
  obtain ⟨d, a, b, r, judged, compared⟩ := compareStep_tracker p u
  have trips := compareStep_trips (p := p) serviceR
  rw [readA, readB, ← foundA, ← foundB] at judged
  rw [readA, readB, ← foundA, ← foundB, cmpA] at compared
  rw [readA, readB, ← foundA, ← foundB, cmpA, cmpB] at trips
  have ends : (findsConflict fa s.tracker.cmpA = true ∨ findsConflict fb s.tracker.cmpB = true) →
      (sampleWork s).seq.state = .tripped ∧ Cause.positionConflict ∈ (sampleWork s).trips.own := by
    intro conflict
    obtain ⟨tripped, own⟩ := trips conflict
    exact sampleWork_trips (stillness.tripped tripped) (stillness.own _ own)
  refine ⟨u, disagree, cmpA, cmpB, ?_, ?_, ?_, ends, fun conflict => ?_⟩
  · rw [judged]
    rcases steps with ⟨q, same⟩ | ⟨-, -, -, x, q, -, same⟩ <;> rw [same, compared]
  · rw [judged]
    rcases steps with ⟨q, same⟩ | ⟨-, -, -, x, q, -, same⟩ <;> rw [same, compared]
  · rw [judged]
    rcases steps with ⟨q, same⟩ | ⟨-, -, -, x, q, -, same⟩ <;> rw [same, compared]
  · rcases steps with ⟨q, same⟩ | ⟨dwell, -⟩
    · rw [same, compared, if_pos conflict]
      simp
    · rw [(ends (.inl conflict)).1] at dwell
      cases dwell

/-- A DRIVE without a rope position takes car A's (R28). -/
theorem referenced_at_end (drive : isDrive s = true) (loaded : s.loader.profile = some p) (lost : s.tracker.quality = .none)
    {x : Nat} (found : referencePosition s p = some x) :
    (sampleWork s).tracker.counts = sat32 (x * p.cpmSheave / 100 : Nat)
      ∧ ((sampleWork s).tracker.quality = .marked ∨ (sampleWork s).tracker.cmpA.conflict = true) := by
  have steps := tick_tracker (by simp [hasEncoder, drive]) loaded rfl
  obtain ⟨l, r, h, v, m, same⟩ := counted_tracker p s
  have driveC : isDrive (counted p s) = true := (isDrive_congr (by simp)).trans drive
  have car : ¬isCar (counted p s) = true := by
    simp only [isDrive, beq_iff_eq] at driveC
    simp [isCar, driveC]
  have nowhere : ¬located (counted p s) = true := by
    rw [located_counted]
    simp [located, lost]
  have stays : referenceStep p (counted p s) = reReference p (counted p s) := by
    unfold referenceStep
    rw [if_neg car, if_neg nowhere]
  have foundC : referencePosition (counted p s) p = some x := by
    rw [← found]
    simp [referencePosition, carEntry]
  obtain ⟨absent, -⟩ | ⟨y, q, foundY, taken⟩ := reReference_cases p (counted p s)
  · rw [foundC] at absent
    cases absent
  obtain rfl : x = y := by simpa [foundC] using foundY
  rw [stays] at steps
  have driveR : isDrive (reReference p (counted p s)) = true := (isDrive_congr (by simp)).trans driveC
  obtain ⟨d, a, b, q', -, compared⟩ := compareStep_tracker p (reReference p (counted p s))
  have scale : ∀ u : State, isDrive u = true → cpm u p = p.cpmSheave := fun u h => by simp [cpm, h]
  have empty : ∀ u : State, u.tracker.delta = 0 → invertedDelta u p = 0 := fun u h => by simp [invertedDelta, invertBy, h]
  rw [scale _ driveC, empty _ (by rw [same]), Int.sub_zero] at taken
  have delta : (compareStep p (reReference p (counted p s))).tracker.delta = 0 := by
    rw [compared, driveR]
    split <;> simp [Tracker.withdrawn, taken, same]
  rcases steps with ⟨r', ends⟩ | ⟨-, -, -, y, r', foundY, ends⟩
  · rw [ends, compared, driveR]
    split
    · next conflict =>
      refine ⟨by simp [Tracker.withdrawn, taken, countsAt], .inr ?_⟩
      simp only [findsConflict, Bool.and_eq_true] at conflict
      exact conflict.1
    · exact ⟨by simp [taken, countsAt], .inl (by simp [taken])⟩
  · obtain rfl : x = y := by simpa [found] using foundY
    rw [ends, scale _ drive, empty _ delta, Int.sub_zero]
    exact ⟨rfl, .inl rfl⟩

end

/-- Settles O18: DISAGREE is judged from what the take left, and a conflict trips the node and withdraws the position. -/
theorem ropeAndCarsAreCompared : Obligations.RopeAndCarsAreCompared := by
  intro p fa fb s live encoder service due loaded unmissed foundA foundB
  obtain ⟨z, taken⟩ := exec_sampleTick live due (by rintro h; simp [inService, inState, h] at service)
  refine ⟨fun f member => ⟨fun x agreed drive => ?_, fun x agreed car => ?_⟩, fun car => ?_, _, taken, ?_⟩
  · rw [foundA, findingA_of_drive (s := afterTake p s) drive] at member
    obtain ⟨-, y, found, rfl⟩ := member
    obtain rfl : x = y := Option.mem_unique agreed found
    exact ⟨rfl, rfl⟩
  · rw [foundA, findingA_of_car (s := afterTake p s) car] at member
    obtain ⟨-, y, found, rfl⟩ := member
    obtain rfl : x = y := Option.mem_unique agreed found
    exact ⟨congrArg ((reported (afterTake p s) p : Int) - ·) (if_congr beq_iff_eq rfl rfl), rfl⟩
  · have drive : isDrive (afterTake p s) = false := isDrive_of_isCar car
    rw [foundB]
    simp [findingB, drive]
  · obtain ⟨power, -, inputs, loader, peers, port, -⟩ := sampleWork_frame s.ticked
    have loop := loop_of_encoder (s := s.ticked) encoder
    simp only [State.clocked_frame]
    refine ⟨fun drive lost x found => referenced_at_end (s := s.ticked) drive loaded lost found, ?_, ?_, ?_, power, inputs,
      loader, peers, loop, port⟩
    · intro known clear
      obtain ⟨u, disagree, cmpA, cmpB, ends, endsA, endsB, -⟩ :=
        compared_at_end (s := s.ticked) encoder service loaded known unmissed foundA foundB
      rw [ends, endsA, endsB]
      have judged := judgeDisagree_of_clear (fa := fa) (fb := fb) (disagree.trans clear)
      rw [cmpA, cmpB] at judged
      exact judged
    · intro known stood
      obtain ⟨u, disagree, cmpA, cmpB, ends, -⟩ :=
        compared_at_end (s := s.ticked) encoder service loaded known unmissed foundA foundB
      rw [ends]
      have judged := judgeDisagree_of_set (fa := fa) (fb := fb) (disagree.trans stood)
      rw [cmpA, cmpB] at judged
      exact judged
    · intro known
      obtain ⟨u, -, -, -, -, endsA, endsB, trips, withdraws⟩ :=
        compared_at_end (s := s.ticked) encoder service loaded known unmissed foundA foundB
      have conflictA : (sampleWork s.ticked).tracker.cmpA.conflict = conflicts fa := by rw [endsA]
      have conflictB : (sampleWork s.ticked).tracker.cmpB.conflict = conflicts fb := by rw [endsB]
      rw [conflictA, conflictB]
      refine ⟨rfl, rfl, fun fresh => ?_, fun now before => withdraws (by simp [findsConflict, now, before])⟩
      obtain ⟨tripped, own⟩ := trips (fresh.imp (fun h => by simp [findsConflict, h]) (fun h => by simp [findsConflict, h]))
      exact ⟨tripped, by simpa using own⟩

end Sys2Proof.Machine
end

section
/-! PROOF. The ways of a node in service through a sample tick (R40, R89, R115, R165). -/

namespace Sys2Proof.Machine

/-! ## The Envelope Calculator's work before the arrival (R40, R61, R155) -/

/-- The envelope before an arrival is judged: steps 1 to 5 (R40, R61). -/
def aimed (p : Profile) (v : State) : State := if isTerminal v then envelopeTerminal p v else envelopeLoop p v

theorem aimed_eq (p : Profile) (v : State) : aimed p v = { v with envelope := (aimed p v).envelope } := by
  unfold aimed
  split
  · rfl
  · obtain ⟨w, same⟩ := envelopeLoop_envelope p v
    rw [same]

@[simp] theorem aimed_frame (p : Profile) (v : State) :
    (aimed p v).power = v.power ∧ (aimed p v).time = v.time ∧ (aimed p v).inputs = v.inputs
      ∧ (aimed p v).loader = v.loader ∧ (aimed p v).access = v.access ∧ (aimed p v).peers = v.peers
      ∧ (aimed p v).tracker = v.tracker ∧ (aimed p v).ceiling = v.ceiling ∧ (aimed p v).generator = v.generator
      ∧ (aimed p v).seq = v.seq ∧ (aimed p v).loop = v.loop ∧ (aimed p v).brakes = v.brakes
      ∧ (aimed p v).trips = v.trips ∧ (aimed p v).cls = v.cls ∧ (aimed p v).port = v.port
      ∧ (aimed p v).pending = v.pending := by
  rw [aimed_eq]
  exact ⟨rfl, rfl, rfl, rfl, rfl, rfl, rfl, rfl, rfl, rfl, rfl, rfl, rfl, rfl, rfl, rfl⟩

theorem envelopeWork_eq {p : Profile} {v : State} (loaded : v.loader.profile = some p) (service : inService v = true) :
    envelopeWork v = if hasEncoder v = true then arrivalStep p (aimed p v) else aimed p v := by
  unfold envelopeWork
  rw [loaded]
  simp only [service, if_true]
  unfold aimed
  cases strapped : role v <;> simp [hasEncoder, isDrive, isCar, isTerminal, strapped, envelopeEncoder, envelopeLoop]

theorem aimed_bEff (p : Profile) (v : State) : ∃ u, (aimed p v).envelope.bEff = some (effective u p) := by
  unfold aimed
  split
  · exact ⟨_, rfl⟩
  · exact ⟨_, rfl⟩

theorem aimed_vperm_of_rest {p : Profile} {v : State} (armed : v.seq.state ≠ .armed) (running : v.seq.state ≠ .running) :
    (aimed p v).envelope.vperm = 0 := by
  have out : ∀ w, ({ v with envelope := w } : State).seq = v.seq := fun _ => rfl
  unfold aimed
  split
  · simp [envelopeTerminal, decelerationStep, inState, armed, running]
  · obtain ⟨x, distances⟩ := distanceStep_envelope p (stopMarkStep p v)
    obtain ⟨y, marks⟩ := stopMarkStep_envelope p v
    unfold envelopeLoop
    rw [distances, marks]
    simp [vpermStep, decelerationStep, inState, armed, running]

/-! ## A node that has tripped -/

theorem Clad.standsTripped {s t : State} (k : Clad s t) (stands : Machine.standsTripped s = true) :
    Machine.standsTripped t = true := by
  obtain ⟨-, -, -, -, -, tracker, envelope, ceiling, generator, seq, brakes, cls, -⟩ := k.kept
  simp only [Machine.standsTripped, inState, tracker, envelope, ceiling, generator, seq, brakes, cls,
    Bool.and_eq_true] at stands ⊢
  exact ⟨stands.1, k.asked stands.2⟩

/-- A node that stands TRIPPED with an own cause before the ceiling unit's work ends the tick so (R106, R169). -/
theorem clad_of_standsTripped {b : State} (stands : standsTripped b = true) (own : b.trips.own ≠ []) :
    Clad b (judgeClear (sequencerWork (loopWork (ceilingWork b)))) := by
  have tripped := tripped_of_standsTripped stands
  obtain ⟨-, -, line, -⟩ := standsTripped_shows stands
  have unmoved : ceilingWork b = b := by
    rcases ceilingWork_of_still (s := b) (by simp [moving, inState, tripped]) with same | same
    · exact same
    · rw [same]
      exact formCeiling_of_zero (by simp [tripped]) line
  rw [unmoved]
  exact clad_after_exit (by simp [tripped]) (.inr own)

theorem raiseCause_envelope (c : Cause) (s : State) :
    ∃ v a g, (raiseCause c s).envelope = { s.envelope with vperm := v, atMark := a, gateOpen := g } := by
  by_cases service : inService s = true
  · by_cases tripped : s.seq.state = .tripped
    · rw [raiseCause_of_tripped tripped]
      exact ⟨_, _, _, rfl⟩
    · rw [raiseCause_of_trips service tripped, enterState_envelope]
      exact ⟨_, _, _, rfl⟩
  · rw [raiseCause_of_not_inService (by simpa using service)]
    exact ⟨_, _, _, rfl⟩

/-! ## The ways through a tick -/

/-- The node after the Envelope Calculator's work, where that work has not tripped it (R56). -/
def arrived (p : Profile) (v : State) : State :=
  if (hasEncoder v && moving v) = true then withMark (arrives p (aimed p v)) (aimed p v) else aimed p v

/-- What a sample tick makes of a node in service: the tracker's work or the arrival's judgement has tripped it, or it goes
through the judgements of the later blocks from the state `arrived`. -/
inductive TickPath (p : Profile) (s t : State) : Prop
  | tripped (c : Cause) (listed : c ∈ Cause.overrun :: trackerCauses) (encoder : hasEncoder s = true)
      (out : s.seq.state ≠ .tripped) (stands : standsTripped t = true) (run : t.seq.run = s.seq.run)
      (primary : t.trips.primary = some c) (own : c ∈ t.trips.own)
      (deceleration : ∃ u, t.envelope.bEff = some (effective u p))
  | judged (l x : State) (seq : (trackerWork s).seq = s.seq) (ceiling : (trackerWork s).ceiling = s.ceiling)
      (within : hasEncoder s = true → moving s = true → overruns p (aimed p (trackerWork s)) = false)
      (clad : Clad (supervised p (arrived p (trackerWork s))) l) (outcome : TickOutcome p l x) (ended : TickEnd x t)

theorem trackerWork_of_no_encoder {s : State} (none : hasEncoder s = false) : trackerWork s = s := by
  simp [trackerWork, none]

theorem tick_path {p : Profile} {s : State} (loaded : s.loader.profile = some p) (service : inService s = true) :
    TickPath p s (sampleWork s) := by
  have unfolded : sampleWork s = judgeClear (sequencerWork (loopWork (ceilingWork (envelopeWork (trackerWork s))))) := rfl
  have known := raises_trackerWork s
  have loader := (trackerWork_frame s).2.2.2.1
  have encoderV : hasEncoder (trackerWork s) = hasEncoder s := hasEncoder_congr loader
  have work := envelopeWork_eq (loader ▸ loaded : (trackerWork s).loader.profile = some p) (known.inService.trans service)
  have left : ∀ b c, envelopeWork (trackerWork s) = b → standsTripped b = true → c ∈ b.trips.own →
      Clad b (sampleWork s) ∧ standsTripped (sampleWork s) = true := by
    intro b c work stands own
    rw [unfolded, work]
    have clad := clad_of_standsTripped stands fun none => by simp [none] at own
    exact ⟨clad, clad.standsTripped stands⟩
  obtain ⟨u, slow⟩ := aimed_bEff p (trackerWork s)
  rcases known.outcome with ⟨seq, -, -, ceiling, -, -⟩ | ⟨out, -, run, stands, c, listed, primary, own⟩
  · have movingV : moving (trackerWork s) = moving s := by simp [moving, inState, seq]
    by_cases past : hasEncoder s = true ∧ moving s = true ∧ overruns p (aimed p (trackerWork s)) = true
    · obtain ⟨encoder, moves, past⟩ := past
      have out : s.seq.state ≠ .tripped := by rintro h; simp [moving, inState, h] at moves
      have movesA : moving (aimed p (trackerWork s)) = true := by simpa [moving, inState, seq] using moves
      have raised : envelopeWork (trackerWork s) =
          raiseCause .overrun (withMark (arrives p (aimed p (trackerWork s))) (aimed p (trackerWork s))) := by
        rw [work, if_pos (encoderV.trans encoder), arrivalStep_eq, if_pos movesA, if_pos past]
      generalize marks : withMark (arrives p (aimed p (trackerWork s))) (aimed p (trackerWork s)) = m at raised
      have seqM : m.seq = s.seq := by rw [← marks, ← seq]; simp [withMark]
      have serviceM : inService m = true := by simpa [inService, inState, seqM] using service
      have outM : m.seq.state ≠ .tripped := by rwa [seqM]
      have trips := raiseCause_of_trips (c := .overrun) serviceM outM
      have stands : standsTripped (raiseCause .overrun m) = true := by rw [trips]; exact standsTripped_enterState _
      have own : Cause.overrun ∈ (raiseCause .overrun m).trips.own := by
        rw [trips]
        simpa [causeRecorded] using mem_addCause .overrun m.trips.own
      have slowM : m.envelope.bEff = (aimed p (trackerWork s)).envelope.bEff := by rw [← marks]; rfl
      obtain ⟨v, a, g, shape⟩ := raiseCause_envelope .overrun m
      obtain ⟨clad, ends⟩ := left _ _ raised stands own
      obtain ⟨-, -, -, -, -, -, envelope, -, -, seqT, -, -, -, -, ownT, primaryT, -⟩ := clad.kept
      refine .tripped .overrun (by simp) encoder out ends ?_ ?_ (by rwa [ownT]) ⟨u, ?_⟩
      · rw [seqT, trips, enterState_run, (causeRecorded_fields .overrun false m).2.2.2.1, seqM]
      · rw [primaryT, trips]
        simp [causeRecorded]
      · rw [envelope, shape, ← slow, ← slowM]
    · have reached : envelopeWork (trackerWork s) = arrived p (trackerWork s) := by
        rw [work]
        unfold arrived
        cases encoder : hasEncoder s with
        | false => simp [encoderV, encoder]
        | true =>
          cases moves : moving s with
          | false =>
            have movesA : ¬moving (aimed p (trackerWork s)) = true := by
              simpa [moving, inState, seq] using moves
            rw [if_pos (encoderV.trans encoder), arrivalStep_eq, if_neg movesA]
            simp [movingV, moves]
          | true =>
            have movesA : moving (aimed p (trackerWork s)) = true := by simpa [moving, inState, seq] using moves
            have short : ¬overruns p (aimed p (trackerWork s)) = true := fun h => past ⟨encoder, moves, h⟩
            rw [if_pos (encoderV.trans encoder), arrivalStep_eq, if_pos movesA, if_neg short]
            simp [encoderV, encoder, movingV, moves]
      have frame : (arrived p (trackerWork s)).loader = s.loader ∧ (arrived p (trackerWork s)).seq = s.seq := by
        unfold arrived
        split <;> simp [withMark, seq]
      obtain ⟨l, x, clad, outcome, ended⟩ := tick_end (p := p) (b := arrived p (trackerWork s)) (by rw [frame.1, loaded])
        (by simpa [inService, inState, frame.2] using service)
      rw [← reached, ← unfolded] at ended
      exact .judged l x seq ceiling
        (fun encoder moves => by simpa using fun h => past ⟨encoder, moves, h⟩) clad outcome ended
  · have encoder : hasEncoder s = true := by
      by_contra none
      rw [trackerWork_of_no_encoder (by simpa using none)] at stands
      exact out (tripped_of_standsTripped stands)
    have tripped := tripped_of_standsTripped stands
    have aims : envelopeWork (trackerWork s) = aimed p (trackerWork s) := by
      rw [work, if_pos (encoderV.trans encoder), arrivalStep_eq, if_neg]
      simp [moving, inState, tripped]
    have zero := aimed_vperm_of_rest (p := p) (v := trackerWork s) (by simp [tripped]) (by simp [tripped])
    have standsA : standsTripped (aimed p (trackerWork s)) = true := by
      obtain ⟨-, -, -, vperm⟩ := standsTripped_shows stands
      simp only [standsTripped, Bool.and_eq_true, beq_iff_eq] at stands ⊢
      simpa [inState, zero, vperm, beaconAsked] using stands
    have ownA : c ∈ (aimed p (trackerWork s)).trips.own := by simpa using own
    obtain ⟨clad, ends⟩ := left _ _ aims standsA ownA
    obtain ⟨-, -, -, -, -, -, envelope, -, -, seqT, -, -, -, -, ownT, primaryT, -⟩ := clad.kept
    refine .tripped c (by simp [listed]) encoder out ends ?_ ?_ (by rwa [ownT]) ⟨u, by rw [envelope, slow]⟩
    · rw [seqT]
      simpa using run
    · rw [primaryT]
      simpa using primary

end Sys2Proof.Machine
end

section
/-! PROOF. How a sample tick ends a run (R57, R110, R114, R137 to R142). -/

namespace Sys2Proof.Machine

/-! ## What is left of the run -/

/-- How the node stands after a sample tick that found it in RUNNING or STOPPING. -/
inductive RunEnd (p : Profile) (s t : State) : Prop
  | tripped (stands : standsTripped t = true)
  | rests (rests : resting t = true)
      (left : stands t = true ∧ allApplied t.brakes = true ∧ t.ceiling.comms = none ∧ t.ceiling.line = 0
        ∧ t.envelope.vperm = 0 ∧ t.seq.run = s.seq.run ∧ t.seq.dir = .none)
      (door : doorJudged (s.seq.state == .stopping && stoppedWide p t) p t = true)
      (shut : doorOpens s = false ∨ (s.seq.state = .running ∧ s.ceiling.comms.isSome = true))
      (dwells : s.seq.state = .stopping → t.seq.state = .dwell)
  | arrives (running : s.seq.state = .running) (stops : t.seq.state = .stopping) (shut : doorOpens s = false)
      (left : t.ceiling.line = 0 ∧ t.envelope.atMark = true ∧ t.seq.run = s.seq.run ∧ t.seq.dir = s.seq.dir)
  | stops (stopping : s.seq.state = .stopping) (shut : doorOpens s = false) (seq : t.seq = s.seq)
      (drive : isDrive s = true → (standstill t && t.brakes.sb.state == .applied) = false)
      (car : isCar s = true → standstill t = true → (driveEntry s).any heard = true
        ∧ heardShows (driveEntry s) (fun r => r.state == .dwell && r.run == s.seq.run) = false)
  | goesOn (running : s.seq.state = .running) (shut : doorOpens s = false) (seq : t.seq = s.seq)
      (unmarked : t.envelope.atMark = false) (together : (stands t && strandingPeer t) = false)
      (within : stands t = true → ∀ r ∈ t.ceiling.comms, rampValue t.time.now r ≠ 0)

section

variable {p : Profile} {l t : State}

/-- A cause raised in the run (R165). -/
theorem standsTripped_of_raised {c : Cause} (moves : moving l = true) (ended : TickEnd (raiseCause c l) t) :
    standsTripped t = true := by
  have service := inService_of_moving moves
  have out : l.seq.state ≠ .tripped := by rintro h; simp [moving, inState, h] at moves
  obtain ⟨-, own⟩ := raised_in_service (c := c) service
  cases ended with
  | clad kept =>
    refine kept.standsTripped ?_
    rw [raiseCause_of_trips service out]
    exact standsTripped_enterState _
  | left _ empty _ => exact absurd (own.symm.trans empty) (addCause_ne_nil _ _)

/-- DWELL or HOLD entered by a node that stands (R106, R110, R122, R123). -/
theorem rests_of_entered {n : NodeState} (rests : n = .dwell ∨ n = .hold) (still : stands l = true)
    (clad : Clad (enterState n l) t) :
    resting t = true ∧ t.seq.state = n ∧ stands t = true ∧ allApplied t.brakes = true ∧ t.ceiling.comms = none
      ∧ t.ceiling.line = 0 ∧ t.envelope.vperm = 0 ∧ t.seq.run = l.seq.run ∧ t.seq.dir = .none := by
  obtain ⟨-, -, -, loader, peers, tracker, envelope, ceiling, -, seq, brakes, -⟩ := clad.kept
  have out : n ≠ .armed ∧ n ≠ .running ∧ n ≠ .stopping := by rcases rests with rfl | rfl <;> simp
  have state : t.seq.state = n := by rw [seq]; simp
  refine ⟨by rcases rests with rfl | rfl <;> simp [resting, inState, state], state, ?_, ?_, ?_, ?_, ?_, ?_, ?_⟩
  · rw [stands_congr (s := l) (by simp [loader]) (by simp [peers]) (by simp [tracker]), still]
  · rw [brakes]
    exact allApplied_enterState _ out
  · rw [ceiling, enterState_comms]
    rcases rests with rfl | rfl <;> rfl
  · rw [ceiling, enterState_line_of_not_running _ out.2.1]
  · rw [envelope, enterState_vperm, if_neg out.2.1]
  · rw [seq, enterState_run]
  · rw [seq]
    exact (enterState_run_fields rests _).1

theorem doorJudged_of_entered {n : NodeState} {m : Bool} (loaded : l.loader.profile = some p)
    (judged : isCar l = true → n = .dwell → misalignedAt l.seq.state p l = m) (clad : Clad (enterState n l) t) :
    doorJudged m p t = true := by
  obtain ⟨-, -, -, loader, peers, tracker, -, -, -, seq, -⟩ := clad.kept
  rw [doorJudged_congr loader peers seq fun _ => by rw [tracker]]
  exact doorJudged_enterState n loaded judged

/-- The distances that the door's judgement reads stand at an entry (R43, R141). -/
theorem stoppedWide_of_entered {n : NodeState} (clad : Clad (enterState n l) t) : stoppedWide p t = stoppedWide p l := by
  obtain ⟨-, -, -, loader, -, -, envelope, -⟩ := clad.kept
  simp [stoppedWide, ownDistance, side, loader, envelope, enterState_envelope, enterEnvelope]

theorem stands_of_drive (drive : isDrive l = true) (still : standstill l = true) : stands l = true := by
  simp [stands, hasEncoder, drive, still]

theorem stands_of_car (car : isCar l = true) (still : standstill l = true) : stands l = true := by
  simp [stands, hasEncoder, car, still]

end

/-! ## The ways out -/

section

variable {p : Profile} {s l x t : State}

/-- What the later blocks' judgements of a node in a run start from. -/
structure InRun (p : Profile) (s l : State) : Prop where
  loader : l.loader = s.loader
  peers : l.peers = s.peers
  inputs : l.inputs = s.inputs
  seq : l.seq = s.seq
  comms : l.ceiling.comms = s.ceiling.comms
  loaded : l.loader.profile = some p

theorem InRun.doorOpens (r : InRun p s l) : doorOpens l = doorOpens s := by
  simp [Machine.doorOpens, isCar, role, moving, inState, doorShut, r.loader, r.inputs, r.seq]

theorem InRun.stoppingWide {n : NodeState} (r : InRun p s l) (clad : Clad (enterState n l) t)
    (moves : moving s = true) :
    doorJudged (s.seq.state == .stopping && stoppedWide p t) p t = true := by
  refine doorJudged_of_entered r.loaded (fun _ dwell => ?_) clad
  rw [stoppedWide_of_entered clad, r.seq]
  rcases (moving_iff s).mp moves with running | stopping
  · rw [running]
    rfl
  · rw [stopping, misalignedAt_stopping]
    rfl

/-- RUNNING left for DWELL or HOLD by a node that stands (R110, R140). -/
theorem InRun.exits (r : InRun p s l) (running : s.seq.state = .running) (still : stands l = true)
    (ended : TickEnd (enterState (standingTest l) l) t)
    (shut : Machine.doorOpens s = false ∨ (s.seq.state = .running ∧ s.ceiling.comms.isSome = true)) : RunEnd p s t := by
  have home := standingTest_rests l
  have clad := ended.clad_of_not_tripped (by rcases home with h | h <;> simp [h])
  obtain ⟨rests, -, stands, applied, comms, line, vperm, run, dir⟩ := rests_of_entered home still clad
  refine .rests rests ⟨stands, applied, comms, line, vperm, by rw [run, r.seq], dir⟩ ?_ shut fun stopping => ?_
  · exact r.stoppingWide clad ((moving_iff s).mpr (.inl running))
  · rw [running] at stopping
    cases stopping

/-- STOPPING left for DWELL (R138, R139). -/
theorem InRun.dwells (r : InRun p s l) (stopping : s.seq.state = .stopping) (still : stands l = true)
    (ended : TickEnd (enterState .dwell l) t) (shut : Machine.doorOpens s = false) : RunEnd p s t := by
  have clad := ended.clad_of_not_tripped (by simp)
  obtain ⟨rests, state, stands, applied, comms, line, vperm, run, dir⟩ := rests_of_entered (.inl rfl) still clad
  refine .rests rests ⟨stands, applied, comms, line, vperm, by rw [run, r.seq], dir⟩ ?_ (.inl shut) fun _ => state
  exact r.stoppingWide clad ((moving_iff s).mpr (.inr stopping))

/-- A node that stays where it is. -/
theorem InRun.stands_end (r : InRun p s l) (clad : Clad l t) :
    t.seq = s.seq ∧ stands t = stands l ∧ standstill t = standstill l ∧ isDrive t = isDrive l ∧ isCar t = isCar l := by
  obtain ⟨-, -, -, loader, peers, tracker, -, -, -, seq, -⟩ := clad.kept
  exact ⟨by rw [seq, r.seq], stands_congr loader peers (by rw [tracker]), by simp [standstill, tracker], isDrive_congr loader,
    isCar_congr loader⟩

/-- AT_MARK in RUNNING (R137, R138). -/
theorem InRun.arrives (r : InRun p s l) (running : s.seq.state = .running) (marks : l.envelope.atMark = true)
    (shut : Machine.doorOpens s = false) (ended : TickEnd (enterStopping l) t) : RunEnd p s t := by
  obtain ⟨dir, run⟩ := stopping_seq l
  rw [enterStopping_eq] at ended
  split at ended
  · next rests =>
    obtain ⟨drive, still, -⟩ := rests
    have clad := ended.clad_of_not_tripped (by simp)
    have driveS : isDrive (enterState .stopping l) = true := (isDrive_congr (by simp)).trans drive
    have stillS : standstill (enterState .stopping l) = true := by simpa [standstill] using still
    obtain ⟨rests, -, stands, applied, comms, line, vperm, run', dir'⟩ :=
      rests_of_entered (.inl rfl) (stands_of_drive driveS stillS) clad
    refine .rests rests ⟨stands, applied, comms, line, vperm, by rw [run', run, r.seq], dir'⟩ ?_ (.inl shut) fun stopping => ?_
    · refine doorJudged_of_entered (by simp [r.loaded]) (fun car => ?_) clad
      rw [isDrive_of_isCar car] at driveS
      cases driveS
    · rw [running] at stopping
      cases stopping
  · have clad := ended.clad_of_not_tripped (by simp)
    obtain ⟨-, -, -, -, -, -, envelope, ceiling, -, seq, -⟩ := clad.kept
    refine .arrives running (by rw [seq]; simp) shut ⟨?_, ?_, by rw [seq, run, r.seq], by rw [seq, dir, r.seq]⟩
    · rw [ceiling, enterState_line_of_not_running _ (by simp)]
    · simp [envelope, enterState_envelope, enterEnvelope, marks]

/-- STOPPING at a sample tick (R138, R139). -/
theorem InRun.stopping (r : InRun p s l) (stops : s.seq.state = .stopping) (shut : Machine.doorOpens s = false)
    (ended : TickEnd (carDwell (driveDwell l)) t) : RunEnd p s t := by
  have stopsL : inState l .stopping = true := by simp [inState, r.seq, stops]
  have driveOf : isDrive l = isDrive s := isDrive_congr r.loader
  have carOf : isCar l = isCar s := isCar_congr r.loader
  by_cases rests : (isDrive l && inState l .stopping && standstill l && l.brakes.sb.state == .applied) = true
  · have led : driveDwell l = enterState .dwell l := if_pos rests
    have same : carDwell (enterState .dwell l) = enterState .dwell l := by simp [carDwell, inState]
    rw [led, same] at ended
    simp only [Bool.and_eq_true] at rests
    exact r.dwells stops (stands_of_drive rests.1.1.1 rests.1.2) ended shut
  · have stays : driveDwell l = l := if_neg rests
    rw [stays] at ended
    by_cases follows : (isCar l && inState l .stopping && standstill l
        && (!(driveEntry l).any heard || heardShows (driveEntry l) (driveShowsDwell l))) = true
    · have led : carDwell l = enterState .dwell l := if_pos follows
      rw [led] at ended
      simp only [Bool.and_eq_true] at follows
      exact r.dwells stops (stands_of_car follows.1.1.1 follows.1.2) ended shut
    · have stays : carDwell l = l := if_neg follows
      rw [stays] at ended
      have clad := ended.clad_of_not_tripped (by simp [r.seq, stops])
      obtain ⟨seq, -, still, -, -⟩ := r.stands_end clad
      obtain ⟨-, -, -, -, -, -, -, -, -, -, brakes, -⟩ := clad.kept
      refine .stops stops shut seq (fun drive => ?_) fun car standing => ?_
      · rw [still, brakes]
        simpa [driveOf, drive, stopsL] using rests
      · have shows : driveShowsDwell l = fun b => b.state == .dwell && b.run == s.seq.run := by
          funext b
          simp [driveShowsDwell, r.seq]
        have entry : driveEntry l = driveEntry s := by simp [driveEntry, r.peers]
        rw [still] at standing
        simpa [carOf, car, stopsL, standing, shows, entry] using follows

/-- Every way through the tick of a node in RUNNING or STOPPING ends so. -/
theorem run_end (loaded : s.loader.profile = some p) (moves : moving s = true) : RunEnd p s (sampleWork s) := by
  cases tick_path loaded (inService_of_moving moves) with
  | tripped _ _ _ _ stands => exact .tripped stands
  | judged l x seq ceiling within clad outcome ended =>
    have frame := trackerWork_frame s
    have known : InRun p s l := by
      obtain ⟨-, -, inputs, loader, peers, -, -, seqL, -, -, -, -, comms⟩ := clad_supervised clad
      have kept : (arrived p (trackerWork s)).inputs = s.inputs ∧ (arrived p (trackerWork s)).loader = s.loader
          ∧ (arrived p (trackerWork s)).peers = s.peers ∧ (arrived p (trackerWork s)).seq = s.seq
          ∧ (arrived p (trackerWork s)).ceiling = s.ceiling := by
        unfold arrived
        split <;> simp [withMark, seq, ceiling]
      exact ⟨by rw [loader, kept.2.1], by rw [peers, kept.2.2.1], by rw [inputs, kept.1], by rw [seqL, kept.2.2.2.1],
        by rw [comms, kept.2.2.2.2], by rw [loader, kept.2.1, loaded]⟩
    have movesL : moving l = true := by simpa [moving, inState, known.seq] using moves
    have shutOf : ∀ {b}, doorOpens l = b → doorOpens s = b := fun h => known.doorOpens.symm.trans h
    cases outcome with
    | overspeed _ _ eq => exact .tripped (standsTripped_of_raised movesL (eq ▸ ended))
    | opened _ _ eq => exact .tripped (standsTripped_of_raised movesL (eq ▸ ended))
    | completed ends eq =>
      simp only [commsComplete, Bool.and_eq_true, inState, beq_iff_eq] at ends
      obtain ⟨⟨running, still⟩, spent⟩ := ends
      have running : s.seq.state = .running := by rw [← known.seq, running]
      refine known.exits running still (eq ▸ ended) (.inr ⟨running, ?_⟩)
      rw [← known.comms]
      cases held : l.ceiling.comms with
      | none => simp [held] at spent
      | some r => rfl
    | arrived shut running marks eq =>
      exact known.arrives (by rw [← known.seq, running]) marks (shutOf shut) (eq ▸ ended)
    | stranded shut running still eq =>
      exact known.exits (by rw [← known.seq, running]) still (eq ▸ ended) (.inl (shutOf shut))
    | goesOn shut running goes unmarked together eq =>
      rw [eq] at ended
      have clad := ended.clad_of_not_tripped (by simp [running])
      obtain ⟨seq, stood, -⟩ := known.stands_end clad
      obtain ⟨-, time, -, loader, peers, tracker, envelope, ceiling, -⟩ := clad.kept
      refine .goesOn (by rw [← known.seq, running]) (shutOf shut) seq (by rw [envelope, unmarked]) ?_ fun still r held => ?_
      · rw [stood]
        simpa [strandingPeer, peers] using together
      · rw [stood] at still
        rw [ceiling] at held
        rw [time]
        intro spent
        simp [commsComplete, inState, running, still, Option.mem_def.mp held, spent] at goes
    | stopping shut stops eq => exact known.stopping (by rw [← known.seq, stops]) (shutOf shut) (eq ▸ ended)
    | armed h => simp [moving, inState, h] at movesL
    | rests h => simp [moving, inState, h] at movesL

end

/-- Settles O16: the five ways of `RunEnd`. -/
theorem sampleTickEndsTheRun : Obligations.SampleTickEndsTheRun := by
  intro p s live moves due loaded
  have begun : s.seq.state ≠ .starting := by rintro h; simp [moving, inState, h] at moves
  obtain ⟨z, taken⟩ := exec_sampleTick live due begun
  have ends := run_end (p := p) (s := s.ticked) loaded moves
  obtain ⟨power, time, inputs, loader, peers, port, -⟩ := sampleWork_frame s.ticked
  refine ⟨_, taken, ?_⟩
  have wide : stoppedWide p ((sampleWork s.ticked).clocked z) = stoppedWide p (sampleWork s.ticked) := rfl
  have stood : stands ((sampleWork s.ticked).clocked z) = stands (sampleWork s.ticked) := rfl
  have strands : strandingPeer ((sampleWork s.ticked).clocked z) = strandingPeer (sampleWork s.ticked) := rfl
  have still : standstill ((sampleWork s.ticked).clocked z) = standstill (sampleWork s.ticked) := rfl
  have rest : resting ((sampleWork s.ticked).clocked z) = resting (sampleWork s.ticked) := rfl
  simp only [State.clocked_frame, doorJudged_clocked, standsTripped_clocked, wide, stood, strands, still, rest]
  generalize sampleWork s.ticked = t at *
  have opened : ∀ {P : Prop}, isCar s = true → s.inputs.pins.doorShut = false → doorOpens s = false → P := by
    intro P car shut no
    simp [doorOpens, car, moves, doorShut, shut] at no
  cases ends with
  | tripped stands =>
    have state := tripped_of_standsTripped stands
    have out : resting t = false := by simp [resting, inState, state]
    exact ⟨time, .inr (.inr (.inr state)), by simp [state], by simp [state], by simp [out], fun _ => stands,
      doorJudged_of_not_dwell (by simp [state]), fun _ _ => .inl state, fun _ => by simp [state], power, inputs, loader, peers,
      port⟩
  | rests rests left door shut dwells =>
    have state : t.seq.state = .dwell ∨ t.seq.state = .hold := by simpa [resting, inState] using rests
    have out : t.seq.state ≠ .running ∧ t.seq.state ≠ .stopping ∧ t.seq.state ≠ .tripped := by
      rcases state with h | h <;> simp [h]
    refine ⟨time, .inr (.inr (.inl rests)), fun h => absurd h out.1, fun h => absurd h out.2.1, fun _ => left,
      fun h => absurd h out.2.2, door, fun car open' => .inr ?_,
      fun stopping => ⟨by rw [dwells stopping]; simp, fun h => absurd h out.2.1, fun h => absurd h out.2.1⟩, power, inputs,
      loader, peers, port⟩
    rcases shut with shut | ⟨running, comms⟩
    · exact opened car open' shut
    · exact ⟨running, comms, rests⟩
  | arrives running stops shut left =>
    have running' : s.seq.state = .running := running
    obtain ⟨line, mark, run, dir⟩ := left
    have out : resting t = false := by simp [resting, inState, stops]
    exact ⟨time, .inr (.inl stops), by simp [stops], fun _ => ⟨by rw [if_pos running', line], fun _ => mark, run, dir⟩,
      by simp [out], by simp [stops], doorJudged_of_not_dwell (by simp [stops]), fun car open' => opened car open' shut,
      by simp [running'], power, inputs, loader, peers, port⟩
  | stops stopping shut seq drive car =>
    have stopping' : s.seq.state = .stopping := stopping
    have seq' : t.seq = s.seq := seq
    have state : t.seq.state = .stopping := by rw [seq', stopping']
    have out : resting t = false := by simp [resting, inState, state]
    exact ⟨time, .inr (.inl state), by simp [state], fun _ => ⟨by simp [stopping'], by simp [stopping'], by rw [seq'],
      by rw [seq']⟩, by simp [out], by simp [state], doorJudged_of_not_dwell (by simp [state]),
      fun car open' => opened car open' shut, fun _ => ⟨by simp [state], fun _ => drive, fun _ => car⟩, power, inputs, loader,
      peers, port⟩
  | goesOn running shut seq unmarked together within =>
    have running' : s.seq.state = .running := running
    have seq' : t.seq = s.seq := seq
    have state : t.seq.state = .running := by rw [seq', running']
    have out : resting t = false := by simp [resting, inState, state]
    exact ⟨time, .inl state, fun _ => ⟨running', unmarked, together, within, seq'⟩, by simp [state], by simp [out],
      by simp [state], doorJudged_of_not_dwell (by simp [state]), fun car open' => opened car open' shut, by simp [running'],
      power, inputs, loader, peers, port⟩

end Sys2Proof.Machine
end

section
/-! PROOF. What the later blocks leave of the envelope and of what it is formed from (R55, R56, R61, R106). -/

namespace Sys2Proof.Machine

/-! ## The node at the end of the tick -/

/-- How a node stands at the end of a tick that no block before the ceiling unit has tripped, against the supervised node. -/
inductive TickFinal (l t : State) : Prop
  | stays (run : t.seq.state = l.seq.state ∧ t.seq.dir = l.seq.dir ∧ t.seq.leg = l.seq.leg ∧ t.seq.recovery = l.seq.recovery)
      (tracker : t.tracker = l.tracker) (envelope : t.envelope = l.envelope) (ceiling : t.ceiling = l.ceiling)
      (unmarked : l.seq.state = .running → l.envelope.atMark = false)
  | passes (n : NodeState) (state : t.seq.state = n)
      (why : (l.seq.state = .armed ∧ l.seq.origin = some n) ∨ (l.seq.state = .running ∧ n = .stopping))
      (inside : n = .armed ∨ n = .running ∨ n = .stopping)
      (run : t.seq.dir = l.seq.dir ∧ t.seq.leg = l.seq.leg ∧ t.seq.recovery = l.seq.recovery)
      (tracker : ∃ r, t.tracker = { l.tracker with stillRef := r }) (envelope : t.envelope = (enterEnvelope n l).envelope)
      (line : if n = .running then t.ceiling.line = formedCeiling t else t.ceiling.line = 0)
  | rests (out : inRun t = false) (left : t.seq.state ≠ l.seq.state)
      (envelope : ∃ a, t.envelope = { l.envelope with vperm := 0, atMark := a, gateOpen := false }) (line : t.ceiling.line = 0)

section

variable {p : Profile} {l x t : State}

/-- An entry that ends the run or is none of its states. -/
theorem TickFinal.of_rest {n : NodeState} {y : State} (rest : n ≠ .armed ∧ n ≠ .running ∧ n ≠ .stopping)
    (away : n ≠ l.seq.state)
    (shape : ∃ v a g, y.envelope = { l.envelope with vperm := v, atMark := a, gateOpen := g }) (clad : Clad (enterState n y) t) :
    TickFinal l t := by
  obtain ⟨-, -, -, -, -, -, envelope, ceiling, -, seq, -⟩ := clad.kept
  have state : t.seq.state = n := by rw [seq]; simp
  obtain ⟨v, a, g, shape⟩ := shape
  refine .rests (by simp [inRun, inState, state, rest]) (by rwa [state]) ⟨false, ?_⟩ ?_
  · rw [envelope, enterState_envelope]
    simp only [enterEnvelope, shape]
    simp [rest]
  · rw [ceiling, enterState_line_of_not_running _ rest.2.1]

/-- A cause raised in the run (R165). -/
theorem TickFinal.of_raised {c : Cause} (moves : moving l = true) (ended : TickEnd (raiseCause c l) t) : TickFinal l t := by
  have service := inService_of_moving moves
  have out : l.seq.state ≠ .tripped := by rintro h; simp [moving, inState, h] at moves
  obtain ⟨-, own⟩ := raised_in_service (c := c) service
  cases ended with
  | clad kept =>
    rw [raiseCause_of_trips service out] at kept
    exact .of_rest (y := causeRecorded c false l) (by simp) out.symm ⟨_, _, _, rfl⟩ kept
  | left _ empty _ => exact absurd (own.symm.trans empty) (addCause_ne_nil _ _)

/-- The way out of TRIPPED (R172). -/
theorem TickFinal.of_left {y : State} (out : l.seq.state ≠ .dwell ∧ l.seq.state ≠ .hold)
    (shape : ∃ v a g, y.envelope = { l.envelope with vperm := v, atMark := a, gateOpen := g })
    (eq : t = leaveTripped { y with trips := { y.trips with origin := none } }) : TickFinal l t := by
  generalize named : ({ y with trips := { y.trips with origin := none } } : State) = w at eq
  have shape' : ∃ v a g, ({ w with trips := { w.trips with primary := none } } : State).envelope =
      { l.envelope with vperm := v, atMark := a, gateOpen := g } := by
    rw [← named]
    exact shape
  have rests := standingTest_rests { w with trips := { w.trips with primary := none } }
  refine .of_rest (n := standingTest { w with trips := { w.trips with primary := none } })
    (y := { w with trips := { w.trips with primary := none } }) ?_ ?_ shape' (eq ▸ .refl _)
  · rcases rests with h | h <;> rw [h] <;> simp
  · rcases rests with h | h <;> rw [h]
    · exact out.1.symm
    · exact out.2.symm

/-- A node that no judgement has moved (R104, R116). -/
theorem TickFinal.of_stay {y : State} (run : y.seq.state = l.seq.state ∧ y.seq.dir = l.seq.dir ∧ y.seq.leg = l.seq.leg
      ∧ y.seq.recovery = l.seq.recovery)
    (same : y.tracker = l.tracker ∧ y.envelope = l.envelope ∧ y.ceiling = l.ceiling)
    (unmarked : l.seq.state = .running → l.envelope.atMark = false) (ended : TickEnd y t) : TickFinal l t := by
  obtain ⟨state, dir, leg, recovery⟩ := run
  obtain ⟨tracker, envelope, ceiling⟩ := same
  cases ended with
  | clad kept =>
    obtain ⟨-, -, -, -, -, trackerT, envelopeT, ceilingT, -, seqT, -⟩ := kept.kept
    exact .stays ⟨by rw [seqT, state], by rw [seqT, dir], by rw [seqT, leg], by rw [seqT, recovery]⟩ (by rw [trackerT, tracker])
      (by rw [envelopeT, envelope]) (by rw [ceilingT, ceiling]) unmarked
  | left tripped _ eq =>
    refine .of_left ?_ ⟨_, _, _, by rw [envelope]⟩ eq
    rw [← state, tripped]
    simp

/-- An entry to a state of the run (R120, R123). -/
theorem TickFinal.of_pass {n : NodeState} {y : State} (inside : n = .armed ∨ n = .running ∨ n = .stopping)
    (why : (l.seq.state = .armed ∧ l.seq.origin = some n) ∨ (l.seq.state = .running ∧ n = .stopping))
    (same : y.loader = (enterState n l).loader ∧ y.peers = (enterState n l).peers ∧ y.time = (enterState n l).time
      ∧ y.tracker = (enterState n l).tracker ∧ y.envelope = (enterState n l).envelope
      ∧ y.ceiling = (enterState n l).ceiling)
    (run : y.seq.state = n ∧ y.seq.dir = l.seq.dir ∧ y.seq.leg = l.seq.leg ∧ y.seq.recovery = l.seq.recovery)
    (clad : Clad y t) : TickFinal l t := by
  obtain ⟨loader, peers, time, tracker, envelope, ceiling⟩ := same
  obtain ⟨state, dir, leg, recovery⟩ := run
  obtain ⟨-, timeT, -, loaderT, peersT, trackerT, envelopeT, ceilingT, -, seqT, -⟩ := clad.kept
  obtain ⟨r, kept⟩ := enterState_tracker_of_no_reference (n := n) (s := l)
    (.inr (.inl (by rcases inside with rfl | rfl | rfl <;> simp)))
  refine .passes n (by rw [seqT, state]) why inside ⟨by rw [seqT, dir], by rw [seqT, leg], by rw [seqT, recovery]⟩
    ⟨r, by rw [trackerT, tracker, kept]⟩ (by rw [envelopeT, envelope, enterState_envelope]) ?_
  split
  · next running =>
    subst running
    rw [ceilingT, ceiling, enterState_ceiling_running]
    symm
    apply formedCeiling_congr <;>
      simp [timeT, loaderT, peersT, seqT, envelopeT, ceilingT, time, loader, peers, envelope, ceiling, recovery, state,
        enterState_recovery_running]
  · next other => rw [ceilingT, ceiling, enterState_line_of_not_running _ other]

/-- An entry that ends the run, and what the clearing makes of it (R122, R172). -/
theorem TickFinal.of_exit {n : NodeState} (rest : n ≠ .armed ∧ n ≠ .running ∧ n ≠ .stopping) (away : n ≠ l.seq.state)
    (out : l.seq.state ≠ .dwell ∧ l.seq.state ≠ .hold) (ended : TickEnd (enterState n l) t) : TickFinal l t := by
  cases ended with
  | clad kept => exact .of_rest rest away ⟨_, _, _, rfl⟩ kept
  | left _ _ eq => exact .of_left out ⟨_, _, _, enterState_envelope n l⟩ eq

/-- An entry to a state of the run keeps the run's own fields (R120). -/
theorem seq_of_pass {n : NodeState} (inside : n = .armed ∨ n = .running ∨ n = .stopping) (l : State) :
    (enterState n l).seq.state = n ∧ (enterState n l).seq.dir = l.seq.dir ∧ (enterState n l).seq.leg = l.seq.leg
      ∧ (enterState n l).seq.recovery = l.seq.recovery := by
  rw [enterState_seq_of_not_dwell _ (by rcases inside with rfl | rfl | rfl <;> simp)]
  rcases inside with rfl | rfl | rfl <;> exact ⟨rfl, rfl, rfl, rfl⟩

theorem carDwell_driveDwell (l : State) : carDwell (driveDwell l) = enterState .dwell l ∨ carDwell (driveDwell l) = l := by
  unfold driveDwell
  split
  · left
    simp [carDwell, inState]
  · unfold carDwell
    dsimp only
    split
    · exact .inl rfl
    · exact .inr rfl

/-- The consent judged again in ARMED, and the line start with it (R127, R132, R134). -/
theorem TickFinal.of_armed (armed : l.seq.state = .armed) (ended : TickEnd (judgeLineStart (judgeConsent l)) t) :
    TickFinal l t := by
  have quiet : l.seq.state = .running → l.envelope.atMark = false := by simp [armed]
  unfold judgeConsent at ended
  split at ended
  · unfold leaveArmed at ended
    generalize named : l.seq.origin.getD .hold = n at ended
    by_cases inside : n = .armed ∨ n = .running ∨ n = .stopping
    · have origin : l.seq.origin = some n := by
        cases held : l.seq.origin with
        | none => rw [← named, held] at inside; simp at inside
        | some m => rw [← named, held]; rfl
      have run := seq_of_pass inside l
      have led := judgeLineStart_seq (enterState n l)
      have out : (judgeLineStart (enterState n l)).seq.state ≠ .tripped := by
        rw [led]
        rcases inside with rfl | rfl | rfl <;> simp
      refine .of_pass inside (.inl ⟨armed, origin⟩) (by simp) ?_ (ended.clad_of_not_tripped out)
      rw [led]
      exact run
    · simp only [not_or] at inside
      rw [judgeLineStart_of_other (.inr (.inl (by simpa using inside.1)))] at ended
      exact .of_exit inside (by rw [armed]; exact inside.1) (by simp [armed]) ended
  · have seq := judgeLineStart_seq l
    refine .of_stay ?_ (by simp) quiet ended
    rw [seq]
    exact ⟨rfl, rfl, rfl, rfl⟩

/-- The ways through the later blocks end so. -/
theorem tick_final (outcome : TickOutcome p l x) (ended : TickEnd x t) : TickFinal l t := by
  have exits : l.seq.state = .running → TickEnd (enterState (standingTest l) l) t → TickFinal l t := by
    intro running
    refine .of_exit ?_ ?_ (by simp [running])
    all_goals rcases standingTest_rests l with h | h <;> simp [h, running]
  cases outcome with
  | overspeed moves _ eq => exact .of_raised moves (eq ▸ ended)
  | opened opens _ eq =>
    simp only [doorOpens, Bool.and_eq_true] at opens
    exact .of_raised opens.1.2 (eq ▸ ended)
  | completed ends eq =>
    simp only [commsComplete, Bool.and_eq_true, inState, beq_iff_eq] at ends
    exact exits ends.1.1 (eq ▸ ended)
  | arrived _ running _ eq =>
    rw [eq, enterStopping_eq] at ended
    split at ended
    · refine .of_rest (n := .dwell) (y := enterState .stopping l) (by simp) (by simp [running])
        ⟨_, _, _, enterState_envelope _ l⟩ (ended.clad_of_not_tripped (by simp))
    · exact .of_pass (.inr (.inr rfl)) (.inr ⟨running, rfl⟩) ⟨rfl, rfl, rfl, rfl, rfl, rfl⟩
        (seq_of_pass (.inr (.inr rfl)) l) (ended.clad_of_not_tripped (by simp))
  | stranded _ running _ eq => exact exits running (eq ▸ ended)
  | goesOn _ running _ unmarked _ eq =>
    exact .of_stay ⟨rfl, rfl, rfl, rfl⟩ ⟨rfl, rfl, rfl⟩ (fun _ => unmarked) (eq ▸ ended)
  | stopping _ stops eq =>
    rcases carDwell_driveDwell l with dwell | stays
    · rw [eq, dwell] at ended
      exact .of_exit (by simp) (by simp [stops]) (by simp [stops]) ended
    · rw [eq, stays] at ended
      exact .of_stay ⟨rfl, rfl, rfl, rfl⟩ ⟨rfl, rfl, rfl⟩ (by simp [stops]) ended
  | armed armed eq => exact .of_armed armed (eq ▸ ended)
  | rests rests eq =>
    exact .of_stay ⟨rfl, rfl, rfl, rfl⟩ ⟨rfl, rfl, rfl⟩ (fun running => absurd running rests.2.1) (eq ▸ ended)

end

end Sys2Proof.Machine
end

section
/-! PROOF. The envelope and the line ceiling that a sample tick forms (R43 to R62, R104 to R106, R155, R156). -/

namespace Sys2Proof.Machine

/-! ## Arithmetic -/

theorem isqrtBits_sq_le {n : Nat} (k : Nat) {r : Nat} (below : r * r ≤ n) : isqrtBits n k r * isqrtBits n k r ≤ n := by
  induction k generalizing r with
  | zero => exact below
  | succ k ih =>
    unfold isqrtBits
    split
    · next fits => exact ih fits
    · exact ih below

theorem isqrt_sq_le (n : Nat) : isqrt n * isqrt n ≤ n := isqrtBits_sq_le _ (Nat.zero_le n)

theorem foldl_min_le_mem {x : Nat} {l : List Nat} (member : x ∈ l) (n : Nat) : l.foldl min n ≤ x := by
  induction l generalizing n with
  | nil => simp at member
  | cons a l ih =>
    rcases List.mem_cons.mp member with rfl | later
    · exact (foldl_min_le_init l _).trans (Nat.min_le_right n _)
    · exact ih later _

theorem le_foldl_min {b : Nat} {l : List Nat} (all : ∀ x ∈ l, b ≤ x) {n : Nat} (first : b ≤ n) : b ≤ l.foldl min n := by
  induction l generalizing n with
  | nil => exact first
  | cons a l ih =>
    exact ih (fun x member => all x (List.mem_cons_of_mem a member)) (le_min first (all a List.mem_cons_self))

/-- b_eff lies between B_floor and the rated deceleration (R51). -/
theorem effective_bounds (s : State) {p : Profile} (floor : p.bFloor ≤ p.bRate) :
    p.bFloor ≤ effective s p ∧ effective s p ≤ p.bRate := by
  refine ⟨le_foldl_min (fun x member => ?_) floor, foldl_min_le_init _ _⟩
  obtain ⟨b, -, rfl⟩ := List.mem_map.mp member
  omega

/-! ## The curve of a car concerned (R45, R46, R53) -/

theorem curveLimit_bounds (p : Profile) (b : Nat) (d : Travel) (mark x : Nat) :
    (∀ g ∈ presentSegment p.segments x, curveLimit p b d mark x ≤ g.limit)
      ∧ curveLimit p b d mark x * curveLimit p b d mark x ≤
        p.vCreep * p.vCreep + 2 * b * (distanceTo d mark x - (p.dMargin : Int)).toNat := by
  constructor
  · intro g present
    refine (foldl_min_le_init _ _).trans ?_
    simp [Option.mem_def.mp present]
  · have last : curve p b { speed := p.vCreep, distance := distanceTo d mark x } ∈ (targets p d mark x).map (curve p b) :=
      List.mem_map_of_mem (by simp [targets])
    have below := foldl_min_le_mem last (min p.vLineMax ((presentSegment p.segments x).elim p.vLineMax Segment.limit))
    exact (Nat.mul_le_mul below below).trans (isqrt_sq_le _)

theorem carValue_le_curve {p : Profile} {s : State} {x : Side} {k : Travel × Nat × Nat} (aims : k ∈ aim s p x) :
    carValue s p x ≤ curveLimit p (s.envelope.bEff.getD 0) k.1 k.2.1 k.2.2 := by
  unfold carValue
  rw [Option.mem_def.mp aims]
  dsimp only
  split
  · exact Nat.min_le_left _ _
  · exact le_refl _

/-- A car with a stop mark in view is one that the node's own value takes in (R39, R53, R155). -/
theorem permitted_le_carValue {p : Profile} {s : State} {x : Side} {k : Travel × Nat × Nat} (aims : k ∈ aim s p x) :
    permitted s p ≤ carValue s p x := by
  unfold permitted
  split
  · next car =>
    have own : side s = x := by
      have drive := isDrive_of_isCar car
      have loop : isLoop s = false := by
        simp only [isCar, beq_iff_eq] at car
        simp [isLoop, car]
      by_contra other
      have nowhere : carPosition s p x = none := by
        simp [carPosition, concerns, drive, loop, other]
      unfold aim at aims
      rw [nowhere] at aims
      split at aims <;> simp_all
    rw [own]
  · cases x with
    | a => exact Nat.min_le_left _ _
    | b => exact Nat.min_le_right _ _

theorem aim_of_terminal {p : Profile} {s : State} (terminal : isTerminal s = true) (x : Side) : aim s p x = none := by
  have nowhere : carPosition s p x = none := by
    simp only [isTerminal, beq_iff_eq] at terminal
    simp [carPosition, concerns, isLoop, isDrive, isCar, terminal]
  unfold aim
  rw [nowhere]
  cases travelIn s.seq.dir x <;> rfl

/-! ## What the envelope is formed from -/

/-- Nothing has moved that the envelope is formed from, nor what it is besides vperm, the distances and its flags. -/
structure SameAim (a t : State) : Prop where
  loader : t.loader = a.loader
  peers : t.peers = a.peers
  tracker : ∃ r, t.tracker = { a.tracker with stillRef := r }
  run : t.seq.dir = a.seq.dir ∧ t.seq.leg = a.seq.leg ∧ t.seq.recovery = a.seq.recovery
  envelope : t.envelope.bEff = a.envelope.bEff ∧ t.envelope.overhaul = a.envelope.overhaul
    ∧ t.envelope.choiceA = a.envelope.choiceA ∧ t.envelope.choiceB = a.envelope.choiceB

namespace SameAim

variable {p : Profile} {a t : State}

theorem trans {s : State} (one : SameAim a s) (two : SameAim s t) : SameAim a t := by
  obtain ⟨r, tracker⟩ := one.tracker
  obtain ⟨q, tracker'⟩ := two.tracker
  obtain ⟨dir, leg, recovery⟩ := one.run
  obtain ⟨dir', leg', recovery'⟩ := two.run
  obtain ⟨bEff, overhaul, choiceA, choiceB⟩ := one.envelope
  obtain ⟨bEff', overhaul', choiceA', choiceB'⟩ := two.envelope
  exact ⟨two.loader.trans one.loader, two.peers.trans one.peers, ⟨q, by rw [tracker', tracker]⟩,
    ⟨dir'.trans dir, leg'.trans leg, recovery'.trans recovery⟩, bEff'.trans bEff, overhaul'.trans overhaul,
    choiceA'.trans choiceA, choiceB'.trans choiceB⟩

theorem position (same : SameAim a t) (x : Side) : carPosition t p x = carPosition a p x := by
  obtain ⟨loader, peers, ⟨r, tracker⟩, -, -⟩ := same
  simp [carPosition, concerns, isLoop, isDrive, isCar, role, side, located, reported, positionCm, cpm, carEntry, loader, peers,
    tracker]

theorem aim (same : SameAim a t) (x : Side) : Machine.aim t p x = Machine.aim a p x := by
  have position := same.position (p := p) x
  obtain ⟨-, -, -, ⟨dir, leg, -⟩, -, -, choiceA, choiceB⟩ := same
  have choice : choiceOf t x = choiceOf a x := by
    cases x
    · exact choiceA
    · exact choiceB
  unfold Machine.aim
  rw [position, dir, leg, choice]

theorem distanceOf (same : SameAim a t) (x : Side) : Machine.distanceOf t p x = Machine.distanceOf a p x := by
  unfold Machine.distanceOf
  rw [same.aim x]

theorem rawDecelerations (same : SameAim a t) : Machine.rawDecelerations t p = Machine.rawDecelerations a p := by
  obtain ⟨loader, peers, ⟨r, tracker⟩, ⟨dir, -⟩, -⟩ := same
  have asc : ∀ x, ascending t p x = ascending a p x := by
    intro x
    simp [ascending, peerAscending, hasEncoder, isDrive, isCar, role, side, located, reported, positionCm, cpm, carEntry,
      driveEntry, loader, peers, tracker]
  have load : ∀ x, loadOf t p x = loadOf a p x := by
    intro x
    simp only [loadOf, isCar, role, side, carEntry, loader, peers, tracker]
    rfl
  have raw : ∀ x, rawDeceleration t p x = rawDeceleration a p x := by
    intro x
    simp [rawDeceleration, imbalance, asc, load]
  unfold Machine.rawDecelerations
  rw [dir, raw, raw]

theorem effective (same : SameAim a t) : Machine.effective t p = Machine.effective a p := by
  unfold Machine.effective
  rw [same.rawDecelerations]

theorem overhauls (same : SameAim a t) : Machine.overhauls t p = Machine.overhauls a p := by
  unfold Machine.overhauls
  rw [same.rawDecelerations]

theorem permitted (same : SameAim a t) : Machine.permitted t p = Machine.permitted a p := by
  have aims := same.aim (p := p)
  obtain ⟨loader, -, ⟨r, tracker⟩, ⟨-, -, recovery⟩, bEff, overhaul, -, -⟩ := same
  have capped : cappedAtCrawl t = cappedAtCrawl a := by
    simp [cappedAtCrawl, isCar, role, loader, tracker, recovery, overhaul]
  have encoder : hasEncoder t = hasEncoder a := hasEncoder_congr loader
  have value : ∀ x, carValue t p x = carValue a p x := by
    intro x
    unfold carValue
    rw [aims, bEff, capped, encoder]
  simp [Machine.permitted, isCar, role, side, loader, value]

end SameAim

end Sys2Proof.Machine
end

section
/-! PROOF. The envelope and the line ceiling at the end of a sample tick (R40, R55 to R57, R61, R104, R155). -/

namespace Sys2Proof.Machine

section

variable {p : Profile} {v : State}

/-! ## What the first steps leave (R40, R61) -/

theorem envelopeLoop_moves (p : Profile) (v : State) :
    (envelopeLoop p v).envelope.overhaul = overhauls v p ∧ (envelopeLoop p v).envelope.bEff = some (effective v p)
      ∧ (envelopeLoop p v).envelope.vperm =
        (if v.seq.state = .armed ∨ v.seq.state = .running then permitted (envelopeLoop p v) p else 0)
      ∧ (envelopeLoop p v).envelope.distA = (distanceStep p (stopMarkStep p v)).envelope.distA
      ∧ (envelopeLoop p v).envelope.distB = (distanceStep p (stopMarkStep p v)).envelope.distB := by
  obtain ⟨x, distances⟩ := distanceStep_envelope p (stopMarkStep p v)
  obtain ⟨y, marks⟩ := stopMarkStep_envelope p v
  unfold envelopeLoop
  rw [distances, marks]
  refine ⟨rfl, rfl, ?_, rfl, rfl⟩
  refine if_congr ?_ rfl rfl
  simp [decelerationStep, inState]

theorem aimed_deceleration (p : Profile) (v : State) :
    (aimed p v).envelope.bEff = some (effective (aimed p v) p) ∧ (aimed p v).envelope.overhaul = overhauls (aimed p v) p := by
  have effective' : effective (aimed p v) p = effective v p := by rw [aimed_eq]; rfl
  have overhauls' : overhauls (aimed p v) p = overhauls v p := by rw [aimed_eq]; rfl
  rw [effective', overhauls']
  unfold aimed
  split
  · exact ⟨rfl, rfl⟩
  · exact ⟨(envelopeLoop_moves p v).2.1, (envelopeLoop_moves p v).1⟩

theorem aimed_distances (other : isTerminal v = false) (run : inRun v = true) :
    (aimed p v).envelope.distA = distanceOf (aimed p v) p .a ∧ (aimed p v).envelope.distB = distanceOf (aimed p v) p .b := by
  have aims : aimed p v = envelopeLoop p v := by simp [aimed, other]
  obtain ⟨-, -, -, distA, distB⟩ := envelopeLoop_moves p v
  rw [aims, distA, distB]
  obtain ⟨y, marks⟩ := stopMarkStep_envelope p v
  have runS : inRun (stopMarkStep p v) = true := by rw [marks]; exact run
  have step : distanceStep p (stopMarkStep p v) =
      { stopMarkStep p v with envelope.distA := distanceOf (stopMarkStep p v) p .a
                              envelope.distB := distanceOf (stopMarkStep p v) p .b } := if_pos runS
  unfold envelopeLoop
  rw [step]
  exact ⟨rfl, rfl⟩

/-- A LOOP's distances outside the run (R155; log entries 46 and 50). -/
theorem aimed_kept (loop : isLoop v = true) (out : inRun v = false) :
    (aimed p v).envelope.distA = keptDistance v p .a v.envelope.distA
      ∧ (aimed p v).envelope.distB = keptDistance v p .b v.envelope.distB := by
  have other : isTerminal v = false := by
    simp only [isLoop, beq_iff_eq] at loop
    simp [isTerminal, loop]
  have aims : aimed p v = envelopeLoop p v := by simp [aimed, other]
  obtain ⟨-, -, -, distA, distB⟩ := envelopeLoop_moves p v
  have marks : stopMarkStep p v = v := by simp [stopMarkStep, out]
  rw [aims, distA, distB, marks]
  simp [distanceStep, out, loop]

theorem aimed_vperm (p : Profile) (v : State) :
    (aimed p v).envelope.vperm =
      if v.seq.state = .armed ∨ v.seq.state = .running then
        (if isTerminal v = true then (if gateShut v = true then p.vLineMax else 0) else permitted (aimed p v) p)
      else 0 := by
  unfold aimed
  split
  · next terminal =>
    simp only [envelopeTerminal, decelerationStep, inState, inRun]
    by_cases run : v.seq.state = .armed ∨ v.seq.state = .running
    · rcases run with h | h <;> cases gateShut v <;> simp [h]
    · simp [run]
  · exact (envelopeLoop_moves p v).2.2.1

theorem aimed_gateOpen (terminal : isTerminal v = true) : (aimed p v).envelope.gateOpen = (inRun v && !gateShut v) := by
  simp [aimed, terminal, envelopeTerminal, decelerationStep]

end

/-! ## At the end of the tick -/

/-- What the end of a tick leaves of the envelope `a` formed before the arrival, where no block up to the arrival has tripped
the node. -/
structure Formed (p : Profile) (s a t : State) : Prop where
  deceleration : t.envelope.bEff = a.envelope.bEff
  same : t.seq.state = s.seq.state ∨ inRun t = true → SameAim a t
  inside : inRun t = true → inRun s = true
  distances : t.envelope.distA = a.envelope.distA ∧ t.envelope.distB = a.envelope.distB
  vperm : t.envelope.vperm = 0
    ∨ ((t.seq.state = .armed ∨ t.seq.state = .running) ∧ t.envelope.vperm = a.envelope.vperm)
  whole : (t.seq.state = .armed ∨ t.seq.state = .running) → originGated s = true →
    t.seq.state = s.seq.state ∧ t.envelope.vperm = a.envelope.vperm
  gate : isTerminal s = true → t.envelope.gateOpen = (inRun t && a.envelope.gateOpen)
  mark : hasEncoder s = true → moving s = true → moving t = true → t.envelope.atMark = arrives p a ∧ t.tracker.speed = a.tracker.speed
  line : t.seq.state = .running → t.ceiling.line = formedCeiling t
  gated : ceilingGated t = true

section

variable {p : Profile} {s l t : State}

/-- What the supervised node holds of the envelope formed (R56). -/
structure Aimed (p : Profile) (s l : State) : Prop where
  loader : l.loader = s.loader
  peers : l.peers = s.peers
  time : l.time = s.time
  seq : l.seq = s.seq
  seqA : (aimed p (trackerWork s)).seq = s.seq
  tracker : l.tracker = (trackerWork s).tracker
  line : l.ceiling.line = formedCeiling l
  envelope : l.envelope =
    if (hasEncoder s && moving s) = true then
      (withMark (arrives p (aimed p (trackerWork s))) (aimed p (trackerWork s))).envelope
    else (aimed p (trackerWork s)).envelope

theorem aimed_of_clad (seq : (trackerWork s).seq = s.seq) (clad : Clad (supervised p (arrived p (trackerWork s))) l) :
    Aimed p s l := by
  have frame := trackerWork_frame s
  obtain ⟨-, timeV, -, loaderV, peersV, -⟩ := frame
  have encoder : hasEncoder (trackerWork s) = hasEncoder s := hasEncoder_congr loaderV
  have moves : moving (trackerWork s) = moving s := by simp [moving, inState, seq]
  have kept : (arrived p (trackerWork s)).loader = s.loader ∧ (arrived p (trackerWork s)).peers = s.peers
      ∧ (arrived p (trackerWork s)).time = s.time ∧ (arrived p (trackerWork s)).seq = s.seq
      ∧ (arrived p (trackerWork s)).tracker = (trackerWork s).tracker
      ∧ (arrived p (trackerWork s)).envelope =
        (if (hasEncoder s && moving s) = true then
          (withMark (arrives p (aimed p (trackerWork s))) (aimed p (trackerWork s))).envelope
        else (aimed p (trackerWork s)).envelope) := by
    unfold arrived
    rw [encoder, moves]
    split <;> simp [withMark, seq]
  obtain ⟨loaderB, peersB, timeB, seqB, trackerB, envelopeB⟩ := kept
  obtain ⟨-, time, -, loader, peers, tracker, envelope, seqL, -, -, -, line, comms⟩ := clad_supervised clad
  refine ⟨by rw [loader, loaderB], by rw [peers, peersB], by rw [time, timeB], by rw [seqL, seqB], by simp [seq],
    by rw [tracker, trackerB], ?_, by rw [envelope, envelopeB]⟩
  rw [line]
  symm
  apply formedCeiling_congr <;> simp [seqL, loader, comms, time, peers, envelope]

namespace Aimed

/-- What the envelope is formed from stands in the supervised node. -/
theorem same (k : Aimed p s l) : SameAim (aimed p (trackerWork s)) l := by
  refine ⟨by simp [k.loader], by simp [k.peers], ⟨l.tracker.stillRef, by simp [k.tracker]⟩,
    by rw [k.seq, k.seqA]; exact ⟨rfl, rfl, rfl⟩, ?_⟩
  rw [k.envelope]
  split <;> exact ⟨rfl, rfl, rfl, rfl⟩

theorem shape (k : Aimed p s l) :
    l.envelope.distA = (aimed p (trackerWork s)).envelope.distA
      ∧ l.envelope.distB = (aimed p (trackerWork s)).envelope.distB
      ∧ l.envelope.gateOpen = (aimed p (trackerWork s)).envelope.gateOpen := by
  rw [k.envelope]
  split <;> exact ⟨rfl, rfl, rfl⟩

theorem marks (k : Aimed p s l) (encoder : hasEncoder s = true) (moves : moving s = true) :
    l.envelope.atMark = arrives p (aimed p (trackerWork s)) := by
  rw [k.envelope, if_pos (by simp [encoder, moves])]
  rfl

/-- vperm is the value formed, but for an arrival in RUNNING (R55, R56). -/
theorem vperm (k : Aimed p s l) (unmarked : s.seq.state = .running → l.envelope.atMark = false) :
    l.envelope.vperm = (aimed p (trackerWork s)).envelope.vperm := by
  by_cases judged : (hasEncoder s && moving s) = true
  · simp only [Bool.and_eq_true] at judged
    have mark := k.marks judged.1 judged.2
    rw [k.envelope, if_pos (by simp [judged])]
    rcases (moving_iff s).mp judged.2 with running | stopping
    · rw [unmarked running] at mark
      simp [withMark, ← mark]
    · have seqV : (trackerWork s).seq = s.seq := by simpa using k.seqA
      have zero := aimed_vperm_of_rest (p := p) (v := trackerWork s) (by simp [seqV, stopping]) (by simp [seqV, stopping])
      simp [withMark, zero]
  · rw [k.envelope, if_neg judged]

end Aimed

theorem formed_of_final (k : Aimed p s l) (final : TickFinal l t) (loader : t.loader = s.loader) (peers : t.peers = s.peers)
    (time : t.time = s.time) : Formed p s (aimed p (trackerWork s)) t := by
  obtain ⟨distA, distB, gateOpen⟩ := k.shape
  have same := k.same
  have seqV : (trackerWork s).seq = s.seq := by simpa using k.seqA
  have loaderL := loader.trans k.loader.symm
  have peersL := peers.trans k.peers.symm
  have speed : l.tracker.speed = (aimed p (trackerWork s)).tracker.speed := by simp [k.tracker]
  cases final with
  | stays run tracker envelope ceiling unmarked =>
    obtain ⟨state, dir, leg, recovery⟩ := run
    have stateS : t.seq.state = s.seq.state := by rw [state, k.seq]
    have unmarkedS : s.seq.state = .running → l.envelope.atMark = false := by rw [← k.seq]; exact unmarked
    have vperm := k.vperm unmarkedS
    have onward : SameAim l t :=
      ⟨loaderL, peersL, ⟨l.tracker.stillRef, by rw [tracker]⟩, ⟨dir, leg, recovery⟩, by rw [envelope]; exact ⟨rfl, rfl, rfl, rfl⟩⟩
    refine ⟨by rw [envelope, same.envelope.1], fun _ => same.trans onward,
      fun run => by simpa [inRun, inState, stateS] using run, by rw [envelope]; exact ⟨distA, distB⟩, ?_,
      fun _ _ => ⟨stateS, by rw [envelope, vperm]⟩, fun terminal => ?_, fun encoder moves _ => ?_, fun running => ?_, ?_⟩
    · rw [envelope, vperm]
      by_cases run : s.seq.state = .armed ∨ s.seq.state = .running
      · exact .inr ⟨by rwa [stateS], rfl⟩
      · simp only [not_or] at run
        exact .inl (aimed_vperm_of_rest (by simp [seqV, run]) (by simp [seqV, run]))
    · rw [envelope, gateOpen, aimed_gateOpen (by simpa [isTerminal, role] using terminal)]
      simp [inRun, inState, stateS, seqV]
    · rw [envelope, tracker]
      exact ⟨k.marks encoder moves, speed⟩
    · rw [ceiling, k.line]
      symm
      apply formedCeiling_congr <;> simp [state, recovery, loaderL, ceiling, time, k.time, peersL, envelope]
    · by_cases running : t.seq.state = .running
      · simp [ceilingGated, inState, running]
      · simp [ceilingGated, ceiling, k.line, formedCeiling_of_not_running (state ▸ running)]
  | passes n state why inside run tracker envelope line =>
    obtain ⟨dir, leg, recovery⟩ := run
    have onward : SameAim l t :=
      ⟨loaderL, peersL, tracker, ⟨dir, leg, recovery⟩, by rw [envelope]; exact ⟨rfl, rfl, rfl, rfl⟩⟩
    have inside' : inRun s = true := by
      rcases why with ⟨h, -⟩ | ⟨h, -⟩ <;> simp [inRun, inState, k.seq ▸ h]
    refine ⟨by rw [envelope]; exact same.envelope.1, fun _ => same.trans onward, fun _ => inside',
      by rw [envelope]; exact ⟨distA, distB⟩, ?_, fun active gated => ?_, fun terminal => ?_, fun encoder moves moving' => ?_, fun running => ?_, ?_⟩
    · by_cases running : n = .running
      · subst running
        have armed : s.seq.state = .armed := by
          rcases why with ⟨armed, -⟩ | ⟨-, h⟩
          · rw [← k.seq, armed]
          · cases h
        refine .inr ⟨.inr state, ?_⟩
        rw [envelope]
        exact k.vperm (by simp [armed])
      · left
        rw [envelope]
        simp [enterEnvelope, running]
    · exfalso
      rcases why with ⟨armed, origin⟩ | ⟨-, rfl⟩
      · rw [k.seq] at armed origin
        simp only [originGated, inState, armed, beq_self_eq_true, if_true, origin] at gated
        rcases inside with rfl | rfl | rfl <;> simp at gated
      · rw [state] at active
        simp at active
    · rw [envelope]
      simp only [enterEnvelope, gateOpen]
      rcases inside with rfl | rfl | rfl <;> simp [inRun, inState, state]
    · obtain ⟨r, tracker⟩ := tracker
      rw [envelope, tracker]
      refine ⟨?_, speed⟩
      rcases why with ⟨armed, -⟩ | ⟨-, rfl⟩
      · rw [k.seq] at armed
        simp [moving, inState, armed] at moves
      · exact k.marks encoder moves
    · rw [if_pos (state ▸ running)] at line
      exact line
    · by_cases running : n = .running
      · simp [ceilingGated, inState, state, running]
      · rw [if_neg running] at line
        simp [ceilingGated, line]
  | rests out left envelope line =>
    obtain ⟨a, envelope⟩ := envelope
    rw [k.seq] at left
    have active : ¬(t.seq.state = .armed ∨ t.seq.state = .running) := by
      rintro (h | h) <;> simp [inRun, inState, h] at out
    refine ⟨by rw [envelope]; exact same.envelope.1, fun h => ?_, fun h => by simp [out] at h,
      by rw [envelope]; exact ⟨distA, distB⟩, .inl (by rw [envelope]),
      fun h => absurd h active, fun _ => by rw [envelope, out]; rfl, fun _ _ moves => ?_, fun h => absurd (.inr h) active,
      by simp [ceilingGated, line]⟩
    · rcases h with h | h
      · exact absurd h left
      · rw [out] at h
        cases h
    · rcases (moving_iff t).mp moves with h | h <;> simp [inRun, inState, h] at out

end

end Sys2Proof.Machine
end

section
/-! PROOF. The envelope and the ceiling of a sample tick, put together (R40, R53 to R57, R104). -/

namespace Sys2Proof.Machine

section

variable {p : Profile} {s t : State}

/-- The distances judged are those of the envelope formed (R57). -/
theorem judgedDistances_congr {a : State} (loader : t.loader = a.loader)
    (distances : t.envelope.distA = a.envelope.distA ∧ t.envelope.distB = a.envelope.distB) :
    judgedDistances t = judgedDistances a := by
  simp [judgedDistances, ownDistance, isCar, role, side, loader, distances]

/-- vperm within a car's segment and its curve (R44 to R46, R53). -/
theorem permitted_bounds {x : Side} {k : Travel × Nat × Nat} (aims : k ∈ aim t p x) :
    (∀ g ∈ presentSegment p.segments k.2.2, permitted t p ≤ g.limit)
      ∧ permitted t p * permitted t p ≤
        p.vCreep * p.vCreep + 2 * t.envelope.bEff.getD 0 * (distanceTo k.1 k.2.1 k.2.2 - (p.dMargin : Int)).toNat := by
  have below : permitted t p ≤ curveLimit p (t.envelope.bEff.getD 0) k.1 k.2.1 k.2.2 :=
    (permitted_le_carValue aims).trans (carValue_le_curve aims)
  obtain ⟨segment, curve⟩ := curveLimit_bounds p (t.envelope.bEff.getD 0) k.1 k.2.1 k.2.2
  exact ⟨fun g present => below.trans (segment g present), (Nat.mul_le_mul below below).trans curve⟩

theorem arrives_iff {a : State} (distances : judgedDistances t = judgedDistances a)
    (speed : t.tracker.speed = a.tracker.speed) :
    arrives p a = true ↔ (∃ d ∈ judgedDistances t, d.natAbs ≤ p.wStop) ∧ t.tracker.speed ≤ p.vCreep := by
  simp [arrives, distances, speed]

theorem overruns_iff {a : State} (distances : judgedDistances t = judgedDistances a) :
    overruns p a = true ↔ ∃ d ∈ judgedDistances t, d < -(p.wStop : Int) := by
  simp [overruns, distances]

/-- A distance that a LOOP keeps outside the run (R155). -/
theorem keptDistance_of_loop (loop : isLoop s = true) (x : Side) (d : Option Int) :
    keptDistance s p x d = if choiceOf s x = .undecided ∨ usablePosition p (carEntry s x) = none then none else d := by
  refine if_congr ?_ rfl rfl
  simp [carPosition, loop]

/-- What the judged path forms, in the statement's terms. -/
theorem formed_vperm (f : Formed p s (aimed p (trackerWork s)) t) (seq : (trackerWork s).seq = s.seq)
    (loader : t.loader = s.loader)
    (active : t.seq.state = .armed ∨ t.seq.state = .running) (gated : originGated s = true) :
    t.envelope.vperm = (if isTerminal s = true then (if s.inputs.pins.gateShut = true then p.vLineMax else 0) else permitted t p)
      ∧ ∀ x ∈ [Side.a, Side.b], ∀ k ∈ aim t p x,
          (∀ g ∈ presentSegment p.segments k.2.2, t.envelope.vperm ≤ g.limit)
          ∧ t.envelope.vperm * t.envelope.vperm ≤
            p.vCreep * p.vCreep
              + 2 * t.envelope.bEff.getD 0 * (distanceTo k.1 k.2.1 k.2.2 - (p.dMargin : Int)).toNat := by
  obtain ⟨state, vperm⟩ := f.whole active gated
  have same := f.same (.inl state)
  have terminalV : isTerminal (trackerWork s) = isTerminal s := by simp [isTerminal, role]
  have gateV : gateShut (trackerWork s) = s.inputs.pins.gateShut := by simp [gateShut]
  have value : t.envelope.vperm =
      if isTerminal s = true then (if s.inputs.pins.gateShut = true then p.vLineMax else 0) else permitted t p := by
    rw [vperm, aimed_vperm, if_pos (by rw [seq, ← state]; exact active), terminalV, gateV, same.permitted]
  refine ⟨value, fun x _ k aims => ?_⟩
  by_cases terminal : isTerminal s = true
  · rw [aim_of_terminal (by simpa [isTerminal, role, loader] using terminal)] at aims
    simp at aims
  · rw [value, if_neg terminal]
    exact permitted_bounds aims

end

/-- Settles O15: the envelope formed before the arrival, and what the later blocks leave of it. -/
theorem sampleTickFormsEnvelopeAndCeiling : Obligations.SampleTickFormsEnvelopeAndCeiling := by
  intro p s live service due loaded floor
  have begun : s.seq.state ≠ .starting := by rintro h; simp [inService, inState, h] at service
  obtain ⟨z, taken⟩ := exec_sampleTick live due begun
  have path := tick_path (p := p) (s := s.ticked) loaded service
  obtain ⟨power, time, inputs, loader, peers, port, -⟩ := sampleWork_frame s.ticked
  refine ⟨_, taken, ?_⟩
  have effective' : effective ((sampleWork s.ticked).clocked z) p = effective (sampleWork s.ticked) p := rfl
  have overhauls' : overhauls ((sampleWork s.ticked).clocked z) p = overhauls (sampleWork s.ticked) p := rfl
  have inRun' : inRun ((sampleWork s.ticked).clocked z) = inRun (sampleWork s.ticked) := rfl
  have distance' : ∀ x, distanceOf ((sampleWork s.ticked).clocked z) p x = distanceOf (sampleWork s.ticked) p x := fun _ => rfl
  have vperm' : vpermGated ((sampleWork s.ticked).clocked z) = vpermGated (sampleWork s.ticked) := rfl
  have permitted' : permitted ((sampleWork s.ticked).clocked z) p = permitted (sampleWork s.ticked) p := rfl
  have aim' : ∀ x, aim ((sampleWork s.ticked).clocked z) p x = aim (sampleWork s.ticked) p x := fun _ => rfl
  have moving' : moving ((sampleWork s.ticked).clocked z) = moving (sampleWork s.ticked) := rfl
  have judged' : judgedDistances ((sampleWork s.ticked).clocked z) = judgedDistances (sampleWork s.ticked) := rfl
  have formed' : formedCeiling ((sampleWork s.ticked).clocked z) = formedCeiling (sampleWork s.ticked) := rfl
  have ceiling' : ceilingGated ((sampleWork s.ticked).clocked z) = ceilingGated (sampleWork s.ticked) := rfl
  simp only [State.clocked_frame, effective', overhauls', inRun', distance', vperm', permitted', aim', moving', judged',
    formed', ceiling']
  refine ⟨time, ?_⟩
  cases path with
  | tripped c listed encoder out stands run primary own slow =>
    obtain ⟨u, slow⟩ := slow
    obtain ⟨state, -, line, vperm⟩ := standsTripped_shows stands
    have outS : s.seq.state ≠ .tripped := out
    have run : inRun (sampleWork s.ticked) = false := by simp [inRun, inState, state]
    have rest : moving (sampleWork s.ticked) = false := by simp [moving, inState, state]
    have named : c ∈ [Cause.overrun, .speedSensor, .markerLost, .positionConflict, .uncommandedMotion] := listed
    have bounds := effective_bounds u floor
    have notLoop : isLoop s = false := by
      cases loop : isLoop s with
      | false => rfl
      | true => exact absurd encoder (by simp [hasEncoder_of_isLoop (s := s.ticked) loop])
    have notTerminal : isTerminal s = false := by
      simp only [hasEncoder, isDrive, isCar, Bool.or_eq_true, beq_iff_eq] at encoder
      rcases encoder with h | h
      · simp [isTerminal, show role s = .drive from h]
      · simp [isTerminal, show role s = .car from h]
    rw [slow, vperm, state, run, rest]
    refine ⟨bounds.1, bounds.2, rfl, fun h => absurd h.symm outS, by simp, by simp [notLoop], Nat.zero_le _,
      by simp [vpermGated, vperm], by simp, by simp [notTerminal], by simp, fun _ _ _ => ⟨rfl, c, named, primary, by simpa using own⟩,
      by simp, by simp [ceilingGated, line], power, inputs, loader, peers, port⟩
  | judged l x seq ceiling within clad outcome ended =>
    have f := formed_of_final (aimed_of_clad seq clad) (tick_final outcome ended) loader peers time
    obtain ⟨slow, overhauled⟩ := aimed_deceleration p (trackerWork s.ticked)
    have distances := judgedDistances_congr (t := sampleWork s.ticked) (a := aimed p (trackerWork s.ticked)) (by simp [loader])
      f.distances
    have bEff := f.deceleration.trans slow
    have bounds := effective_bounds (aimed p (trackerWork s.ticked)) floor
    have values := formed_vperm (s := s.ticked) f seq loader
    refine ⟨by rw [bEff]; exact bounds.1, by rw [bEff]; exact bounds.2, by rw [bEff]; rfl, fun state => ?_, fun other run => ?_,
      fun loop out => ?_, ?_, ?_, fun active gated => values active gated, fun terminal => ?_,
      fun encoder moves moves' => ?_, fun encoder moves past => ?_, f.line, fun _ => f.gated, power, inputs, loader, peers, port⟩
    · have same := f.same (.inl state)
      rw [bEff, same.effective, same.overhauls]
      exact ⟨rfl, same.envelope.2.1.trans overhauled⟩
    · have same := f.same (.inr run)
      have runS : inRun s.ticked = true := f.inside run
      obtain ⟨distA, distB⟩ := aimed_distances (p := p) (v := trackerWork s.ticked) (by simpa [isTerminal, role] using other)
        (by simpa [inRun, inState, seq] using runS)
      rw [f.distances.1, f.distances.2, distA, distB, same.distanceOf, same.distanceOf]
      exact ⟨rfl, rfl⟩
    · have loopS : isLoop s.ticked = true := loop
      have outS : inRun s.ticked = false := out
      have work := trackerWork_of_no_encoder (hasEncoder_of_isLoop loopS)
      rw [f.distances.1, f.distances.2, work, (aimed_kept loopS outS).1, (aimed_kept loopS outS).2]
      exact ⟨keptDistance_of_loop loop .a _, keptDistance_of_loop loop .b _⟩
    · rcases f.vperm with zero | ⟨-, same⟩
      · rw [zero]
        exact Nat.zero_le _
      · rw [same, aimed_vperm]
        split
        · split
          · split
            · exact le_refl _
            · exact Nat.zero_le _
          · exact permitted_le _ p
        · exact Nat.zero_le _
    · rcases f.vperm with zero | ⟨active, -⟩
      · simp [vpermGated, zero]
      · rcases active with h | h <;> simp [vpermGated, inState, h]
    · have gate := f.gate terminal
      rw [aimed_gateOpen (by simpa [isTerminal, role] using terminal)] at gate
      rw [gate]
      cases run : inRun (sampleWork s.ticked) with
      | false => rfl
      | true =>
        have runS : inRun s.ticked = true := f.inside run
        have runV : inRun (trackerWork s.ticked) = true := by simpa [inRun, inState, seq] using runS
        simp [runV, gateShut]
    · obtain ⟨mark, speed⟩ := f.mark encoder moves moves'
      refine ⟨by rw [mark]; exact arrives_iff distances speed, fun d member => ?_⟩
      by_contra! past
      exact absurd ((within encoder moves).symm.trans ((overruns_iff distances).mpr ⟨d, member, past⟩)) Bool.false_ne_true
    · exact absurd ((within encoder moves).symm.trans ((overruns_iff distances).mpr past)) Bool.false_ne_true

end Sys2Proof.Machine
end

section
/-! PROOF. The steps at the exit from STARTING: the detectors' rises and the ESTOP input (R15, R148 to R150, R167). -/

namespace Sys2Proof.Machine

/-! ## The start of the last attempt (R74) -/

section

variable (s : State)

@[simp] theorem wakeTransmitter_lastAttempt : (wakeTransmitter s).access.lastAttempt = s.access.lastAttempt := by
  unfold wakeTransmitter
  split <;> rfl

@[simp] theorem requestBeacon_lastAttempt : (requestBeacon s).access.lastAttempt = s.access.lastAttempt :=
  wakeTransmitter_lastAttempt _

@[simp] theorem requestAnnounce_lastAttempt : (requestAnnounce s).access.lastAttempt = s.access.lastAttempt :=
  wakeTransmitter_lastAttempt _

@[simp] theorem setClass_lastAttempt (c : BeaconClass) : (setClass c s).access.lastAttempt = s.access.lastAttempt := by
  unfold setClass
  split
  · rfl
  · exact requestBeacon_lastAttempt _

@[simp] theorem endStandDown_lastAttempt (o : StandDownOutcome) :
    (endStandDown o s).access.lastAttempt = s.access.lastAttempt := by
  unfold endStandDown
  split
  · rfl
  · exact requestBeacon_lastAttempt _

@[simp] theorem wakeEvent_lastAttempt : (wakeEvent s).access.lastAttempt = s.access.lastAttempt := by
  unfold wakeEvent
  dsimp only
  split
  · rfl
  · split <;> simp

@[simp] theorem enterClass_lastAttempt (prior n : NodeState) :
    (enterClass prior n s).access.lastAttempt = s.access.lastAttempt := by
  unfold enterClass
  cases n <;> cases prior <;> simp

@[simp] theorem enterState_lastAttempt (n : NodeState) : (enterState n s).access.lastAttempt = s.access.lastAttempt := by
  unfold enterState
  dsimp only
  split <;> simp

@[simp] theorem raiseCause_lastAttempt (c : Cause) : (raiseCause c s).access.lastAttempt = s.access.lastAttempt := by
  unfold raiseCause
  split <;> simp [appendRecord]

@[simp] theorem setTrack_lastAttempt (x : Side) (k : Track) :
    (setTrack x k s).access.lastAttempt = s.access.lastAttempt := by
  unfold setTrack
  dsimp only
  split
  · cases x <;> rfl
  · cases x <;> exact requestBeacon_lastAttempt _

end

/-! ## What the steps leave alone -/

/-- The causes that the exit can raise. -/
def exitCauses : List Cause := [.loopSequence, .wrongTrack, .stopInput]

/-- A step of the exit: it may trip the node, and moves nothing else of what the exit shows. -/
structure Exits (s t : State) : Prop where
  raises : Raises exitCauses s t
  asked : beaconAsked s = true → beaconAsked t = true
  last : t.access.lastAttempt = s.access.lastAttempt
  tracker : ∃ r, t.tracker = { s.tracker with stillRef := r }
  frame : t.power = s.power ∧ t.time = s.time ∧ t.inputs = s.inputs ∧ t.loader = s.loader ∧ t.peers = s.peers
    ∧ t.port = s.port ∧ t.pending = s.pending

theorem Exits.refl (s : State) : Exits s s :=
  ⟨.refl _ s, id, rfl, ⟨_, rfl⟩, rfl, rfl, rfl, rfl, rfl, rfl, rfl⟩

theorem Exits.trans {s t u : State} (one : Exits s t) (two : Exits t u) : Exits s u := by
  obtain ⟨r, tracker⟩ := one.tracker
  obtain ⟨q, tracker'⟩ := two.tracker
  obtain ⟨power, time, inputs, loader, peers, port, pending⟩ := one.frame
  obtain ⟨power', time', inputs', loader', peers', port', pending'⟩ := two.frame
  exact ⟨one.raises.trans two.raises, fun asked => two.asked (one.asked asked), two.last.trans one.last,
    ⟨q, by rw [tracker', tracker]⟩, power'.trans power, time'.trans time, inputs'.trans inputs, loader'.trans loader,
    peers'.trans peers, port'.trans port, pending'.trans pending⟩

section

variable {s : State}

theorem exits_raiseCause {c : Cause} (listed : c ∈ exitCauses) : Exits s (raiseCause c s) :=
  ⟨raises_raiseCause listed s, beaconAsked_raiseCause, by simp, raiseCause_tracker c s, by simp⟩

theorem exits_setTrack (x : Side) (k : Track) : Exits s (setTrack x k s) := by
  refine ⟨.of_blocks (by simp) (by simp) (by simp) (by simp) (by simp) (by simp) (by simp) (by simp) ?_,
    (clad_setTrack x k s).asked, by simp, ⟨s.tracker.stillRef, by simp⟩, by simp⟩
  exact (clad_setTrack x k s).asked

theorem exits_raisedFor {c : Option Cause} (listed : ∀ x ∈ c, x ∈ exitCauses) : Exits s (raisedFor c s) := by
  cases c with
  | none => exact .refl s
  | some x => exact exits_raiseCause (listed x rfl)

theorem riseCause_listed (p : Profile) (d : Detector) : ∀ x ∈ riseCause p d s, x ∈ exitCauses := by
  intro x cause
  unfold riseCause judgeRise at cause
  dsimp only at cause
  (repeat' split at cause) <;> simp_all [exitCauses]

theorem exits_takeRise (p : Profile) (d : Detector) : Exits s (takeRise p d s) := by
  rw [takeRise_eq]
  exact (exits_raisedFor (riseCause_listed p d)).trans (exits_setTrack _ _)

/-- A detector's rise at the exit, where its input shows it active (R149). -/
def riseIf (p : Profile) (d : Detector) (t : State) : State :=
  if detectorPin t.inputs.pins d then takeRise p d t else t

theorem exits_riseIf (p : Profile) (d : Detector) : Exits s (riseIf p d s) := by
  unfold riseIf
  split
  · exact exits_takeRise p d
  · exact .refl s

/-- The ESTOP input at the exit (R167). -/
theorem assertEstop_eq (begun : s.seq.state ≠ .starting) (released : s.trips.estop = false) :
    assertEstop s =
      if s.inputs.pins.estop = true then raiseCause .stopInput (wakeEvent { s with trips := { s.trips with estop := true } })
      else s := by
  unfold assertEstop
  refine if_congr ?_ rfl rfl
  simp [inState, begun, released]

theorem exits_wakeEvent : Exits s (wakeEvent s) := by
  refine ⟨.of_blocks (by simp) (by simp) (by simp) (by simp) (by simp) (by simp) (by simp) (fun run => ?_)
    beaconAsked_wakeEvent, beaconAsked_wakeEvent, by simp, ⟨s.tracker.stillRef, by simp⟩, by simp⟩
  cases taken : wakes s with
  | true => exact (wakeEvent_cls_of_wakes taken).1
  | false => rwa [wakeEvent_of_not_wakes taken]

theorem exits_assertEstop : Exits s (assertEstop s) := by
  unfold assertEstop
  split
  · have taken : Exits s { s with trips := { s.trips with estop := true } } :=
      ⟨⟨fun _ => id, rfl, id, .inl ⟨rfl, rfl, rfl, rfl, rfl, rfl⟩⟩, id, rfl, ⟨_, rfl⟩, rfl, rfl, rfl, rfl, rfl, rfl, rfl⟩
    exact taken.trans (exits_wakeEvent.trans (exits_raiseCause (by simp [exitCauses])))
  · exact .refl s

end

end Sys2Proof.Machine
end

section
/-! PROOF. A loaded node's exit from STARTING (R15, R28, R35, R141, R148 to R150, R167). -/

namespace Sys2Proof.Machine

/-! ## The rises of one track from a fresh start (R149, R150) -/

section

variable {p : Profile} {t : State} {x : Side}

/-- With no peer heard no car's position gives a cause (R152). -/
theorem riseCause_of_silent (silent : t.peers.all (fun e => e.fresh == .empty) = true) (d : Detector) :
    riseCause p d t = if riseOutOfSequence (track t.loop d.track) = true then some .loopSequence else none := by
  have unknown : ∀ y, loopCarPosition t p y = none := by
    intro y
    unfold loopCarPosition usablePosition
    cases entry : carEntry t y with
    | none => rfl
    | some e =>
      have fresh := List.all_eq_true.mp silent e (List.mem_of_find?_eq_some entry)
      simp only [beq_iff_eq] at fresh
      simp [heard, fresh]
  simp [riseCause, judgeRise, unknown, nearDetector]

/-- A track on which one car enters (R150). -/
def enteringAt (e : LoopEnd) : Track := { occ := .entering, last := some e, unconfirmed := true }

/-- The first rise on a track as the start left it (R150). -/
theorem takeRise_of_start (silent : t.peers.all (fun e => e.fresh == .empty) = true) {e : LoopEnd}
    (fresh : track t.loop x = Track.start) : takeRise p { track := x, atEnd := e } t = setTrack x (enteringAt e) t := by
  have quiet : riseCause p { track := x, atEnd := e } t = none := by
    rw [riseCause_of_silent silent]
    simp only [fresh]
    rfl
  rw [takeRise_eq, quiet]
  simp only [fresh]
  rfl

/-- The second rise on a track is out of its sequence (R150, R151). -/
theorem takeRise_of_entering (silent : t.peers.all (fun e => e.fresh == .empty) = true) {e : LoopEnd}
    (entered : track t.loop x = enteringAt .low) (low : active t x .low = true) (up : active t x .up = true) :
    takeRise p { track := x, atEnd := e } t = setTrack x (enteringAt e) (raiseCause .loopSequence t) := by
  have fault : riseCause p { track := x, atEnd := e } t = some .loopSequence := by
    rw [riseCause_of_silent silent]
    simp only [entered]
    rfl
  rw [takeRise_eq, fault]
  simp only [entered, raisedFor_some]
  have both : riseTrack t { track := x, atEnd := e } (enteringAt .low) = enteringAt e := by
    simp [riseTrack, enteringAt, trackFromDetectors, low, up]
  rw [both]

/-- The rises of one track, LOW before UP (R149). -/
def trackRises (p : Profile) (x : Side) (t : State) : State :=
  riseIf p { track := x, atEnd := .up } (riseIf p { track := x, atEnd := .low } t)

/-- The track after its rises. -/
def risenTrack (low up : Bool) : Track := match low, up with
  | true, false => enteringAt .low
  | _, true => enteringAt .up
  | false, false => Track.start

/-- What the rises of one track leave, with no peer heard and the track as the start left it. -/
structure Risen (x : Side) (t w : State) : Prop where
  own : track w.loop x = risenTrack (active t x .low) (active t x .up)
  other : track w.loop (otherSide x) = track t.loop (otherSide x)
  levels : ∀ y e, active w y e = active t y e
  outcome : if active t x .low = true ∧ active t x .up = true then
      w.seq.state = .tripped ∧ Cause.loopSequence ∈ w.trips.own
    else w.seq = t.seq ∧ w.trips = t.trips

theorem active_withTrack (y : Side) (e : LoopEnd) (k : Track) (s : State) : active (setTrack x k s) y e = active s y e := by
  simp [active]

theorem trackRises_risen (silent : t.peers.all (fun e => e.fresh == .empty) = true) (service : inService t = true)
    (fresh : track t.loop x = Track.start) (shown : ∀ e, active t x e = detectorPin t.inputs.pins { track := x, atEnd := e }) :
    Risen x t (trackRises p x t) := by
  have notOther : otherSide x ≠ x := otherSide_ne x
  cases low : active t x .low with
  | false =>
    have still : riseIf p { track := x, atEnd := .low } t = t := if_neg (by simp [← shown, low])
    cases up : active t x .up with
    | false =>
      have same : trackRises p x t = t := by
        unfold trackRises
        rw [still]
        exact if_neg (by simp [← shown, up])
      rw [same]
      exact ⟨by rw [fresh, low, up]; rfl, rfl, fun _ _ => rfl, by simp [low]⟩
    | true =>
      have rises : trackRises p x t = setTrack x (enteringAt .up) t := by
        unfold trackRises
        rw [still, ← takeRise_of_start (p := p) silent fresh]
        exact if_pos (by rw [← shown, up])
      rw [rises]
      exact ⟨by rw [low, up]; simp [risenTrack], by simp [notOther], fun y e => active_withTrack y e _ t, by simp [low]⟩
  | true =>
    have first : riseIf p { track := x, atEnd := .low } t = setTrack x (enteringAt .low) t := by
      rw [← takeRise_of_start (p := p) silent fresh]
      exact if_pos (by rw [← shown, low])
    cases up : active t x .up with
    | false =>
      have rises : trackRises p x t = setTrack x (enteringAt .low) t := by
        unfold trackRises
        rw [first]
        exact if_neg (by simp [← shown, up])
      rw [rises]
      exact ⟨by rw [low, up]; simp [risenTrack], by simp [notOther], fun y e => active_withTrack y e _ t, by simp [up]⟩
    | true =>
      have rises : trackRises p x t =
          setTrack x (enteringAt .up) (raiseCause .loopSequence (setTrack x (enteringAt .low) t)) := by
        unfold trackRises
        rw [first, ← takeRise_of_entering (p := p) (by simpa using silent) (by simp) (by simp [active_withTrack, low])
          (by simp [active_withTrack, up])]
        exact if_pos (by simp [← shown, up])
      obtain ⟨tripped, own⟩ := raised_in_service (c := .loopSequence) (s := setTrack x (enteringAt .low) t)
        (by simpa [inService, inState] using service)
      rw [rises]
      refine ⟨by rw [low, up]; simp [risenTrack], by simp [notOther], fun y e => by simp [active], ?_⟩
      rw [if_pos ⟨low, up⟩]
      simp only [setTrack_frame]
      exact ⟨tripped, own ▸ mem_addCause _ _⟩

theorem exits_trackRises (p : Profile) (x : Side) (t : State) : Exits t (trackRises p x t) :=
  (exits_riseIf p _).trans (exits_riseIf p _)

end

/-! ## The LOOP's rises (R148, R149) -/

section

variable {p : Profile} {s : State}

/-- The monitor with every level as its input shows it (R148). -/
def LoopMonitor.shown (i : Pins) (m : LoopMonitor) : LoopMonitor :=
  { m with
    aLow := { level := i.aLow, differing := 0 }, aUp := { level := i.aUp, differing := 0 }
    bLow := { level := i.bLow, differing := 0 }, bUp := { level := i.bUp, differing := 0 } }

theorem takeLevels_eq (s : State) : takeLevels s = { s with loop := s.loop.shown s.inputs.pins } := rfl

theorem startRises_of_loop (loop : isLoop s = true) :
    startRises p s = trackRises p .b (trackRises p .a (takeLevels s)) := if_pos loop

theorem startRises_of_other (other : isLoop s = false) : startRises p s = s := if_neg (by simp [other])

theorem exits_takeLevels : Exits s (takeLevels s) := by
  rw [takeLevels_eq]
  generalize s.loop.shown s.inputs.pins = m
  exact ⟨.of_blocks rfl rfl rfl rfl rfl rfl id id id, id, rfl, ⟨s.tracker.stillRef, rfl⟩, rfl, rfl, rfl, rfl, rfl, rfl, rfl⟩

theorem exits_startRises : Exits s (startRises p s) := by
  cases loop : isLoop s with
  | true =>
    rw [startRises_of_loop loop]
    exact exits_takeLevels.trans ((exits_trackRises p .a _).trans (exits_trackRises p .b _))
  | false =>
    rw [startRises_of_other loop]
    exact .refl s

theorem riseIf_levels (d : Detector) (t : State) (y : Side) (e : LoopEnd) : active (riseIf p d t) y e = active t y e := by
  unfold riseIf
  split
  · rw [takeRise_eq]
    simp [active]
  · rfl

theorem startRises_levels (loop : isLoop s = true) (y : Side) (e : LoopEnd) :
    active (startRises p s) y e = detectorPin s.inputs.pins { track := y, atEnd := e } := by
  rw [startRises_of_loop loop, trackRises, trackRises]
  simp only [riseIf_levels]
  cases y <;> cases e <;> rfl

end

end Sys2Proof.Machine
end

section
/-! PROOF. A loaded node's exit from STARTING, put together (R15, R22, R28, R35, R74, R141, R149, R167). -/

namespace Sys2Proof.Machine

/-! ## The state entered (R15) -/

/-- The state in which the exit has entered its node state, taken the inputs and begun the beacon schedule. -/
def State.begun (p : Profile) (s : State) : State :=
  firstGate (beginBeacons (takeInputs (enterState (exitState p (fold p s.exiting)) (fold p s.exiting))))

theorem leaveStarting_of_loaded {p : Profile} {s : State} (starting : s.seq.state = .starting)
    (due : s.time.sampleDue = true) (ended : s.loader.stage = .ended) (loaded : s.loader.profile = some p) :
    leaveStarting s = assertEstop (startRises p (s.begun p)) := by
  simp [leaveStarting, State.begun, State.exiting, inState, starting, due, ended, loaded]

theorem firstGate_eq (s : State) : ∃ g n, firstGate s = { s with tracker := { s.tracker with gateRunning := g, gateCount := n } } := by
  unfold firstGate
  split
  · exact ⟨_, _, rfl⟩
  · exact ⟨s.tracker.gateRunning, s.tracker.gateCount, rfl⟩

/-- The state entered, by role (R15). -/
theorem exitState_eq (p : Profile) (s : State) :
    exitState p s =
      if hasEncoder s = true ∧ ¬(located s = true ∧ (ownStops s p).any
        (fun k => decide (((k.position : Int) - positionCm s p).natAbs ≤ p.wStop)) = true) then .hold
      else .dwell := by
  unfold exitState stopAtExit stopNear
  rw [List.isSome_find?]
  cases hasEncoder s with
  | false => simp
  | true => cases located s <;> cases (ownStops s p).any _ <;> simp

section

variable {p : Profile} {s : State}

/-- What the exit has moved before the detectors and the ESTOP input are judged. -/
structure Begun (p : Profile) (s g : State) : Prop where
  state : g.seq.state = exitState p (fold p s.exiting)
  applied : allApplied g.brakes = true
  zero : g.ceiling.line = 0 ∧ g.envelope.vperm = 0
  trips : g.trips = s.trips
  loop : g.loop = s.loop
  last : g.access.lastAttempt = some s.time.now
  asked : beaconAsked g = true
  counts : g.tracker.counts = (fold p s.exiting).tracker.counts ∧ g.tracker.delta = (fold p s.exiting).tracker.delta
  door : doorJudged false p g = true
  frame : g.power = s.power ∧ g.time = { s.time with sampleDue := false }
    ∧ g.inputs = { s.inputs with
        previous := s.inputs.pins, doorTaken := s.inputs.pins.doorShut, gateTaken := s.inputs.pins.gateShut }
    ∧ g.loader = s.loader ∧ g.peers = s.peers ∧ g.port = s.port ∧ g.pending = s.pending

theorem begun_of_loaded (starting : s.seq.state = .starting) (loaded : s.loader.profile = some p)
    (moves : standstill s = false) : Begun p s (s.begun p) := by
  have seqU : (fold p s.exiting).seq = s.seq := by simp [State.exiting]
  have loadedU : (fold p s.exiting).loader.profile = some p := by simpa [State.exiting] using loaded
  have historyU : standstill (fold p s.exiting) = false := by
    unfold fold
    split <;> exact moves
  have tripsU : (fold p s.exiting).trips = s.trips := by simp [State.exiting]
  have frameU : (fold p s.exiting).power = s.power ∧ (fold p s.exiting).time = { s.time with sampleDue := false }
      ∧ (fold p s.exiting).inputs = s.inputs ∧ (fold p s.exiting).loader = s.loader ∧ (fold p s.exiting).peers = s.peers
      ∧ (fold p s.exiting).port = s.port ∧ (fold p s.exiting).pending = s.pending ∧ (fold p s.exiting).loop = s.loop := by
    simp [State.exiting]
  unfold State.begun
  generalize folded : fold p s.exiting = u at *
  have rests := exitState_rests p u
  generalize entered : exitState p u = n at *
  obtain ⟨r, tracker⟩ := enterState_tracker_of_no_reference (n := n) (s := u) (.inr (.inr historyU))
  have door := doorJudged_enterState (m := false) n loadedU fun _ _ => by rw [seqU, starting]; rfl
  have applied : allApplied (enterState n u).brakes = true :=
    allApplied_enterState _ (by rcases rests with rfl | rfl <;> simp)
  have line : (enterState n u).ceiling.line = 0 :=
    enterState_line_of_not_running _ (by rcases rests with rfl | rfl <;> simp)
  have vperm : (enterState n u).envelope.vperm = 0 := by
    rw [enterState_vperm, if_neg (by rcases rests with rfl | rfl <;> simp)]
  obtain ⟨tx, begins⟩ := beginBeacons_eq (takeInputs (enterState n u))
  obtain ⟨g, c, gates⟩ := firstGate_eq (beginBeacons (takeInputs (enterState n u)))
  obtain ⟨power, time, inputs, loader, peers, port, pending, loop⟩ := frameU
  have state := enterState_state n u
  have trips : (enterState n u).trips = s.trips := by simp [tripsU]
  have frame : (enterState n u).power = s.power ∧ (enterState n u).time = { s.time with sampleDue := false }
      ∧ (enterState n u).inputs = s.inputs ∧ (enterState n u).loader = s.loader ∧ (enterState n u).peers = s.peers
      ∧ (enterState n u).port = s.port ∧ (enterState n u).pending = s.pending ∧ (enterState n u).loop = s.loop := by
    simp [power, time, inputs, loader, peers, port, pending, loop]
  rw [gates, begins]
  generalize enterState n u = e at *
  obtain ⟨power, time, inputs, loader, peers, port, pending, loop⟩ := frame
  refine ⟨?_, applied, ⟨line, vperm⟩, trips, loop, ?_, rfl, ?_, ?_, power, time, ?_, loader, peers, port, pending⟩
  · rw [folded, entered]
    exact state
  · show some e.time.now = some s.time.now
    rw [time]
  · rw [folded]
    show e.tracker.counts = u.tracker.counts ∧ e.tracker.delta = u.tracker.delta
    rw [tracker]
    exact ⟨rfl, rfl⟩
  · rw [← door]
    exact doorJudged_congr rfl rfl rfl fun _ => rfl
  · show (takeInputs e).inputs = _
    simp [takeInputs, inputs]

/-! ## The exit -/

/-- What the exit leaves: the state entered stands, or the node is TRIPPED. -/
structure Left (p : Profile) (s t : State) : Prop where
  state : t.seq.state = exitState p (fold p s.exiting) ∨ t.seq.state = .tripped
  outputs : allApplied t.brakes = true ∧ t.ceiling.line = 0 ∧ t.envelope.vperm = 0
  last : t.access.lastAttempt = some s.time.now
  asked : beaconAsked t = true
  counts : t.tracker.counts = (fold p s.exiting).tracker.counts ∧ t.tracker.delta = (fold p s.exiting).tracker.delta
  door : doorJudged false p t = true
  frame : t.power = s.power ∧ t.time = { s.time with sampleDue := false }
    ∧ t.inputs = { s.inputs with
        previous := s.inputs.pins, doorTaken := s.inputs.pins.doorShut, gateTaken := s.inputs.pins.gateShut }
    ∧ t.loader = s.loader ∧ t.peers = s.peers ∧ t.port = s.port ∧ t.pending = s.pending

theorem left_of_begun {g t : State} (b : Begun p s g) (e : Exits g t) : Left p s t := by
  obtain ⟨r, tracker⟩ := e.tracker
  obtain ⟨power, time, inputs, loader, peers, port, pending⟩ := b.frame
  obtain ⟨power', time', inputs', loader', peers', port', pending'⟩ := e.frame
  have counts : t.tracker.counts = g.tracker.counts := by rw [tracker]
  have frame := And.intro (power'.trans power) <| And.intro (time'.trans time) <| And.intro (inputs'.trans inputs) <|
    And.intro (loader'.trans loader) <| And.intro (peers'.trans peers) <| And.intro (port'.trans port) (pending'.trans pending)
  have last := e.last.trans b.last
  have asked := e.asked b.asked
  have moved : t.tracker.counts = (fold p s.exiting).tracker.counts ∧ t.tracker.delta = (fold p s.exiting).tracker.delta :=
    ⟨counts.trans b.counts.1, by rw [tracker]; exact b.counts.2⟩
  rcases e.raises.outcome with ⟨seq, brakes, envelope, ceiling, -, -⟩ | ⟨-, -, -, stands, -⟩
  · refine ⟨.inl (by rw [seq, b.state]), ⟨by rw [brakes, b.applied], by rw [ceiling, b.zero.1], by rw [envelope, b.zero.2]⟩, last,
      asked, moved, ?_, frame⟩
    rw [doorJudged_congr loader' peers' seq fun _ => counts, b.door]
  · obtain ⟨state, applied, line, vperm⟩ := standsTripped_shows stands
    exact ⟨.inr state, ⟨applied, line, vperm⟩, last, asked, moved, doorJudged_of_not_dwell (by simp [state]), frame⟩

/-! ### The ESTOP input -/

theorem riseIf_estop (d : Detector) (t : State) : (riseIf p d t).trips.estop = t.trips.estop := by
  unfold riseIf
  split
  · rw [takeRise_eq]
    simp only [setTrack_frame]
    unfold raisedFor
    cases riseCause p d t with
    | none => rfl
    | some c => exact raiseCause_estop c t
  · rfl

theorem startRises_estop (t : State) : (startRises p t).trips.estop = t.trips.estop := by
  cases loop : isLoop t with
  | true =>
    rw [startRises_of_loop loop, trackRises, trackRises]
    simp only [riseIf_estop]
    rfl
  | false => rw [startRises_of_other loop]

theorem exits_begun (p : Profile) (g : State) : Exits g (assertEstop (startRises p g)) := exits_startRises.trans exits_assertEstop

/-- The exit's ESTOP judgement (R167). -/
theorem estop_of_begun {g : State} (b : Begun p s g) (released : s.trips.estop = false) :
    (s.inputs.pins.estop = false → assertEstop (startRises p g) = startRises p g)
      ∧ (s.inputs.pins.estop = true → (assertEstop (startRises p g)).seq.state = .tripped
        ∧ (assertEstop (startRises p g)).trips.estop = true
        ∧ Cause.stopInput ∈ (assertEstop (startRises p g)).trips.own) := by
  have rises := exits_startRises (p := p) (s := g)
  have pins : (startRises p g).inputs.pins = s.inputs.pins := by rw [rises.frame.2.2.1, b.frame.2.2.1]
  have service : inService (startRises p g) = true := by
    rw [rises.raises.inService]
    rcases exitState_rests p (fold p s.exiting) with h | h <;> simp [inService, inState, b.state, h]
  have begun : (startRises p g).seq.state ≠ .starting := ((inService_iff _).mp service).1
  have off : (startRises p g).trips.estop = false := by rw [startRises_estop, b.trips, released]
  rw [assertEstop_eq begun off, pins]
  refine ⟨fun up => if_neg (by simp [up]), fun down => ?_⟩
  rw [if_pos down]
  obtain ⟨tripped, own⟩ := raised_in_service (c := .stopInput)
    (s := wakeEvent { startRises p g with trips := { (startRises p g).trips with estop := true } })
    (by simpa [inService, inState] using service)
  refine ⟨tripped, ?_, own ▸ mem_addCause _ _⟩
  rw [raiseCause_estop]
  simp

/-! ### The LOOP -/

theorem exitState_of_no_encoder (none : hasEncoder s = false) : exitState p s = .dwell := by
  rw [exitState_eq, if_neg (by simp [none])]

/-- The rises of both tracks at a LOOP that has heard nobody (R149, R150). -/
theorem rises_of_begun {g : State} (b : Begun p s g) (loop : isLoop s = true) (fresh : s.loop = State.reset.loop)
    (silent : s.peers.all (fun e => e.fresh == .empty) = true) :
    (∀ x, track (startRises p g).loop x =
        risenTrack (detectorPin s.inputs.pins { track := x, atEnd := .low }) (detectorPin s.inputs.pins { track := x, atEnd := .up }))
      ∧ (if (s.inputs.pins.aLow = true ∧ s.inputs.pins.aUp = true) ∨ (s.inputs.pins.bLow = true ∧ s.inputs.pins.bUp = true) then
          (startRises p g).seq.state = .tripped ∧ Cause.loopSequence ∈ (startRises p g).trips.own
        else (startRises p g).seq = g.seq ∧ (startRises p g).trips = g.trips) := by
  obtain ⟨-, -, inputs, loader, peers, -, -⟩ := b.frame
  have pins : g.inputs.pins = s.inputs.pins := by rw [inputs]
  have loopG : isLoop g = true := (isLoop_congr loader).trans loop
  have service : inService g = true := by
    rcases exitState_rests p (fold p s.exiting) with h | h <;> simp [inService, inState, b.state, h]
  have started : ∀ x, track g.loop x = Track.start := by
    intro x
    rw [b.loop, fresh]
    cases x <;> rfl
  rw [startRises_of_loop loopG]
  have levels : ∀ y e, active (takeLevels g) y e = detectorPin s.inputs.pins { track := y, atEnd := e } := by
    intro y e
    rw [← pins]
    cases y <;> cases e <;> rfl
  have tracks : ∀ x, track (takeLevels g).loop x = Track.start := by
    intro x
    rw [← started x]
    cases x <;> rfl
  have taken := exits_takeLevels (s := g)
  have same : (takeLevels g).seq = g.seq ∧ (takeLevels g).trips = g.trips := ⟨rfl, rfl⟩
  generalize takeLevels g = u at *
  have silentU : u.peers.all (fun e => e.fresh == .empty) = true := by rw [taken.frame.2.2.2.2.1, peers, silent]
  have pinsU : u.inputs.pins = s.inputs.pins := by rw [taken.frame.2.2.1, pins]
  have serviceU : inService u = true := taken.raises.inService.trans service
  have first := trackRises_risen (p := p) (x := .a) silentU serviceU (tracks .a) fun e => by rw [levels, pinsU]
  have onward := exits_trackRises p .a u
  generalize trackRises p .a u = v at *
  have second := trackRises_risen (p := p) (x := .b) (by rw [onward.frame.2.2.2.2.1, silentU])
    (onward.raises.inService.trans serviceU) (first.other.trans (tracks .b)) fun e => by
      rw [first.levels, levels, onward.frame.2.2.1, pinsU]
  have last := exits_trackRises p .b v
  generalize trackRises p .b v = w at *
  have outA := first.outcome
  have outB := second.outcome
  rw [levels, levels] at outA
  rw [first.levels, first.levels, levels, levels] at outB
  refine ⟨fun x => ?_, ?_⟩
  · cases x with
    | a =>
      have other : track w.loop .a = track v.loop .a := second.other
      rw [other, first.own, levels, levels]
    | b => rw [second.own, first.levels, first.levels, levels, levels]
  · split
    · next pairs =>
      rcases pairs with pair | pair
      · rw [if_pos (by exact pair)] at outA
        exact ⟨last.raises.tripped outA.1, last.raises.own _ outA.2⟩
      · rwa [if_pos (by exact pair)] at outB
    · next single =>
      simp only [not_or] at single
      rw [if_neg (by exact single.1)] at outA
      rw [if_neg (by exact single.2)] at outB
      exact ⟨outB.1.trans (outA.1.trans same.1), outB.2.trans (outA.2.trans same.2)⟩

end

/-- Settles O11: the state entered, the detectors' rises, then the ESTOP input. -/
theorem loadedNodeLeavesStarting : Obligations.LoadedNodeLeavesStarting := by
  intro p s live starting due ended loaded moves released
  obtain ⟨z, taken⟩ := act_clocked leaveStarting live
  rw [leaveStarting_of_loaded starting due ended loaded] at taken
  have b := begun_of_loaded starting loaded moves
  obtain ⟨calm, stopped⟩ := estop_of_begun b released
  have left := left_of_begun b (exits_begun p (s.begun p))
  have onward : Exits (startRises p (s.begun p)) (assertEstop (startRises p (s.begun p))) := exits_assertEstop
  have loopT : (assertEstop (startRises p (s.begun p))).loop = (startRises p (s.begun p)).loop := by simp
  have loopG : isLoop (s.begun p) = isLoop s := isLoop_congr b.frame.2.2.2.1
  have pinsG : (s.begun p).inputs.pins = s.inputs.pins := by rw [b.frame.2.2.1]
  have noEncoder : hasEncoder s = false → exitState p (fold p s.exiting) = .dwell := fun none =>
    exitState_of_no_encoder ((hasEncoder_congr (by simp [State.exiting])).trans none)
  have rises : isLoop s = false → startRises p (s.begun p) = s.begun p := fun other =>
    startRises_of_other (loopG.trans other)
  have settled : isLoop s = false → (assertEstop (startRises p (s.begun p))).seq.state =
      if s.inputs.pins.estop = true then .tripped else exitState p (fold p s.exiting) := by
    intro other
    split
    · next down => exact (stopped down).1
    · next up => rw [calm (by simpa using up), rises other, b.state]
  have levels := fun loop : isLoop s = true => startRises_levels (p := p) (s := s.begun p) (loopG.trans loop)
  have silence := fun (loop : isLoop s = true) fresh silent => rises_of_begun b loop fresh silent
  refine ⟨_, taken, ?_⟩
  generalize startRises p (s.begun p) = r at *
  generalize assertEstop r = t at *
  obtain ⟨power, time, inputs, loader, peers, port, pending⟩ := left.frame
  refine ⟨?_, ?_⟩
  · apply State.eq_of_fields <;> simp [power, time, inputs, loader, peers, port, pending]
  simp only [State.clocked_frame, beaconAsked_clocked, doorJudged_clocked]
  refine ⟨fun encoder => ?_, fun terminal => ?_, fun loop => ?_, fun loop fresh silent => ?_, fun down => ?_, fun loop => ?_,
    fun other => ?_, fun other up => ?_, left.last, left.asked, left.door, left.outputs⟩
  · have other : isLoop s = false := by
      by_contra loop
      rw [hasEncoder_of_isLoop (by simpa using loop)] at encoder
      cases encoder
    have folded := fold_of_encoder (p := p) (s := s.exiting) encoder
    have place : positionCm (t.clocked z) p = positionCm (fold p s.exiting) p := by
      simp [positionCm, cpm, isDrive, role, left.counts, loader, State.exiting]
    have known : located (fold p s.exiting) = located s := by rw [folded]; rfl
    have stops : ownStops (fold p s.exiting) p = ownStops s p := by rw [folded]; rfl
    have carries : hasEncoder (fold p s.exiting) = true := by rw [folded]; exact encoder
    rw [settled other, exitState_eq, place, known, stops, left.counts.1, left.counts.2, folded]
    refine ⟨?_, rfl, rfl⟩
    rw [← folded]
    simp only [carries, true_and, ite_not]
  · have other : isLoop s = false ∧ hasEncoder s = false := by
      simp only [isTerminal, beq_iff_eq] at terminal
      simp [isLoop, hasEncoder, isDrive, isCar, terminal]
    rw [settled other.1, noEncoder other.2]
  · rw [← noEncoder (hasEncoder_of_isLoop loop)]
    exact left.state
  · obtain ⟨tracks, outcome⟩ := silence loop fresh silent
    refine ⟨fun x _ => ?_, ?_⟩
    · rw [loopT, tracks x]
      cases detectorPin s.inputs.pins { track := x, atEnd := .low } <;>
        cases detectorPin s.inputs.pins { track := x, atEnd := .up } <;> rfl
    · split
      · next pairs =>
        rw [if_pos pairs] at outcome
        exact ⟨onward.raises.tripped outcome.1, by simpa using onward.raises.own _ outcome.2⟩
      · next single =>
        rw [if_neg single] at outcome
        refine ⟨?_, fun up => by rw [calm up, outcome.2, b.trips]⟩
        split
        · next down => exact (stopped down).1
        · next up => rw [calm (by simpa using up), outcome.1, b.state, noEncoder (hasEncoder_of_isLoop loop)]
  · obtain ⟨state, input, own⟩ := stopped down
    exact ⟨state, input, by simpa using own⟩
  · rw [loopT]
    have shown := levels loop
    rw [pinsG] at shown
    exact ⟨shown .a .low, shown .a .up, shown .b .low, shown .b .up⟩
  · rw [loopT, rises other, b.loop]
  · rw [calm up, rises other, b.trips]

end Sys2Proof.Machine
end

section
/-! PROOF. The take at a DRIVE or CAR (R18 to R21). -/

namespace Sys2Proof.Machine

section

variable {p : Profile} {s : State}

/-- The tracker's own state of the markers and the comparisons moves after the take; the take's record does not (R37). -/
structure KeepsTake (k t : Tracker) : Prop where
  first : t.first = k.first
  second : t.second = k.second
  delta : t.delta = k.delta
  illegal : t.illegal = k.illegal
  history : t.history = k.history
  speed : t.speed = k.speed
  motion : t.motion = k.motion
  latch : t.sensorLatch = k.sensorLatch
  load : t.load = k.load

theorem KeepsTake.refl (k : Tracker) : KeepsTake k k := ⟨rfl, rfl, rfl, rfl, rfl, rfl, rfl, rfl, rfl⟩

theorem KeepsTake.trans {k l m : Tracker} (one : KeepsTake k l) (two : KeepsTake l m) : KeepsTake k m :=
  ⟨two.first.trans one.first, two.second.trans one.second, two.delta.trans one.delta, two.illegal.trans one.illegal,
    two.history.trans one.history, two.speed.trans one.speed, two.motion.trans one.motion, two.latch.trans one.latch,
    two.load.trans one.load⟩

/-- Steps 4 and 5 (R25, R26, R28). -/
theorem keepsTake_referenceStep (p : Profile) (s : State) : KeepsTake s.tracker (referenceStep p s).tracker := by
  have missed : KeepsTake s.tracker (judgeMiss p s).tracker := by
    unfold judgeMiss
    (repeat' split)
    · exact .refl _
    · exact ⟨rfl, rfl, rfl, rfl, rfl, rfl, rfl, rfl, rfl⟩
    · obtain ⟨r, same⟩ := raiseCause_tracker .markerLost s
      simp only [withdrawMarkers, same]
      exact ⟨rfl, rfl, rfl, rfl, rfl, rfl, rfl, rfl, rfl⟩
    · exact .refl _
  unfold referenceStep
  split
  · rw [chooseExpected_eq]
    exact missed.trans ⟨rfl, rfl, rfl, rfl, rfl, rfl, rfl, rfl, rfl⟩
  · split
    · exact .refl _
    · obtain ⟨-, same⟩ | ⟨x, r, -, same⟩ := reReference_cases p s
      · rw [same]
        exact .refl _
      · rw [same]
        exact ⟨rfl, rfl, rfl, rfl, rfl, rfl, rfl, rfl, rfl⟩

theorem keepsTake_withdrawn (drive : Bool) (k : Tracker) : KeepsTake k (k.withdrawn drive) := by
  cases drive <;> exact ⟨rfl, rfl, rfl, rfl, rfl, rfl, rfl, rfl, rfl⟩

/-- Step 6 (R33, R34). -/
theorem keepsTake_compareStep (p : Profile) (s : State) : KeepsTake s.tracker (compareStep p s).tracker := by
  obtain ⟨d, a, b, r, -, same⟩ := compareStep_tracker p s
  rw [same]
  split
  · exact (keepsTake_withdrawn _ _).trans ⟨rfl, rfl, rfl, rfl, rfl, rfl, rfl, rfl, rfl⟩
  · exact ⟨rfl, rfl, rfl, rfl, rfl, rfl, rfl, rfl, rfl⟩

/-- The record of the take stands at the end of the tick (R37). -/
theorem keepsTake_at_end (encoder : hasEncoder s = true) (loaded : s.loader.profile = some p) :
    KeepsTake (counted p s).tracker (sampleWork s).tracker := by
  have steps := (keepsTake_referenceStep p (counted p s)).trans (keepsTake_compareStep p _)
  rcases tick_tracker encoder loaded rfl with ⟨r, same⟩ | ⟨-, -, -, x, r, -, same⟩
  · rw [same]
    exact steps.trans ⟨rfl, rfl, rfl, rfl, rfl, rfl, rfl, rfl, rfl⟩
  · rw [same]
    exact steps.trans ⟨rfl, rfl, rfl, rfl, rfl, rfl, rfl, rfl, rfl⟩

/-! ## The record of the take (R18 to R20) -/

theorem takeStep_history (p : Profile) (s : State) : (takeStep p s).tracker.history = s.tracker.history := by
  obtain ⟨l, r, same⟩ := takeStep_tracker p s
  rw [same]

theorem counted_record (p : Profile) (s : State) :
    (counted p s).tracker.speed = speedOf (cpm s p) (newestSum s.tracker.history (takenDelta s p))
      ∧ (counted p s).tracker.motion = motionOf (newestSum s.tracker.history (takenDelta s p))
      ∧ (counted p s).tracker.history =
        joinHistory s.tracker.history { delta := takenDelta s p, speed := (counted p s).tracker.speed } := by
  unfold counted countStep
  rw [recordStep_tracker, recordedTracker, takeStep_history]
  exact ⟨rfl, rfl, rfl⟩

/-- SPEED_SENSOR's latch after the take, and the trip it brings (R18). -/
theorem takeStep_latch (p : Profile) (s : State) :
    if takeFaulty s p = true then
      (s.seq.state ≠ .faulted → (takeStep p s).tracker.sensorLatch = true)
        ∧ (inService s = true → s.tracker.sensorLatch = false →
          (takeStep p s).seq.state = .tripped ∧ Cause.speedSensor ∈ (takeStep p s).trips.own)
    else (takeStep p s).tracker.sensorLatch = false := by
  unfold takeStep
  dsimp only
  split
  · split
    · next held =>
      simp only [Bool.or_eq_true, inState, beq_iff_eq] at held
      refine ⟨fun out => ?_, fun service clear => ?_⟩
      · exact held.resolve_right out
      · have faulted := held.resolve_left (by simp [clear])
        simp [inService, inState, faulted] at service
    · obtain ⟨r, same⟩ := raiseCause_tracker .speedSensor
        { s with tracker := { s.tracker with delta := 0, illegal := false, sensorLatch := true } }
      refine ⟨fun _ => by simp [same], fun service _ => ?_⟩
      obtain ⟨tripped, own⟩ := raised_in_service (c := .speedSensor)
        (s := { s with tracker := { s.tracker with delta := 0, illegal := false, sensorLatch := true } }) service
      exact ⟨tripped, own ▸ mem_addCause _ _⟩
  · rfl

theorem counted_latch (p : Profile) (s : State) :
    (counted p s).tracker.sensorLatch = (takeStep p s).tracker.sensorLatch := by
  unfold counted countStep
  rw [recordStep_tracker]
  rfl

/-- A trip of the take's stands at the end of the tick. -/
theorem speedSensor_at_end (encoder : hasEncoder s = true) (loaded : s.loader.profile = some p)
    (tripped : (takeStep p s).seq.state = .tripped) (own : Cause.speedSensor ∈ (takeStep p s).trips.own) :
    (sampleWork s).seq.state = .tripped ∧ Cause.speedSensor ∈ (sampleWork s).trips.own := by
  have rest : Raises trackerCauses (takeStep p s) (trackerWork s) := by
    rw [trackerWork_loaded encoder loaded]
    exact ((raises_recordStep _ _ _).trans (raises_countStep _ _)).trans
      ((raises_referenceStep p _).trans ((raises_compareStep p _).trans (raises_judgeStill p _)))
  exact sampleWork_trips (rest.tripped tripped) (rest.own _ own)

/-! ## The counts and the quality at the end of the tick (R18, R21) -/

theorem judgeMiss_keeps (p : Profile) (s : State) :
    (judgeMiss p s).tracker.counts = s.tracker.counts
      ∧ ((judgeMiss p s).tracker.quality = s.tracker.quality ∨ (judgeMiss p s).tracker.quality = lowered s.tracker.quality
        ∨ (judgeMiss p s).tracker.quality = .none) := by
  unfold judgeMiss
  split
  · exact ⟨rfl, .inl rfl⟩
  · split
    · split
      · exact ⟨rfl, .inr (.inl rfl)⟩
      · obtain ⟨r, same⟩ := raiseCause_tracker .markerLost s
        exact ⟨by simp [withdrawMarkers, same], .inr (.inr rfl)⟩
    · exact ⟨rfl, .inl rfl⟩

theorem lowered_ne_marked (q : Quality) : lowered q ≠ .marked := by cases q <;> simp [lowered]

/-- A faulty take leaves a CAR's quality below MARKED (R18). -/
theorem quality_at_end (car : isCar s = true) (loaded : s.loader.profile = some p) (faulty : takeFaulty s p = true) :
    (sampleWork s).tracker.quality ≠ .marked := by
  obtain ⟨l, q, h, v, m, same⟩ := counted_tracker p s
  have low : (counted p s).tracker.quality = lowered s.tracker.quality := by
    rw [same]
    exact if_pos faulty
  obtain ⟨-, ⟨-, none, -⟩ | ⟨quality, -⟩⟩ := marked_at_end car loaded
  · rw [none]
    simp
  · rw [quality, marked_tracker]
    show (judgeMiss p (counted p s)).tracker.quality ≠ .marked
    rcases (judgeMiss_keeps p (counted p s)).2 with kept | lower | none
    · rw [kept, low]
      exact lowered_ne_marked _
    · rw [lower]
      exact lowered_ne_marked _
    · rw [none]
      simp

/-- The counts stand after the take where no re-reference follows (R28). -/
theorem counts_at_end (encoder : hasEncoder s = true) (loaded : s.loader.profile = some p)
    (kept : isCar s = true ∨ (located s = true ∧ (s.seq.state = .dwell ∨ (sampleWork s).seq.state ≠ .dwell))) :
    (sampleWork s).tracker.counts = sat32 (s.tracker.counts + takenDelta s p) := by
  obtain ⟨l, q, h, v, m, same⟩ := counted_tracker p s
  have counts : (referenceStep p (counted p s)).tracker.counts = (counted p s).tracker.counts := by
    rcases kept with car | ⟨known, -⟩
    · rw [referenceStep_of_car car, marked_tracker]
      exact (judgeMiss_keeps p (counted p s)).1
    · have place : located (counted p s) = true := located_counted.trans known
      unfold referenceStep
      rw [if_pos place]
      split
      · rw [chooseExpected_eq]
        exact (judgeMiss_keeps p (counted p s)).1
      · rfl
  obtain ⟨d, a, b, r, -, compared⟩ := compareStep_tracker p (referenceStep p (counted p s))
  have stands : (compareStep p (referenceStep p (counted p s))).tracker.counts = sat32 (s.tracker.counts + takenDelta s p) := by
    rw [compared]
    split
    · unfold Tracker.withdrawn
      split <;> simp [counts, same]
    · simp [counts, same]
  rcases tick_tracker encoder loaded rfl with ⟨r', ends⟩ | ⟨dwell, entered, drive, -⟩
  · rw [ends, ← stands]
  · rcases kept with car | ⟨-, home | away⟩
    · rw [isDrive_of_isCar car] at drive
      cases drive
    · exact absurd home entered
    · exact absurd dwell away

end

/-- Settles O14: the take's record, which the rest of the tick keeps. -/
theorem encoderTakesItsCounts : Obligations.EncoderTakesItsCounts := by
  rintro d p s live encoder begun due loaded rfl
  obtain ⟨z, taken⟩ := exec_sampleTick live due begun
  obtain ⟨power, time, inputs, loader, peers, port, -⟩ := sampleWork_frame s.ticked
  have loop := loop_of_encoder (s := s.ticked) encoder
  have keeps := keepsTake_at_end (s := s.ticked) encoder loaded
  obtain ⟨speed, motion, history⟩ := counted_record p s.ticked
  have latch := takeStep_latch p s.ticked
  rw [← counted_latch, ← keeps.latch] at latch
  obtain ⟨l, r, h, v, m, same⟩ := counted_tracker p s.ticked
  refine ⟨_, taken, ?_⟩
  simp only [State.clocked_frame]
  refine ⟨time, ?_, ?_, fun kept => counts_at_end (s := s.ticked) encoder loaded kept, ?_, ?_, ?_, ?_, power, inputs, loader,
    peers, loop, port, ?_, ?_, ?_⟩
  · rw [keeps.delta, same]
  · rw [keeps.illegal, same]
  · rw [keeps.speed, speed]
    rfl
  · rw [keeps.motion, motion]
    rfl
  · rw [keeps.history, history, keeps.speed]
    rfl
  · have faulty : takeFaulty s.ticked p = true
        ↔ max (-2047) (min 2047 (invertedDelta s p)) ≠ invertedDelta s p ∨ s.tracker.illegal = true := by
      simp only [takeFaulty, Bool.or_eq_true, decide_eq_true_eq]
      exact Iff.rfl
    split
    · next faults =>
      have fails := faulty.mpr faults
      rw [if_pos fails] at latch
      refine ⟨fun car => quality_at_end (s := s.ticked) car loaded fails, latch.1, fun out clear => ?_⟩
      obtain ⟨tripped, own⟩ := latch.2 ((inService_iff _).mpr ⟨begun, out⟩) clear
      obtain ⟨tripped, own⟩ := speedSensor_at_end (s := s.ticked) encoder loaded tripped own
      exact ⟨tripped, by simpa using own⟩
    · next sound =>
      rw [if_neg fun h => sound (faulty.mp h)] at latch
      exact latch
  · rw [keeps.first, same]
    rfl
  · rw [keeps.second, same]
    rfl
  · rw [keeps.load, same]
    rfl

end Sys2Proof.Machine
end
